-- ==== Sys2Proof/Word.lean ====
section
/-! DEFINITION. The words of the NFJ2460: a byte of a link frame, a value of the 1 ms time base, and one value for each
pantograph, link, class or line system. -/

namespace Sys2Proof

/-- A byte of a link frame (R175). -/
abbrev Byte := BitVec 8

/-- A value of the 1 ms time base: 32 bits, wrapping (R1). -/
abbrev Time := BitVec 32

/-- The time elapsed since a recorded value, modulo 2^32 (R1). -/
def Time.since (now start : Time) : Nat := (now - start).toNat

/-- The three command links (section 1.5 of the scope file). -/
inductive Link
  | a | b | m
  deriving DecidableEq, Repr

/-- The four pantograph channels. -/
inductive Pan
  | p1 | p2 | p3 | p4
  deriving DecidableEq, Repr

/-- The class of a line system or of a pan head (Table 0-2). -/
inductive PClass
  | ac | dc
  deriving DecidableEq, Repr

/-- The four line systems that carry voltage (Table 0-2). -/
inductive LineSys
  | ac25 | ac15 | dc30 | dc15
  deriving DecidableEq, Repr

/-- The class of a line system (Table 0-2). -/
def LineSys.cls : LineSys → PClass
  | .ac25 | .ac15 => .ac
  | .dc30 | .dc15 => .dc

/-- One value for each pantograph channel. -/
structure PerPan (α : Type) where
  p1 : α
  p2 : α
  p3 : α
  p4 : α
  deriving DecidableEq, Repr

/-- The value of one channel. -/
def PerPan.get {α : Type} (v : PerPan α) : Pan → α
  | .p1 => v.p1
  | .p2 => v.p2
  | .p3 => v.p3
  | .p4 => v.p4

/-- The values with one channel's replaced. -/
def PerPan.set {α : Type} (v : PerPan α) (p : Pan) (x : α) : PerPan α :=
  match p with
  | .p1 => { v with p1 := x }
  | .p2 => { v with p2 := x }
  | .p3 => { v with p3 := x }
  | .p4 => { v with p4 := x }

/-- The same value for every channel. -/
def PerPan.all {α : Type} (x : α) : PerPan α := ⟨x, x, x, x⟩

/-- One value for each link. -/
structure PerLink (α : Type) where
  a : α
  b : α
  m : α
  deriving DecidableEq, Repr

/-- The value of one link. -/
def PerLink.get {α : Type} (v : PerLink α) : Link → α
  | .a => v.a
  | .b => v.b
  | .m => v.m

/-- The values with one link's replaced. -/
def PerLink.set {α : Type} (v : PerLink α) (l : Link) (x : α) : PerLink α :=
  match l with
  | .a => { v with a := x }
  | .b => { v with b := x }
  | .m => { v with m := x }

/-- The same value for every link. -/
def PerLink.all {α : Type} (x : α) : PerLink α := ⟨x, x, x⟩

/-- One value for each class. -/
structure PerClass (α : Type) where
  ac : α
  dc : α
  deriving DecidableEq, Repr

/-- The value of one class. -/
def PerClass.get {α : Type} (v : PerClass α) : PClass → α
  | .ac => v.ac
  | .dc => v.dc

/-- The values with one class's replaced. -/
def PerClass.set {α : Type} (v : PerClass α) (c : PClass) (x : α) : PerClass α :=
  match c with
  | .ac => { v with ac := x }
  | .dc => { v with dc := x }

/-- One value for each line system. -/
structure PerSys (α : Type) where
  ac25 : α
  ac15 : α
  dc30 : α
  dc15 : α
  deriving DecidableEq, Repr

/-- The value of one line system. -/
def PerSys.get {α : Type} (v : PerSys α) : LineSys → α
  | .ac25 => v.ac25
  | .ac15 => v.ac15
  | .dc30 => v.dc30
  | .dc15 => v.dc15

/-- The values with one line system's replaced. -/
def PerSys.set {α : Type} (v : PerSys α) (y : LineSys) (x : α) : PerSys α :=
  match y with
  | .ac25 => { v with ac25 := x }
  | .ac15 => { v with ac15 := x }
  | .dc30 => { v with dc30 := x }
  | .dc15 => { v with dc15 := x }

/-- The same value for every line system. -/
def PerSys.all {α : Type} (x : α) : PerSys α := ⟨x, x, x, x⟩

/-- The four channels in order. -/
def Pan.all : List Pan := [.p1, .p2, .p3, .p4]

/-- The three links in order. -/
def Link.all : List Link := [.a, .b, .m]

/-- A channel's number, 1 to 4. -/
def Pan.num : Pan → Nat
  | .p1 => 1
  | .p2 => 2
  | .p3 => 3
  | .p4 => 4

/-- A value held within bounds: it takes the nearer bound when it leaves the range. -/
def clampNat (lo hi x : Nat) : Nat := max lo (min hi x)

/-- The elements that are present, in order. -/
def firstSome {α : Type} : List (Option α) → Option α
  | [] => none
  | some x :: _ => some x
  | none :: rest => firstSome rest

end Sys2Proof
end

