-- ==== Sys2Proof/Syntax.lean ====
section
/-! DEFINITION. The commands of Table 10-6 with their operands (`Cmd`) and the 92 rows of the opcode table (`Instr`):
the commands as they are offered to a link, and the events of the links and of the roof signal lines. -/

namespace Sys2Proof

/-- The role a pantograph is raised in: COLLECTING or SCRAPE (Table 0-2). Role NONE is the absence of a duty. -/
inductive Duty
  | collecting | scrape
  deriving DecidableEq, Repr

/-- A disconnector position. -/
inductive DiscPos
  | connected | disconnected
  deriving DecidableEq, Repr

/-- A reading of the breaker feedback (R78). -/
inductive BreakerReading
  | opened | closed | invalid
  deriving DecidableEq, Repr

/-- A selector position: OPEN or a system position (section 5.6). -/
inductive SelPos
  | opened
  | sys (y : LineSys)
  deriving DecidableEq, Repr

/-- A reading of the travel direction line (section 1.3). -/
inductive TravelDir
  | aForward | bForward
  deriving DecidableEq, Repr

/-- A level of a link's line (R175). -/
inductive Level
  | mark | space
  deriving DecidableEq, Repr

/-- The end of a byte as the receiver reads it: its parity bit and the level of its stop bit (R175). -/
structure ByteTail where
  parity : Bool
  stop : Level
  deriving DecidableEq, Repr

/-- What happens on a pulse input (R3, R143): it goes active, it has been active for a time in microseconds, or it goes
inactive. -/
inductive PulseLine
  | goesActive
  | activeFor (us : Nat)
  | goesInactive
  deriving DecidableEq, Repr

/-- A command as a link takes it: one constructor for each command of Table 10-6 with its operands in the order of the
owning rule, as the numbers their bytes carry (R183), and the two shapes that the checks of R181 refuse. -/
inductive Cmd
  | nop
  | linkStatus
  | sync
  | travelRead
  | positionFix (m : Nat)
  | setFormation (fA fB : Nat)
  | lineRead
  | raise (pan role : Nat)
  | lower (pan : Nat)
  | discSet (pan pos : Nat)
  | addReset (pan : Nat)
  | isolate (pan : Nat)
  | restore (pan : Nat)
  | panRead (pan : Nat)
  | forceTableWrite (cls point force : Nat)
  | forceTableWriteNext (force : Nat)
  | forceTableRead (cls point : Nat)
  | forceTableReadNext
  | forceRead (pan : Nat)
  | breakerClose
  | breakerOpen
  | select (pos : Nat)
  | earthPermit (op : Nat)
  | breakerRead
  | mapInsert (kind start length systemAfter swap panLimit : Nat)
  | mapDelete (id : Nat)
  | mapRead (index : Nat)
  | mapReadNext
  | mapStatus
  | roofReset
  | seqRead
  | iceMode (enable suspect confirmed permit : Nat)
  | heat (pan op : Nat)
  | iceWeather (op : Nat)
  | iceRead
  | authRequest
  | authRelease
  | authRead
  | lowerAll
  | configWrite (item index value : Nat)
  | configRead (item index : Nat)
  | configCommit
  | configReopen
  | noticeRead
  | noticeClear (causes : BitVec 16)
  | noticeEnable (causes : BitVec 16)
  | faultRead
  | faultClear
  /-- A frame whose command code names no command (R181, check 1). -/
  | unknown (code : Byte)
  /-- A frame of a known command with a wrong operand length (R181, check 2). -/
  | badLength (code : Byte)
  deriving DecidableEq, Repr

/-- One constructor for each row of the opcode table, in the table's order. A command row is a correct frame of that
command, with its tag, completing on link `l` and offered to the link's receive queue (R180). -/
inductive Instr
  | powerOn
  | nop (l : Link) (tag : Byte)
  | linkStatus (l : Link) (tag : Byte)
  | sync (l : Link) (tag : Byte)
  | travelRead (l : Link) (tag : Byte)
  | positionFix (l : Link) (tag : Byte) (m : Nat)
  | setFormation (l : Link) (tag : Byte) (fA fB : Nat)
  | lineRead (l : Link) (tag : Byte)
  | raise (l : Link) (tag : Byte) (pan role : Nat)
  | lower (l : Link) (tag : Byte) (pan : Nat)
  | discSet (l : Link) (tag : Byte) (pan pos : Nat)
  | addReset (l : Link) (tag : Byte) (pan : Nat)
  | isolate (l : Link) (tag : Byte) (pan : Nat)
  | restore (l : Link) (tag : Byte) (pan : Nat)
  | panRead (l : Link) (tag : Byte) (pan : Nat)
  | forceTableWrite (l : Link) (tag : Byte) (cls point force : Nat)
  | forceTableWriteNext (l : Link) (tag : Byte) (force : Nat)
  | forceTableRead (l : Link) (tag : Byte) (cls point : Nat)
  | forceTableReadNext (l : Link) (tag : Byte)
  | forceRead (l : Link) (tag : Byte) (pan : Nat)
  | breakerClose (l : Link) (tag : Byte)
  | breakerOpen (l : Link) (tag : Byte)
  | select (l : Link) (tag : Byte) (pos : Nat)
  | earthPermit (l : Link) (tag : Byte) (op : Nat)
  | breakerRead (l : Link) (tag : Byte)
  | mapInsert (l : Link) (tag : Byte) (kind start length systemAfter swap panLimit : Nat)
  | mapDelete (l : Link) (tag : Byte) (id : Nat)
  | mapRead (l : Link) (tag : Byte) (index : Nat)
  | mapReadNext (l : Link) (tag : Byte)
  | mapStatus (l : Link) (tag : Byte)
  | roofReset (l : Link) (tag : Byte)
  | seqRead (l : Link) (tag : Byte)
  | iceMode (l : Link) (tag : Byte) (enable suspect confirmed permit : Nat)
  | heat (l : Link) (tag : Byte) (pan op : Nat)
  | iceWeather (l : Link) (tag : Byte) (op : Nat)
  | iceRead (l : Link) (tag : Byte)
  | authRequest (l : Link) (tag : Byte)
  | authRelease (l : Link) (tag : Byte)
  | authRead (l : Link) (tag : Byte)
  | lowerAll (l : Link) (tag : Byte)
  | configWrite (l : Link) (tag : Byte) (item index value : Nat)
  | configRead (l : Link) (tag : Byte) (item index : Nat)
  | configCommit (l : Link) (tag : Byte)
  | configReopen (l : Link) (tag : Byte)
  | noticeRead (l : Link) (tag : Byte)
  | noticeClear (l : Link) (tag : Byte) (causes : BitVec 16)
  | noticeEnable (l : Link) (tag : Byte) (causes : BitVec 16)
  | faultRead (l : Link) (tag : Byte)
  | faultClear (l : Link) (tag : Byte)
  /-- A correct frame whose code names no command is offered to the link. -/
  | unknownCommand (l : Link) (tag : Byte) (code : Byte)
  /-- The last byte of a frame arrives on the link. -/
  | frameComplete (l : Link) (byte : Byte)
  /-- A byte ends on the link with the parity bit and the stop bit that `tail` gives; whether it is in error is judged from
  them (R175). -/
  | faultyByte (l : Link) (byte : Byte) (tail : ByteTail)
  | frameGapTimeout (l : Link)
  | receiverIdle (l : Link)
  | responseSent (l : Link)
  /-- The receive line of the link has rested at space for 2 ms. -/
  | linkReset (l : Link)
  /-- The receive line of the link returns from space to mark. -/
  | breakEnd (l : Link)
  | holdOffEnd (l : Link)
  /-- An event `x` of the travel pulse line, with the direction line at `dir`. -/
  | travelPulse (dir : TravelDir) (x : PulseLine)
  | speedIntervalEnd
  | lineSample (x : BitVec 16)
  | sampleLoss
  | contactSenseChange (p : Pan) (active : Bool)
  | loweredLimitChange (p : Pan) (active : Bool)
  /-- A head pressure sample in kPa. -/
  | pressureSample (p : Pan) (kPa : Int)
  | pressureGap (p : Pan)
  | settleComplete (p : Pan)
  | raiseTimeout (p : Pan)
  | contactLost (p : Pan)
  | lowerTimeout (p : Pan)
  | disconnectorFeedback (p : Pan) (reading : Option DiscPos)
  | discMoveTimeout (p : Pan)
  | breakerFeedback (reading : BreakerReading)
  | breakerCloseTimeout
  | breakerOpenTimeout
  | lineLostWatchExpiry
  | autoReclose
  | selectorFeedback (reading : Option SelPos)
  | selectorMoveTimeout
  | earthSwitchFeedback (earthed : Bool)
  | confirmLimitExpiry
  /-- An event `x` of a pantograph's arc pulse input. -/
  | arcPulse (p : Pan) (x : PulseLine)
  | arcBinEnd
  /-- A temperature word in tenths of a degree Celsius. -/
  | temperatureWord (tenths : Int)
  | tempStale
  | tempSubstituteSample
  | releaseTimerExpiry
  | clearDwellExpiry
  | heaterOnTimeLimit (p : Pan)
  | heaterRestEnd (p : Pan)
  | supervisionLapse
  /-- A byte arrives on the link without error. -/
  | byteReceived (l : Link) (byte : Byte)
  deriving DecidableEq, Repr

end Sys2Proof
end

