-- ==== Sys2Proof/Config.lean ====
section
/-! DEFINITION. The fixed figures of the NFJ2460 and the three choices its manual leaves open inside an event. -/

namespace Sys2Proof.Config

/-- Highest odometer value in mm (R5). -/
def frontMax : Nat := 4294967295
/-- Highest speed in mm/s (R6). -/
def speedMax : Nat := 125000
/-- Length of a run that changes the direction state, in mm (R8). -/
def runMax : Nat := 2000
/-- Highest route position in m (R10, R97). -/
def routeMax : Nat := 4294967
/-- Highest formation offset in mm (R15). -/
def formationMax : Nat := 500000
/-- Length of a speed interval in ms (R2). -/
def speedInterval : Nat := 100
/-- Samples of a detection window (section 2.1). -/
def windowLength : Nat := 480
/-- Half width of the crossing band in counts (section 2.3). -/
def crossBand : Int := 500
/-- Count at which a last crossing is forgotten (R22). -/
def crossLimit : Nat := 1023
/-- Gap after which sample loss is declared, in ms (R32). -/
def sampleGap : Nat := 2
/-- Lowest and highest valid head pressure in kPa (R48). -/
def pressureLow : Int := -20
def pressureHigh : Int := 700
/-- Pressure gap that trips the automatic dropping device, in ms (R48). -/
def pressureGap : Nat := 20
/-- Half width of the settle band in kPa (R41). -/
def settleBand : Int := 15
/-- Contact-loss limit in ms (R43). -/
def contactLoss : Nat := 500
/-- Disconnector move limit in ms (R52). -/
def discMove : Nat := 2000
/-- Breaker close limit in ms (R82). -/
def breakerClose : Nat := 300
/-- Breaker open limit in ms (R82). -/
def breakerOpen : Nat := 200
/-- Selector move limit in ms (R91). -/
def selectorMove : Nat := 4000
/-- Reclose timer in ms (R88). -/
def reclose : Nat := 2000
/-- The 60 s rule of R87, in ms. -/
def recloseSpacing : Nat := 60000
/-- Route map capacity (R98). -/
def mapCapacity : Nat := 64
/-- Highest entry id (R99). -/
def idMax : Nat := 65535
/-- Bin length in ms (R144). -/
def binLength : Nat := 1000
/-- Highest count of a current bin (R144). -/
def binMax : Nat := 65535
/-- Lowest and highest valid temperature word, tenths of a degree (R145). -/
def tempLow : Int := -500
def tempHigh : Int := 800
/-- The icing band, tenths of a degree (R145). -/
def icingLow : Int := -100
def icingHigh : Int := 20
/-- Temperature stale limit in ms (R145). -/
def tempStale : Nat := 5000
/-- Period of the substitute samples in ms (R145). -/
def substitutePeriod : Nat := 1000
/-- Level 1 run (R146). -/
def runLevel1 : Nat := 60
/-- Level 1 release in ms (R148). -/
def releaseTime : Nat := 300000
/-- Confirmed clear dwell in ms (R149). -/
def clearDwell : Nat := 60000
/-- Heater on-time limit in ms (R152). -/
def heaterOn : Nat := 600000
/-- Heater forced rest in ms (R152). -/
def heaterRest : Nat := 120000
/-- Frame gap and quiet time of a receiver in ms (R178, R179). -/
def byteGap : Nat := 1
/-- Length of a break in ms (R190). -/
def breakLength : Nat := 2
/-- Highest ms value that a timer field of four bytes reports (R183). -/
def reportMax : Nat := 4294967295
/-- Receive queue length (R180). -/
def queueLength : Nat := 4
/-- Hold-off after a link reset in ms (R190). -/
def holdOff : Nat := 20
/-- Shortest and longest value of a frame's length byte (R176). -/
def lengthMin : Nat := 2
def lengthMax : Nat := 60
/-- Lowest and highest force in N (R66, R72). -/
def forceMin : Nat := 40
def forceMax : Nat := 200

/-- Where two blocks report faults at one event, either may reach NFU first (R200). The spec leaves the order open, so it
is a free choice: nothing constrains this function. It is applied to the state's `freeCount`. -/
opaque firstBlockReports : Nat → Bool

/-- Where a change of holder and the activation of an entry fall together at one event, either may be taken first (R167).
The spec leaves the order open, so it is a free choice: nothing constrains this function. It is applied to the state's
`freeCount`. -/
opaque changeFirst : Nat → Bool

/-- Where a hold-off ends at the ms at which a space has lasted the length of a break, either may be taken first (R190). The
spec leaves the order open, so it is a free choice: nothing constrains this function. It is applied to the count of ms since
power-on. -/
opaque breakFirst : Nat → Bool

end Sys2Proof.Config
end

