-- ==== Sys2Proof/WellFormed.lean ====
section
/-! DEFINITION. Which commands and events can be spelled: every operand of a command fits the bytes that carry it
(R183, R184), and the code of UNKNOWN_COMMAND names no command (R176). A value that fits its bytes but lies outside the
owning rule's range is well formed: the rule refuses it with BAD_OPERAND. -/

namespace Sys2Proof

/-- The number fits `k` bytes. -/
def fits (k n : Nat) : Bool := n < 256 ^ k

/-- Command codes that name a command: 0x01 to 0x30 (R176). -/
def knownCode (c : Byte) : Bool := 1 ≤ c.toNat && c.toNat ≤ 48

/-- Every operand of the command fits its field (R183, R184). -/
def Cmd.wf : Cmd → Bool
  | .positionFix m => fits 3 m
  | .setFormation fA fB => fits 3 fA && fits 3 fB
  | .raise p r => fits 1 p && fits 1 r
  | .lower p => fits 1 p
  | .discSet p q => fits 1 p && fits 1 q
  | .addReset p => fits 1 p
  | .isolate p => fits 1 p
  | .restore p => fits 1 p
  | .panRead p => fits 1 p
  | .forceTableWrite c i f => fits 1 c && fits 1 i && fits 1 f
  | .forceTableWriteNext f => fits 1 f
  | .forceTableRead c i => fits 1 c && fits 1 i
  | .forceRead p => fits 1 p
  | .select q => fits 1 q
  | .earthPermit o => fits 1 o
  | .mapInsert k s n y w lim => fits 1 k && fits 4 s && fits 2 n && fits 1 y && fits 1 w && fits 1 lim
  | .mapDelete i => fits 2 i
  | .mapRead i => fits 1 i
  | .iceMode e u c t => fits 1 e && fits 1 u && fits 1 c && fits 1 t
  | .heat p o => fits 1 p && fits 1 o
  | .iceWeather o => fits 1 o
  | .configWrite i x v => fits 1 i && fits 1 x && fits 4 v
  | .configRead i x => fits 1 i && fits 1 x
  | .unknown c => !knownCode c
  | .badLength c => knownCode c
  | .nop | .linkStatus | .sync | .travelRead | .lineRead | .forceTableReadNext | .breakerClose | .breakerOpen
  | .breakerRead | .mapReadNext | .mapStatus | .roofReset | .seqRead | .iceRead | .authRequest | .authRelease
  | .authRead | .lowerAll | .configCommit | .configReopen | .noticeRead | .noticeClear _ | .noticeEnable _
  | .faultRead | .faultClear => true

/-- The command that a command row carries; none for the events. -/
def Instr.cmd : Instr → Option Cmd
  | .powerOn => none
  | .nop _ _ => some .nop
  | .linkStatus _ _ => some .linkStatus
  | .sync _ _ => some .sync
  | .travelRead _ _ => some .travelRead
  | .positionFix _ _ m => some (.positionFix m)
  | .setFormation _ _ fA fB => some (.setFormation fA fB)
  | .lineRead _ _ => some .lineRead
  | .raise _ _ p r => some (.raise p r)
  | .lower _ _ p => some (.lower p)
  | .discSet _ _ p q => some (.discSet p q)
  | .addReset _ _ p => some (.addReset p)
  | .isolate _ _ p => some (.isolate p)
  | .restore _ _ p => some (.restore p)
  | .panRead _ _ p => some (.panRead p)
  | .forceTableWrite _ _ c i f => some (.forceTableWrite c i f)
  | .forceTableWriteNext _ _ f => some (.forceTableWriteNext f)
  | .forceTableRead _ _ c i => some (.forceTableRead c i)
  | .forceTableReadNext _ _ => some .forceTableReadNext
  | .forceRead _ _ p => some (.forceRead p)
  | .breakerClose _ _ => some .breakerClose
  | .breakerOpen _ _ => some .breakerOpen
  | .select _ _ q => some (.select q)
  | .earthPermit _ _ o => some (.earthPermit o)
  | .breakerRead _ _ => some .breakerRead
  | .mapInsert _ _ k s n y w lim => some (.mapInsert k s n y w lim)
  | .mapDelete _ _ i => some (.mapDelete i)
  | .mapRead _ _ i => some (.mapRead i)
  | .mapReadNext _ _ => some .mapReadNext
  | .mapStatus _ _ => some .mapStatus
  | .roofReset _ _ => some .roofReset
  | .seqRead _ _ => some .seqRead
  | .iceMode _ _ e u c t => some (.iceMode e u c t)
  | .heat _ _ p o => some (.heat p o)
  | .iceWeather _ _ o => some (.iceWeather o)
  | .iceRead _ _ => some .iceRead
  | .authRequest _ _ => some .authRequest
  | .authRelease _ _ => some .authRelease
  | .authRead _ _ => some .authRead
  | .lowerAll _ _ => some .lowerAll
  | .configWrite _ _ i x v => some (.configWrite i x v)
  | .configRead _ _ i x => some (.configRead i x)
  | .configCommit _ _ => some .configCommit
  | .configReopen _ _ => some .configReopen
  | .noticeRead _ _ => some .noticeRead
  | .noticeClear _ _ c => some (.noticeClear c)
  | .noticeEnable _ _ c => some (.noticeEnable c)
  | .faultRead _ _ => some .faultRead
  | .faultClear _ _ => some .faultClear
  | .unknownCommand _ _ c => some (.unknown c)
  | .frameComplete _ _ | .faultyByte _ _ _ | .frameGapTimeout _ | .receiverIdle _ | .responseSent _ | .linkReset _
  | .breakEnd _ | .holdOffEnd _ | .travelPulse _ _ | .speedIntervalEnd | .lineSample _ | .sampleLoss
  | .contactSenseChange _ _ | .loweredLimitChange _ _ | .pressureSample _ _ | .pressureGap _ | .settleComplete _
  | .raiseTimeout _ | .contactLost _ | .lowerTimeout _ | .disconnectorFeedback _ _ | .discMoveTimeout _
  | .breakerFeedback _ | .breakerCloseTimeout | .breakerOpenTimeout | .lineLostWatchExpiry | .autoReclose
  | .selectorFeedback _ | .selectorMoveTimeout | .earthSwitchFeedback _ | .confirmLimitExpiry | .arcPulse _ _
  | .arcBinEnd | .temperatureWord _ | .tempStale | .tempSubstituteSample | .releaseTimerExpiry | .clearDwellExpiry
  | .heaterOnTimeLimit _ | .heaterRestEnd _ | .supervisionLapse | .byteReceived _ _ => none

/-- A row that can be spelled: its command, where it has one, fits its fields. -/
def Instr.wf (i : Instr) : Bool :=
  match i.cmd with
  | some c => c.wf
  | none => true

end Sys2Proof
end

