-- ==== Sys2Proof/Machine/State.lean ====
section
/-! DEFINITION. The state of the NFJ2460 as plain data: every piece of state the twelve blocks own (Table 0-1), the roof
signal inputs, the links, and the queue of events that wait. `State.reset` is the state after power-on. -/

namespace Sys2Proof.Machine

/-- No event stops the controller: every abnormal event is a fault reported to NFU (R200), which is part of the state.
So the machine's own fault type has no constructor and nothing raises it (safe). -/
inductive Fault
  deriving DecidableEq, Repr

/-- Why a row has no meaning. -/
inductive Refusal
  /-- Raised by an arm of `exec` whose row the model does not give a meaning yet (safe: the machine stops). -/
  | notModelled (mnemonic : String)
  deriving DecidableEq, Repr

/-! ### Enumerated values -/

/-- Statuses of Table 10-3, in its order. -/
inductive Status
  | ok | accepted | queued | pending | busy | unknownCommand | badOperand | illegalSequence | cursorLost | endOfMap
  | authNotHeld | authBusy | notConfigured | notQuiescent | roofSafe | entryLocked | interlock | panLimit
  | panUnavailable | panBusy | routeInhibit | mapFull | mapBehind | mapOverlap | noEntry | notOwner | syncDenied
  | configInvalid
  deriving DecidableEq, Repr

/-- Notice causes of R198, in its order. -/
inductive Notice
  | pan | breaker | selector | line | lineLost | mismatch | entry | map | ice | auth | fault | roofSafe | link
  | sensor | earth | config
  deriving DecidableEq, Repr

/-- Fault kinds of R200, in its order. -/
inductive FaultKind
  | addTrip | raiseTimeout | lowerTimeout | contactLost | breakerFailOpen | breakerFailClose | selectorFail
  | disconnectorFail | systemMismatch | lineLost | lineSensor | tempSensor | seqFailed | overrun | earthUnexpected
  | roofSafeEntry
  deriving DecidableEq, Repr

/-- A failure reason: a status, a fault kind, or NO_TARGET (R183). -/
inductive Reason
  | status (s : Status)
  | fault (k : FaultKind)
  | noTarget
  deriving DecidableEq, Repr

/-- The cab end that leads (Table 0-2). -/
inductive End
  | endA | endB
  deriving DecidableEq, Repr

/-- TRV's direction state (R8). -/
inductive Direction
  | normal | reversing
  deriving DecidableEq, Repr

/-- LDET's stream state (R20). -/
inductive Stream
  | starting | running | lost
  deriving DecidableEq, Repr

/-- The raw class of a window (section 2.5). -/
inductive RawClass
  | dead
  | sys (y : LineSys)
  | unclassified
  deriving DecidableEq, Repr

/-- The detected system (R30): UNKNOWN, or NONE, one of the line systems or UNCLASSIFIED. -/
inductive Detected
  | unknown
  | raw (c : RawClass)
  deriving DecidableEq, Repr

/-- Pantograph states (Table 3-2). -/
inductive PanState
  | lowered | raising | settling | raised | lowering | dropped | isolated
  deriving DecidableEq, Repr

/-- Disconnector states (R52). -/
inductive Disc
  | resting (p : DiscPos)
  | moving (sought : DiscPos)
  | failed
  deriving DecidableEq, Repr

/-- The sources of a channel's operations (R56). -/
inductive Source
  | sequencer
  | authority (l : Link)
  | ice
  deriving DecidableEq, Repr

/-- A channel's operation (Table 3-2). -/
inductive Op
  | raise (d : Duty)
  | lower
  | discMove (p : DiscPos)
  deriving DecidableEq, Repr

/-- The outcome of an operation (Table 3-2). -/
inductive OpOutcome
  | done
  | failed (r : Reason)
  | aborted
  deriving DecidableEq, Repr

/-- Breaker states (R78). -/
inductive Breaker
  | opened | closing | closed | opening | failed
  deriving DecidableEq, Repr

/-- Selector states (R90): at rest at a position, MOVING with the position left (absent from FAILED) and sought, or
FAILED with the position last sought. -/
inductive Selector
  | rest (p : SelPos)
  | moving (left : Option SelPos) (sought : SelPos)
  | failed (sought : SelPos)
  deriving DecidableEq, Repr

/-- The line-lost watch (R86, R87): stopped, running since a time, or spent until its conditions cease. -/
inductive Watch
  | stopped
  | running (start : Time)
  | spent
  deriving DecidableEq, Repr

/-- What a route entry describes (Table 6-2), with the fields its kind carries. -/
inductive Section
  | neutral (panLimit : Nat)
  | systemChange (after : LineSys) (swap : Bool) (panLimit : Nat)
  | lowerZone
  deriving DecidableEq, Repr

/-- Route entry states (Table 6-2). -/
inductive EntryState
  | pending | armed | active
  deriving DecidableEq, Repr

/-- Removal reasons (Table 6-3). -/
inductive RemovalReason
  | deleted | done | failed | cancelled | overrun
  deriving DecidableEq, Repr

/-- Sequence forms (R121). -/
inductive Form
  | neutral | lowering | rideThrough | lowerZone
  deriving DecidableEq, Repr

/-- Stages (Table 7-2). -/
inductive Stage
  | opening | lowering | selecting | clearing | raising | confirming | closing | recovering
  deriving DecidableEq, Repr

/-- How far a stage of several steps has come (R125, R127). -/
inductive StageStep
  /-- No request of the stage is in progress. -/
  | start
  /-- SELECTING waits for a move in progress that it did not start. -/
  | awaitMove
  /-- SELECTING waits for its own move. -/
  | ownMove
  /-- RAISING waits for the scraping candidate to reach LOWERED (step 1 of R127). -/
  | lowerFirst
  /-- RAISING waits for the disconnector move (step 2 of R127). -/
  | connect
  /-- RAISING waits for RAISED (step 3 of R127). -/
  | lift
  deriving DecidableEq, Repr

/-- Roof modes (R136). -/
inductive Mode
  | configPending | inService | roofSafe
  deriving DecidableEq, Repr

/-- Why a sequence was cancelled (R141). -/
inductive CancelCause
  | lowerAll | roofSafe | roofReset
  deriving DecidableEq, Repr

/-- Results of a sequence (R141). -/
inductive SeqResult
  | done | lineAbsent | failed
  | cancelled (c : CancelCause)
  deriving DecidableEq, Repr

/-- Ice states (R148). -/
inductive IceState
  | off | watch | suspect | confirmed
  deriving DecidableEq, Repr

/-- SUSPECT responses (R150). -/
inductive SuspectResponse
  | nothing | report | heat
  deriving DecidableEq, Repr

/-- CONFIRMED responses (R150). -/
inductive ConfirmedResponse
  | report | heat | heatAndScrape
  deriving DecidableEq, Repr

/-- Temperature states (R145). -/
inductive TempState
  | starting | valid | invalid | stale
  deriving DecidableEq, Repr

/-- A heater output (R152), with the time it entered ON or REST. -/
inductive HeaterOut
  | off
  | on (start : Time)
  | rest (start : Time)
  deriving DecidableEq, Repr

/-- The scrape procedure (section 8.6) with the pantograph S it holds. `standing` says that the request of the state was
refused by the arbiter and is sent again at the next evaluation (R156). -/
inductive Scrape
  | idle
  | disconnect (p : Pan) (standing : Bool)
  | raise (p : Pan) (standing : Bool)
  | on (p : Pan)
  | lower (p : Pan)
  deriving DecidableEq, Repr

/-- The cause kept when a change of holder is owed (R163 to R165). -/
inductive OwedCause
  | release | lapse | linkReset
  deriving DecidableEq, Repr

/-- Causes of a change of holder (Table 9-2). -/
inductive ChangeCause
  | grantFree
  | owed (c : OwedCause)
  | withdrawal
  deriving DecidableEq, Repr

/-- The outcome of a parked command (R170): its status, or DISCARDED. -/
inductive ParkedOutcome
  | status (s : Status)
  | discarded
  deriving DecidableEq, Repr

/-- Receiver states (R178); RECEIVING holds the bytes after the header, in order. -/
inductive Receiver
  | idle
  | receiving (bytes : List Byte)
  | skipping
  deriving DecidableEq, Repr

/-- Continuation cursors (Table 10-4). -/
inductive Cursor
  | none
  | map (id : Nat)
  | tableRead (c : PClass) (point : Nat)
  | tableWrite (c : PClass) (point : Nat)
  deriving DecidableEq, Repr

/-- What a long operation waits for (R186). `joined` is a RAISE that joined a raise already in place (R57). -/
inductive LongKind
  | raise (p : Pan)
  | joined (p : Pan)
  | lower (p : Pan)
  | disc (p : Pan)
  | breakerClose
  | breakerOpen
  | select
  | lowerAll
  deriving DecidableEq, Repr

/-! ### Records -/

/-- The three clocks that run from power-on: the time base (R1), and the counts of ms of the speed interval clock (R2)
and of the bin clock (R144). `total` is the model's own: every ms since power-on, without the overflow of the time base, so
that a duration above the time base's range is known to be above it (R183). -/
structure Clocks where
  time : Time
  speedClock : Nat
  binClock : Nat
  total : Nat
  deriving DecidableEq, Repr

/-- A pulse input (R3, R143): inactive, active under the width in force when it went active, or active with its pulse
accepted. -/
inductive PulseState
  | inactive
  | active (width : Nat)
  | accepted
  deriving DecidableEq, Repr

/-- The roof signal inputs whose level is held (Table 1-1), and the receive lines of the links (R175). -/
structure Lines where
  contact : PerPan Bool
  lowered : PerPan Bool
  discFb : PerPan (Option DiscPos)
  breakerFb : BreakerReading
  selectorFb : Option SelPos
  earthed : Bool
  travelPulse : PulseState
  arcPulse : PerPan PulseState
  rx : PerLink Level
  deriving DecidableEq, Repr

/-- The items of Table 11-1. -/
structure Items where
  pulseLength : Nat
  pulseMinWidth : Nat
  carLength : Nat
  panPosition : PerPan Nat
  lineConfirm : Nat
  noneConfirm : Nat
  panClass : PerPan PClass
  panPreferred : PerSys (Option Pan)
  panAlternate : PerSys (Option Pan)
  raiseLimit : Nat
  lowerLimit : Nat
  settleTime : Nat
  dropThreshold : Nat
  scrapeBonus : Nat
  calOffset : PerPan Nat
  calGain : PerPan Nat
  pMax : Nat
  pressureSlew : Nat
  lineLostDwell : Nat
  armDistance : Nat
  openTime : Nat
  lowerAllowTime : Nat
  approachMargin : Nat
  clearMargin : Nat
  confirmLimit : Nat
  arcMinWidth : Nat
  arcSet : Nat
  arcClear : Nat
  scrapeMinSpeed : Nat
  authSupervision : Nat
  deriving DecidableEq, Repr

/-- The commit report (R195): success, or the first failed check with its channel or line system. -/
inductive CommitReport
  | success
  | points
  | position (p : Pan)
  | target (y : LineSys)
  deriving DecidableEq, Repr

/-- The configuration store (R193). -/
structure Store where
  items : Items
  /-- The force profile tables: nine points each (R65). -/
  tables : PerClass (List Nat)
  committed : Bool
  report : Option CommitReport
  deriving DecidableEq, Repr

/-- The travel counter (Chapter 1). -/
structure Travel where
  front : Nat
  /-- The five slots of the distance history, oldest first (R6). -/
  history : List Nat
  acc : Nat
  speed : Nat
  revRun : Nat
  fwdRun : Nat
  direction : Direction
  fA : Nat
  fB : Nat
  offsets : PerPan Nat
  deriving DecidableEq, Repr

/-- The window in progress (R21). -/
structure Window where
  n : Nat
  sum : Int
  sq : Nat
  periods : Nat
  pMin : Option Nat
  pMax : Option Nat
  deriving DecidableEq, Repr

/-- The last-window record (R24, R25). -/
structure WindowRecord where
  raw : RawClass
  mean : Int
  totalRms : Nat
  acRms : Nat
  periods : Nat
  pMin : Option Nat
  pMax : Option Nat
  deriving DecidableEq, Repr

/-- The line detector (Chapter 2). -/
structure Detector where
  stream : Stream
  sampleAt : Time
  win : Window
  mRef : Int
  lowSeen : Bool
  /-- The last crossing, as the count of samples since it (R22). -/
  lastCross : Option Nat
  candidate : Option RawClass
  count : Nat
  detected : Detected
  since : Time
  windows : BitVec 32
  last : Option WindowRecord
  deriving DecidableEq, Repr

/-- A channel's owner and its operation (Table 3-2). -/
structure Job where
  source : Source
  op : Op
  deriving DecidableEq, Repr

/-- A channel's last result (Table 3-2). -/
structure PanResult where
  source : Source
  op : Op
  outcome : OpOutcome
  deriving DecidableEq, Repr

/-- A pantograph channel (Table 3-2). The limits a running timer was started with are kept beside it (R38). The start of a
LOWERING, which lasts until its limit switch is reached, is a value of `Clocks.total`. -/
structure Channel where
  state : PanState
  role : Option Duty
  job : Option Job
  raiseWaiting : Bool
  lowerReq : Bool
  raiseStart : Time
  raiseLen : Nat
  settle : Option Time
  settleLen : Nat
  loss : Option Time
  lowerStart : Nat
  lowerLen : Nat
  /-- The lower limit has fallen due in this LOWERING (R46). -/
  lowerFired : Bool
  below : Nat
  measured : Int
  sampleAt : Time
  disc : Disc
  discDrive : Option DiscPos
  discStart : Time
  lastResult : Option PanResult
  deriving DecidableEq, Repr

/-- FREG's items of a pantograph (section 4.3, R76). -/
structure Force where
  force : Nat
  target : Option Nat
  pCmd : Nat
  vKmh : Nat
  point : Nat
  profile : Nat
  deriving DecidableEq, Repr

/-- The outcome of the last BREAKER_CLOSE or BREAKER_OPEN answered ACCEPTED (R89, R95). -/
structure BreakerResult where
  link : Link
  close : Bool
  done : Bool
  deriving DecidableEq, Repr

/-- The last selector move ended (R95). -/
structure SelectorResult where
  source : Source
  done : Bool
  deriving DecidableEq, Repr

/-- The breaker and selector controller (Chapter 5). -/
structure Power where
  breaker : Breaker
  limitStart : Time
  traction : Bool
  reclose : Bool
  recloseTimer : Option Time
  lastReclose : Option Time
  watch : Watch
  breakerResult : Option BreakerResult
  selector : Selector
  moveStart : Time
  moveSource : Option Source
  selectorResult : Option SelectorResult
  permit : Bool
  deriving DecidableEq, Repr

/-- A route entry (Table 6-2). -/
structure Entry where
  id : Nat
  sect : Section
  start : Nat
  length : Nat
  source : Link
  state : EntryState
  target : Option Pan
  late : Bool
  noTarget : Bool
  deriving DecidableEq, Repr

/-- The action point of the first ARMED entry (R109). -/
structure ActionPoint where
  id : Nat
  point : Int
  deriving DecidableEq, Repr

/-- The last removal (R103). -/
structure Removal where
  id : Nat
  sect : Section
  reason : RemovalReason
  time : Time
  front : Nat
  deriving DecidableEq, Repr

/-- The route map store (Chapter 6). -/
structure RouteMap where
  entries : List Entry
  nextId : Nat
  action : Option ActionPoint
  lastRemoval : Option Removal
  deriving DecidableEq, Repr

/-- A recorded failure of a sequence (R132). -/
structure Failure where
  reason : Reason
  stage : Stage
  pan : Option Pan
  deriving DecidableEq, Repr

/-- The sequence context (Table 7-2). `entry` holds the items copied at activation, and `stageStart` is a value of
`Clocks.total`, since a stage may last without limit (R126). -/
structure SeqCtx where
  entry : Entry
  form : Form
  stage : Stage
  stageStart : Nat
  step : StageStep
  expected : Option LineSys
  roofLive : Bool
  traction : Bool
  raisedAt : PerPan (Option Duty)
  collector : Option Pan
  candidate : Option Pan
  retryUsed : Bool
  /-- Raised by sequence. -/
  raised : PerPan Bool
  /-- SEQ's RAISE of the candidate joined a raise already in place, or found it RAISED (R57; log 32). -/
  joined : Bool
  /-- The SCRAPE pantographs that stage LOWERING of the forms NEUTRAL and RIDE_THROUGH is lowering (R124). -/
  scrapers : PerPan Bool
  clearing : Nat
  /-- The CONFIRM_LIMIT in force at the start of CONFIRMING (R129). -/
  confirmLen : Nat
  /-- BSC reported BREAKER_FAIL_CLOSE in the present stage CLOSING (R130). -/
  closeFailed : Bool
  failure : Option Failure
  deriving DecidableEq, Repr

/-- The last-sequence record (R141). -/
structure LastSeq where
  id : Nat
  sect : Section
  form : Form
  result : SeqResult
  reason : Option Reason
  stage : Option Stage
  pan : Option Pan
  retryUsed : Bool
  time : Time
  deriving DecidableEq, Repr

/-- The changeover sequencer and the roof mode (Chapter 7). -/
structure Sequencer where
  mode : Mode
  ctx : Option SeqCtx
  last : Option LastSeq
  deriving DecidableEq, Repr

/-- A pantograph's ring of arc bins: the current bin and the nine completed ones, oldest first (R144). -/
structure ArcRing where
  current : Nat
  completed : List Nat
  deriving DecidableEq, Repr

/-- A heater: its output and its manual demand (R152, R153). -/
structure Heater where
  out : HeaterOut
  manual : Bool
  deriving DecidableEq, Repr

/-- The ice monitor (Chapter 8). -/
structure Ice where
  state : IceState
  susResp : SuspectResponse
  confResp : ConfirmedResponse
  permit : Bool
  tempState : TempState
  temp : Option Int
  tempAt : Time
  subAt : Time
  run : Nat
  weather : Bool
  releaseStart : Time
  releaseReached : Bool
  clearDwell : Option Time
  arcs : PerPan ArcRing
  heaters : PerPan Heater
  proc : Scrape
  block : Option Pan
  failedSet : PerPan Bool
  noPanReported : Bool
  deriving DecidableEq, Repr

/-- The parked command with its tag (R169). -/
structure Parked where
  cmd : Cmd
  tag : Byte
  deriving DecidableEq, Repr

/-- The running supervision timer: its start and the T_auth in force at that start (R164). -/
structure Supervision where
  start : Time
  limit : Nat
  deriving DecidableEq, Repr

/-- The last change of holder (Table 9-2). -/
structure LastChange where
  time : Time
  cause : ChangeCause
  before : Option Link
  after : Option Link
  deriving DecidableEq, Repr

/-- The parked result (Table 9-2). -/
structure ParkedResult where
  link : Link
  code : Byte
  tag : Byte
  outcome : ParkedOutcome
  deriving DecidableEq, Repr

/-- The authority record (Table 9-2). -/
structure Authority where
  holder : Option Link
  requester : Option Link
  parked : Option Parked
  owed : Option OwedCause
  supervision : Option Supervision
  leading : End
  lastChange : Option LastChange
  parkedResult : Option ParkedResult
  deriving DecidableEq, Repr

/-- A correct frame in a receive queue: its tag and the command it carries. -/
structure RxFrame where
  tag : Byte
  cmd : Cmd
  deriving DecidableEq, Repr

/-- A frame handed to a transmitter (R176, R182): the response to a taken command, the deferred response of a SYNC, a
BUSY answer, or an attention frame. -/
inductive TxFrame
  | response (code tag : Byte) (status : Status) (results : List Byte)
  | syncDone (tag : Byte)
  | busy (code tag : Byte)
  | attention (on : Bool)
  deriving DecidableEq, Repr

/-- The error flags of a link (R189). -/
structure ErrorFlags where
  byte : Bool
  gap : Bool
  format : Bool
  crc : Bool
  overrun : Bool
  deriving DecidableEq, Repr

/-- A command link (Chapter 10) with its notice sets and attention (R198). `rxAt` is the time since which the receive line
has rested at its level: the end of the last byte, or the end of a break (R178, R190). -/
structure Port where
  rx : Receiver
  rxAt : Time
  inBreak : Bool
  queue : List RxFrame
  /-- Frames handed to the transmitter, in order; the first is being sent. -/
  tx : List TxFrame
  /-- The response to the last command taken has not been sent in full (R181). -/
  awaiting : Bool
  /-- A SYNC of the link blocks it (R187). -/
  blocked : Bool
  cursor : Cursor
  lastTaken : Option Byte
  flags : ErrorFlags
  holdOff : Option Time
  pend : BitVec 16
  enable : BitVec 16
  attention : Bool
  deriving DecidableEq, Repr

/-- A long operation in flight (R186), and whether the outstanding SYNC has marked it (R187). -/
structure LongOp where
  link : Link
  kind : LongKind
  marked : Bool
  deriving DecidableEq, Repr

/-- The owned sync context (R187). -/
structure SyncCtx where
  owner : Link
  tag : Byte
  deriving DecidableEq, Repr

/-- The fault capture record (R200). -/
structure FaultRecord where
  kind : FaultKind
  pan : Option Pan
  entry : Option Nat
  front : Nat
  speed : Nat
  detected : Detected
  breaker : Breaker
  holder : Option Link
  time : Time
  deriving DecidableEq, Repr

/-- What PCH and BSC report to SEQ and ICE at an event (R57, R131): an operation of theirs that ended, a fault reported
to NFU, a lower limit with the role and whether SEQ owned the pantograph, and a breaker or selector entering FAILED. -/
inductive Report
  | opEnded (p : Pan) (source : Source) (op : Op) (outcome : OpOutcome)
  | fault (k : FaultKind) (p : Option Pan)
  | lowerTimeout (p : Pan) (role : Option Duty) (bySeq : Bool)
  | breakerFailed
  | selectorFailed
  deriving DecidableEq, Repr

/-- The state of the controller. The last four fields are the model's own: reports between blocks that the event in hand
still has to handle, whether it owes an evaluation of the scrape conditions, the counter of open choices, and the queue
of events that wait. -/
structure State where
  clk : Clocks
  lines : Lines
  cfg : Store
  trv : Travel
  ldet : Detector
  pch : PerPan Channel
  freg : PerPan Force
  bsc : Power
  map : RouteMap
  seq : Sequencer
  ice : Ice
  auth : Authority
  lnk : PerLink Port
  longOps : List LongOp
  sync : Option SyncCtx
  fault : Option FaultRecord
  reports : List Report
  iceEval : Bool
  freeCount : Nat
  pending : List Instr
  deriving DecidableEq, Repr

/-! ### The state after power-on -/

/-- The items of Table 11-1 at their defaults. -/
def Items.default : Items where
  pulseLength := 100
  pulseMinWidth := 20
  carLength := 25000
  panPosition := .all 0
  lineConfirm := 3
  noneConfirm := 2
  panClass := .all .ac
  panPreferred := .all none
  panAlternate := .all none
  raiseLimit := 12000
  lowerLimit := 8000
  settleTime := 1500
  dropThreshold := 60
  scrapeBonus := 15
  calOffset := .all 0
  calGain := .all 256
  pMax := 500
  pressureSlew := 20
  lineLostDwell := 1000
  armDistance := 3000
  openTime := 300
  lowerAllowTime := 2500
  approachMargin := 50
  clearMargin := 10
  confirmLimit := 2000
  arcMinWidth := 50
  arcSet := 20
  arcClear := 5
  scrapeMinSpeed := 16667
  authSupervision := 1000

/-- The configuration store at power-on (R193, R197). -/
def Store.initial : Store where
  items := .default
  tables := ⟨List.replicate 9 0, List.replicate 9 0⟩
  committed := false
  report := none

/-- The input lines of the reset state. DESIGN CHOICE: the spec gives no levels (log 3). -/
def Lines.initial : Lines where
  contact := .all false
  lowered := .all true
  discFb := .all (some .connected)
  breakerFb := .opened
  selectorFb := some (.sys .ac25)
  earthed := false
  travelPulse := .inactive
  arcPulse := .all .inactive
  rx := .all .mark

/-- The travel state at power-on (R19). -/
def Travel.initial : Travel where
  front := 0
  history := [0, 0, 0, 0, 0]
  acc := 0
  speed := 0
  revRun := 0
  fwdRun := 0
  direction := .normal
  fA := 0
  fB := 0
  offsets := .all 0

/-- A fresh window (R21). -/
def Window.fresh : Window where
  n := 0
  sum := 0
  sq := 0
  periods := 0
  pMin := none
  pMax := none

/-- The detector at power-on (R36). -/
def Detector.initial : Detector where
  stream := .starting
  sampleAt := 0
  win := .fresh
  mRef := 0
  lowSeen := false
  lastCross := none
  candidate := none
  count := 0
  detected := .unknown
  since := 0
  windows := 0
  last := none

/-- A channel at power-on with its lowered limit active and its disconnector reading CONNECTED (R64). -/
def Channel.initial : Channel where
  state := .lowered
  role := none
  job := none
  raiseWaiting := false
  lowerReq := false
  raiseStart := 0
  raiseLen := 12000
  settle := none
  settleLen := 1500
  loss := none
  lowerStart := 0
  lowerLen := 8000
  lowerFired := false
  below := 0
  measured := 0
  sampleAt := 0
  disc := .resting .connected
  discDrive := none
  discStart := 0
  lastResult := none

/-- FREG's items at power-on (R77). -/
def Force.initial : Force where
  force := 40
  target := none
  pCmd := 0
  vKmh := 0
  point := 0
  profile := 0

/-- BSC at power-on with the breaker reading OPEN and the selector at AC25 (R96, log 3). -/
def Power.initial : Power where
  breaker := .opened
  limitStart := 0
  traction := false
  reclose := false
  recloseTimer := none
  lastReclose := none
  watch := .stopped
  breakerResult := none
  selector := .rest (.sys .ac25)
  moveStart := 0
  moveSource := none
  selectorResult := none
  permit := false

/-- MAP at power-on (R119). -/
def RouteMap.initial : RouteMap where
  entries := []
  nextId := 1
  action := none
  lastRemoval := none

/-- SEQ at power-on (R142). -/
def Sequencer.initial : Sequencer where
  mode := .configPending
  ctx := none
  last := none

/-- A ring of empty bins (R144). -/
def ArcRing.empty : ArcRing where
  current := 0
  completed := List.replicate 9 0

/-- ICE at power-on (R160). -/
def Ice.initial : Ice where
  state := .off
  susResp := .nothing
  confResp := .report
  permit := false
  tempState := .starting
  temp := none
  tempAt := 0
  subAt := 0
  run := 0
  weather := false
  releaseStart := 0
  releaseReached := false
  clearDwell := none
  arcs := .all .empty
  heaters := .all ⟨.off, false⟩
  proc := .idle
  block := none
  failedSet := .all false
  noPanReported := false

/-- The authority record at power-on (R174). -/
def Authority.initial : Authority where
  holder := none
  requester := none
  parked := none
  owed := none
  supervision := none
  leading := .endA
  lastChange := none
  parkedResult := none

/-- Error flags all clear. -/
def ErrorFlags.clear : ErrorFlags := ⟨false, false, false, false, false⟩

/-- A link at power-on (R192, R199). -/
def Port.initial : Port where
  rx := .skipping
  rxAt := 0
  inBreak := false
  queue := []
  tx := []
  awaiting := false
  blocked := false
  cursor := .none
  lastTaken := none
  flags := .clear
  holdOff := none
  pend := 0
  enable := BitVec.allOnes 16
  attention := false

/-- The machine right after power-on with the input lines of `Lines.initial`. -/
def State.reset : State where
  clk := ⟨0, 0, 0, 0⟩
  lines := .initial
  cfg := .initial
  trv := .initial
  ldet := .initial
  pch := .all .initial
  freg := .all .initial
  bsc := .initial
  map := .initial
  seq := .initial
  ice := .initial
  auth := .initial
  lnk := .all .initial
  longOps := []
  sync := none
  fault := none
  reports := []
  iceEval := false
  freeCount := 0
  pending := []

end Sys2Proof.Machine
end

