-- ==== Sys2Proof/Machine/Flags.lean ====
section
/-! DEFINITION. Sets of notice causes as flag words (R198, R199), the attention they give, and the error flags of a link
(R189). -/

namespace Sys2Proof.Machine

/-- The place of a notice cause in the order of R198, from 0. -/
def Notice.index : Notice → Nat
  | .pan => 0
  | .breaker => 1
  | .selector => 2
  | .line => 3
  | .lineLost => 4
  | .mismatch => 5
  | .entry => 6
  | .map => 7
  | .ice => 8
  | .auth => 9
  | .fault => 10
  | .roofSafe => 11
  | .link => 12
  | .sensor => 13
  | .earth => 14
  | .config => 15

/-- The set that holds one cause. -/
def Notice.bit (c : Notice) : BitVec 16 := 1#16 <<< c.index

/-- A link's attention is ON while the intersection of its pending set and its enable set is not empty (R198). -/
def Port.wantsAttention (q : Port) : Bool := q.pend &&& q.enable != 0#16

/-- A cause joins a pending set; one already there stays once (R198). -/
def Port.raise (q : Port) (c : Notice) : Port := { q with pend := q.pend ||| c.bit }

/-- The named causes leave a pending set (R199). -/
def Port.clearCauses (q : Port) (causes : BitVec 16) : Port := { q with pend := q.pend &&& ~~~causes }

/-- The error flags as one byte, in the order of R189 (R183). -/
def ErrorFlags.toNat (f : ErrorFlags) : Nat :=
  f.byte.toNat + 2 * f.gap.toNat + 4 * f.format.toNat + 8 * f.crc.toNat + 16 * f.overrun.toNat

end Sys2Proof.Machine
end

