-- ==== Sys2Proof/Machine/Ops.lean ====
section
/-! DEFINITION. The operations every block shares: updates of one block's state, the time base, notices and faults
(Chapter 11), frames handed to a transmitter (R182), long operations (R186), and the questions that blocks ask of one
another. -/

namespace Sys2Proof.Machine

/-! ### Updates of one block -/

def State.modClk (f : Clocks → Clocks) (s : State) : State := { s with clk := f s.clk }
def State.modLines (f : Lines → Lines) (s : State) : State := { s with lines := f s.lines }
def State.modCfg (f : Store → Store) (s : State) : State := { s with cfg := f s.cfg }
def State.modTrv (f : Travel → Travel) (s : State) : State := { s with trv := f s.trv }
def State.modLdet (f : Detector → Detector) (s : State) : State := { s with ldet := f s.ldet }
def State.modPan (p : Pan) (f : Channel → Channel) (s : State) : State := { s with pch := s.pch.set p (f (s.pch.get p)) }
def State.modForce (p : Pan) (f : Force → Force) (s : State) : State := { s with freg := s.freg.set p (f (s.freg.get p)) }
def State.modBsc (f : Power → Power) (s : State) : State := { s with bsc := f s.bsc }
def State.modMap (f : RouteMap → RouteMap) (s : State) : State := { s with map := f s.map }
def State.modSeq (f : Sequencer → Sequencer) (s : State) : State := { s with seq := f s.seq }
def State.modIce (f : Ice → Ice) (s : State) : State := { s with ice := f s.ice }
def State.modAuth (f : Authority → Authority) (s : State) : State := { s with auth := f s.auth }
def State.modPort (l : Link) (f : Port → Port) (s : State) : State := { s with lnk := s.lnk.set l (f (s.lnk.get l)) }
def State.setLongOps (ops : List LongOp) (s : State) : State := { s with longOps := ops }
def State.setSync (c : Option SyncCtx) (s : State) : State := { s with sync := c }
def State.setFault (r : Option FaultRecord) (s : State) : State := { s with fault := r }
def State.setReports (r : List Report) (s : State) : State := { s with reports := r }
def State.setIceEval (b : Bool) (s : State) : State := { s with iceEval := b }
def State.setFree (n : Nat) (s : State) : State := { s with freeCount := n }

/-- Apply an operation to each channel in order. -/
def forPans (f : Pan → State → State) (s : State) : State :=
  f .p4 (f .p3 (f .p2 (f .p1 s)))

/-- Apply an operation to each link in order. -/
def forLinks (f : Link → State → State) (s : State) : State :=
  f .m (f .b (f .a s))

/-! ### Time -/

/-- The time base (R1). -/
def State.now (s : State) : Time := s.clk.time

/-- Ms elapsed since a recorded time base value (R1). -/
def State.elapsed (s : State) (start : Time) : Nat := Time.since s.now start

/-- Ms since a recorded count of every ms from power-on, which no overflow shortens (R1, R183). -/
def State.since (s : State) (start : Nat) : Nat := s.clk.total - start

/-- A timer that is running and has reached its limit (section 1.5 of the scope file, R1). -/
def State.reached (s : State) (timer : Option Time) (limit : Nat) : Bool :=
  match timer with
  | some t => limit ≤ s.elapsed t
  | none => false

/-! ### Notices and faults (Chapter 11) -/

/-- A cause raised on one link alone (R179, R180). -/
def noticeOn (l : Link) (c : Notice) (s : State) : State := s.modPort l (·.raise c)

/-- A cause raised on all three links (R198). -/
def notice (c : Notice) (s : State) : State := forLinks (fun l => noticeOn l c) s

/-- A cause raised on the two links other than the sender (R101, R103). -/
def noticeOthers (sender : Link) (c : Notice) (s : State) : State :=
  forLinks (fun l t => if l = sender then t else noticeOn l c t) s

/-- A report to SEQ and ICE, handled after the reports before it. -/
def report (r : Report) (s : State) : State := s.setReports (s.reports ++ [r])

/-- A fault reported to NFU: it fills an empty capture record with the roof as it stands, raises FAULT on all three links
(R198, R200), and is seen by SEQ and ICE (R131). -/
def reportFault (k : FaultKind) (p : Option Pan) (entry : Option Nat) (s : State) : State :=
  let filled := match s.fault with
    | some r => some r
    | none => some
        { kind := k, pan := p, entry := entry, front := s.trv.front / 1000, speed := s.trv.speed,
          detected := s.ldet.detected, breaker := s.bsc.breaker, holder := s.auth.holder, time := s.now }
  report (.fault k p) (notice .fault (s.setFault filled))

/-! ### Transmitters (R182) -/

/-- A frame handed to a link's transmitter, behind those handed before it. -/
def hand (l : Link) (f : TxFrame) (s : State) : State := s.modPort l fun q => { q with tx := q.tx ++ [f] }

/-- One link's attention brought to what its sets give, with an attention frame at each change (R198). -/
def attendLink (l : Link) (s : State) : State :=
  let q := s.lnk.get l
  if q.wantsAttention = q.attention then s
  else hand l (.attention q.wantsAttention) (s.modPort l fun q => { q with attention := q.wantsAttention })

/-- Every link's attention (R198). It is brought up to date at the end of an event, so that an attention frame follows the
response, the SYNC response and the BUSY answer of the same event (R182). -/
def attend (s : State) : State := forLinks attendLink s

/-! ### Long operations (R186) -/

/-- A long operation starts in flight, unmarked. -/
def startLong (l : Link) (k : LongKind) (s : State) : State := s.setLongOps (s.longOps ++ [⟨l, k, false⟩])

/-- The long operations of one kind end. -/
def endLong (k : LongKind) (s : State) : State := s.setLongOps (s.longOps.filter fun o => o.kind ≠ k)

/-! ### Questions about the roof -/

/-- A channel. -/
def State.ch (s : State) (p : Pan) : Channel := s.pch.get p

/-- Raised, for counting purposes: in RAISING, SETTLING or RAISED (Table 0-2). -/
def PanState.isRaised : PanState → Bool
  | .raising | .settling | .raised => true
  | .lowered | .lowering | .dropped | .isolated => false

/-- The pantographs of a set. -/
def pansWhere (f : Pan → Bool) : List Pan := Pan.all.filter f

/-- The pantographs raised for counting purposes. -/
def State.raisedPans (s : State) : List Pan := pansWhere fun p => (s.ch p).state.isRaised

/-- The COLLECTING pantograph in state RAISED, of which there is at most one (R80, R154). -/
def State.collectorRaised (s : State) : Option Pan :=
  (pansWhere fun p => (s.ch p).state = .raised && (s.ch p).role = some .collecting).head?

/-- A pantograph stands ahead of another in the ordering of R13: a smaller offset, or an equal one and a lower number. -/
def ahead (offsets : PerPan Nat) (p q : Pan) : Bool :=
  offsets.get p < offsets.get q || (offsets.get p = offsets.get q && p.num < q.num)

/-- The front-most pantograph of a list (R13). -/
def frontMost (offsets : PerPan Nat) : List Pan → Option Pan
  | [] => none
  | p :: rest =>
    match frontMost offsets rest with
    | none => some p
    | some q => if ahead offsets q p then some q else some p

/-- The largest offset of a list of pantographs, 0 for none (R13). -/
def largestOffset (offsets : PerPan Nat) (ps : List Pan) : Nat :=
  ps.foldl (fun m p => max m (offsets.get p)) 0

/-- The pantographs not ISOLATED, or all four where all four are ISOLATED (R86, R108, R112, R126). -/
def State.usablePans (s : State) : List Pan :=
  match pansWhere fun p => (s.ch p).state ≠ .isolated with
  | [] => Pan.all
  | ps => ps

/-- The system position the selector rests at (R80, R54). -/
def State.systemPosition (s : State) : Option LineSys :=
  match s.bsc.selector with
  | .rest (.sys y) => some y
  | .rest .opened | .moving _ _ | .failed _ => none

/-- The detected system as a line system, where it is one. -/
def Detected.lineSys : Detected → Option LineSys
  | .raw (.sys y) => some y
  | .raw .dead | .raw .unclassified | .unknown => none

/-- The earthing switch reads EARTHED (R93). -/
def State.earthed (s : State) : Bool := s.lines.earthed

/-- The ACTIVE entry (R110). -/
def State.activeEntry (s : State) : Option Entry := s.map.entries.find? fun e => e.state = .active

/-- An entry is ACTIVE. -/
def State.entryActive (s : State) : Bool := s.activeEntry.isSome

/-- Standstill: the speed is 0 (R7). -/
def State.standstill (s : State) : Bool := s.trv.speed = 0

/-- The roof is quiescent (R193). -/
def State.quiescent (s : State) : Bool :=
  s.seq.mode = .inService
    && Pan.all.all (fun p => (s.ch p).state = .lowered || (s.ch p).state = .isolated)
    && s.bsc.breaker = .opened && s.standstill && !s.entryActive

/-- A configuration-class command passes its mode check (R193). -/
def State.configMode (s : State) : Bool := s.seq.mode = .configPending || s.quiescent

/-- Every pantograph is LOWERED, ISOLATED, or DROPPED with its lowered-limit input active (R61, R140, R172). -/
def State.roofDown (s : State) : Bool :=
  Pan.all.all fun p =>
    (s.ch p).state = .lowered || (s.ch p).state = .isolated
      || ((s.ch p).state = .dropped && s.lines.lowered.get p)

/-- The start of an entry in mm (section 1.5 of the scope file). -/
def Entry.startMm (e : Entry) : Nat := e.start * 1000

/-- The end of an entry's span in mm (R97). -/
def Entry.endMm (e : Entry) : Nat := (e.start + e.length) * 1000

/-- The front is inside the span of an entry (R97). -/
def Entry.contains (e : Entry) (front : Nat) : Bool := e.startMm ≤ front && front < e.endMm

/-- The number of pantographs that may pass the section raised, where the kind carries it (Table 6-2). -/
def Section.panLimit : Section → Option Nat
  | .neutral n => some n
  | .systemChange _ _ n => some n
  | .lowerZone => none

end Sys2Proof.Machine
end

