-- ==== Sys2Proof/Machine/Operands.lean ====
section
/-! DEFINITION. Field encoding (R183): the values that operand numbers stand for, and the bytes of every field a result
carries. Enumerated values are numbered from 1 in the order of the owning rule; 0 stands for none or absent. -/

namespace Sys2Proof.Machine

/-! ### Operand numbers (R183) -/

/-- Pantograph numbers 1 to 4. -/
def Pan.ofNum : Nat → Option Pan
  | 1 => some .p1
  | 2 => some .p2
  | 3 => some .p3
  | 4 => some .p4
  | _ => none

/-- Roles of a RAISE: COLLECTING, SCRAPE (R59). -/
def dutyOf : Nat → Option Duty
  | 1 => some .collecting
  | 2 => some .scrape
  | _ => none

/-- Disconnector positions: CONNECTED, DISCONNECTED (R53). -/
def discPosOf : Nat → Option DiscPos
  | 1 => some .connected
  | 2 => some .disconnected
  | _ => none

/-- Classes: AC, DC (R66). -/
def classOf : Nat → Option PClass
  | 1 => some .ac
  | 2 => some .dc
  | _ => none

/-- Line systems: AC25, AC15, DC30, DC15 (R184, R194). -/
def lineSysOf : Nat → Option LineSys
  | 1 => some .ac25
  | 2 => some .ac15
  | 3 => some .dc30
  | 4 => some .dc15
  | _ => none

/-- Selector positions: OPEN, AC25, AC15, DC30, DC15 (R92). -/
def selPosOf : Nat → Option SelPos
  | 1 => some .opened
  | 2 => some (.sys .ac25)
  | 3 => some (.sys .ac15)
  | 4 => some (.sys .dc30)
  | 5 => some (.sys .dc15)
  | _ => none

/-- A pair of values of which the first is numbered 1 and the second 2: GIVE and WITHDRAW (R94), ENABLE and DISABLE, SET
and CLEAR (R150, R147), ON and OFF (R153). True is the first. -/
def pairOf : Nat → Option Bool
  | 1 => some true
  | 2 => some false
  | _ => none

/-- A truth value of a route entry: 0 false, 1 true (R184). -/
def boolOf : Nat → Option Bool
  | 0 => some false
  | 1 => some true
  | _ => none

/-- SUSPECT responses: NONE, REPORT, HEAT (R150). -/
def suspectOf : Nat → Option SuspectResponse
  | 1 => some .nothing
  | 2 => some .report
  | 3 => some .heat
  | _ => none

/-- CONFIRMED responses: REPORT, HEAT, HEAT_AND_SCRAPE (R150). -/
def confirmedOf : Nat → Option ConfirmedResponse
  | 1 => some .report
  | 2 => some .heat
  | 3 => some .heatAndScrape
  | _ => none

/-- The section of a MAP_INSERT: its kind 1 to 3 with the operands the kind carries; operands it does not carry are
neither checked nor stored (R100, R184). -/
def sectionOf (kind systemAfter swap panLimit : Nat) : Option Section :=
  match kind with
  | 1 => if panLimit = 1 ∨ panLimit = 2 then some (.neutral panLimit) else none
  | 2 =>
    match lineSysOf systemAfter, boolOf swap with
    | some y, some w => if panLimit = 1 ∨ panLimit = 2 then some (.systemChange y w panLimit) else none
    | _, _ => none
  | 3 => some .lowerZone
  | _ => none

/-! ### Numbers of enumerated values (R183) -/

/-- Status numbers in the order of Table 10-3. -/
def Status.num : Status → Nat
  | .ok => 1 | .accepted => 2 | .queued => 3 | .pending => 4 | .busy => 5 | .unknownCommand => 6 | .badOperand => 7
  | .illegalSequence => 8 | .cursorLost => 9 | .endOfMap => 10 | .authNotHeld => 11 | .authBusy => 12
  | .notConfigured => 13 | .notQuiescent => 14 | .roofSafe => 15 | .entryLocked => 16 | .interlock => 17
  | .panLimit => 18 | .panUnavailable => 19 | .panBusy => 20 | .routeInhibit => 21 | .mapFull => 22
  | .mapBehind => 23 | .mapOverlap => 24 | .noEntry => 25 | .notOwner => 26 | .syncDenied => 27
  | .configInvalid => 28

/-- Fault kinds in the order of R200. -/
def FaultKind.num : FaultKind → Nat
  | .addTrip => 1 | .raiseTimeout => 2 | .lowerTimeout => 3 | .contactLost => 4 | .breakerFailOpen => 5
  | .breakerFailClose => 6 | .selectorFail => 7 | .disconnectorFail => 8 | .systemMismatch => 9 | .lineLost => 10
  | .lineSensor => 11 | .tempSensor => 12 | .seqFailed => 13 | .overrun => 14 | .earthUnexpected => 15
  | .roofSafeEntry => 16

/-- Failure reasons: a status's number, 64 plus a fault kind's place, or 128 for NO_TARGET (R183). -/
def Reason.num : Reason → Nat
  | .status s => s.num
  | .fault k => 64 + k.num
  | .noTarget => 128

def Link.num : Link → Nat
  | .a => 1 | .b => 2 | .m => 3

def PClass.num : PClass → Nat
  | .ac => 1 | .dc => 2

def LineSys.num : LineSys → Nat
  | .ac25 => 1 | .ac15 => 2 | .dc30 => 3 | .dc15 => 4

def SelPos.num : SelPos → Nat
  | .opened => 1
  | .sys y => 1 + LineSys.num y

def DiscPos.num : DiscPos → Nat
  | .connected => 1 | .disconnected => 2

def Duty.num : Duty → Nat
  | .collecting => 1 | .scrape => 2

/-- NONE, COLLECTING, SCRAPE (R63). -/
def roleNum : Option Duty → Nat
  | none => 1
  | some d => 1 + Duty.num d

def Direction.num : Direction → Nat
  | .normal => 1 | .reversing => 2

def End.num : End → Nat
  | .endA => 1 | .endB => 2

def Stream.num : Stream → Nat
  | .starting => 1 | .running => 2 | .lost => 3

/-- NONE, AC25, AC15, DC30, DC15, UNCLASSIFIED (section 2.5). -/
def RawClass.num : RawClass → Nat
  | .dead => 1
  | .sys y => 1 + LineSys.num y
  | .unclassified => 6

/-- UNKNOWN, NONE, AC25, AC15, DC30, DC15, UNCLASSIFIED (R30). -/
def Detected.num : Detected → Nat
  | .unknown => 1
  | .raw c => 1 + c.num

def PanState.num : PanState → Nat
  | .lowered => 1 | .raising => 2 | .settling => 3 | .raised => 4 | .lowering => 5 | .dropped => 6 | .isolated => 7

def Breaker.num : Breaker → Nat
  | .opened => 1 | .closing => 2 | .closed => 3 | .opening => 4 | .failed => 5

def BreakerReading.num : BreakerReading → Nat
  | .opened => 1 | .closed => 2 | .invalid => 3

def EntryState.num : EntryState → Nat
  | .pending => 1 | .armed => 2 | .active => 3

def RemovalReason.num : RemovalReason → Nat
  | .deleted => 1 | .done => 2 | .failed => 3 | .cancelled => 4 | .overrun => 5

def Section.num : Section → Nat
  | .neutral _ => 1 | .systemChange _ _ _ => 2 | .lowerZone => 3

def Form.num : Form → Nat
  | .neutral => 1 | .lowering => 2 | .rideThrough => 3 | .lowerZone => 4

def Stage.num : Stage → Nat
  | .opening => 1 | .lowering => 2 | .selecting => 3 | .clearing => 4 | .raising => 5 | .confirming => 6
  | .closing => 7 | .recovering => 8

def Mode.num : Mode → Nat
  | .configPending => 1 | .inService => 2 | .roofSafe => 3

def CancelCause.num : CancelCause → Nat
  | .lowerAll => 1 | .roofSafe => 2 | .roofReset => 3

def SeqResult.num : SeqResult → Nat
  | .done => 1 | .lineAbsent => 2 | .failed => 3 | .cancelled _ => 4

def IceState.num : IceState → Nat
  | .off => 1 | .watch => 2 | .suspect => 3 | .confirmed => 4

def SuspectResponse.num : SuspectResponse → Nat
  | .nothing => 1 | .report => 2 | .heat => 3

def ConfirmedResponse.num : ConfirmedResponse → Nat
  | .report => 1 | .heat => 2 | .heatAndScrape => 3

def TempState.num : TempState → Nat
  | .starting => 1 | .valid => 2 | .invalid => 3 | .stale => 4

def OwedCause.num : OwedCause → Nat
  | .release => 1 | .lapse => 2 | .linkReset => 3

/-- GRANT_FREE, RELEASE, LAPSE, LINK_RESET, WITHDRAWAL (Table 9-2). -/
def ChangeCause.num : ChangeCause → Nat
  | .grantFree => 1
  | .owed c => 1 + c.num
  | .withdrawal => 5

/-- The outcome of a parked command: its status's number, or 29 for DISCARDED (log 9). -/
def ParkedOutcome.num : ParkedOutcome → Nat
  | .status s => s.num
  | .discarded => 29

/-! ### Bytes of fields (R183) -/

/-- A number in `k` bytes, most significant byte first (R176, R183). -/
def be : Nat → Nat → List Byte
  | 0, _ => []
  | k + 1, n => BitVec.ofNat 8 (n / 256 ^ k) :: be k n

/-- The number that bytes spell, most significant byte first (R176). -/
def unBe (bytes : List Byte) : Nat := bytes.foldl (fun n b => n * 256 + b.toNat) 0

/-- A signed number in `k` bytes of two's complement (R183). -/
def sbe (k : Nat) (x : Int) : List Byte := be k ((x % (256 ^ k : Int)).toNat)

/-- One byte. -/
def u8 (n : Nat) : List Byte := be 1 n

/-- An optional number: a presence byte and its full width, zeros where absent (R183). -/
def optBe (k : Nat) : Option Nat → List Byte
  | none => u8 0 ++ be k 0
  | some n => u8 1 ++ be k n

/-- An optional signed number (R183). -/
def optSbe (k : Nat) : Option Int → List Byte
  | none => u8 0 ++ be k 0
  | some x => u8 1 ++ sbe k x

/-- An optional record of `k` bytes (R183). -/
def optRecord (k : Nat) : Option (List Byte) → List Byte
  | none => u8 0 ++ be k 0
  | some bytes => u8 1 ++ bytes

/-- A value that may be absent, numbered from 1, with 0 for absent (R183). -/
def numOr0 {α : Type} (f : α → Nat) : Option α → Nat
  | none => 0
  | some x => f x

/-- A pair of values as 1 and 2 (R183). -/
def pairNum (b : Bool) : Nat := if b then 1 else 2

/-- Flags of one byte from the least significant bit upward (R183). -/
def flagByte : List Bool → Nat
  | [] => 0
  | b :: rest => b.toNat + 2 * flagByte rest

/-- A set of pantographs as one byte (R183). -/
def panSet (v : PerPan Bool) : Nat := flagByte [v.p1, v.p2, v.p3, v.p4]

/-- A set of notice causes as two bytes, the first eight causes in the first (R183, log 9). -/
def causesBytes (w : BitVec 16) : List Byte := [w.extractLsb' 0 8, w.extractLsb' 8 8]

/-- The set of causes that two bytes carry. -/
def causesOf (lo hi : Byte) : BitVec 16 := hi ++ lo

/-- A source with its link, two bytes (R63, R95). -/
def sourceBytes : Option Source → List Byte
  | none => u8 0 ++ u8 0
  | some .sequencer => u8 1 ++ u8 0
  | some (.authority l) => u8 2 ++ u8 (Link.num l)
  | some .ice => u8 3 ++ u8 0

/-- An operation with its role or position, two bytes (R63). The role of a RAISE is numbered as the operand of R59, COLLECTING 1
and SCRAPE 2, and not as the field ROLE, which has NONE as its first value (DESIGN CHOICE, log 9). -/
def opBytes : Option Op → List Byte
  | none => u8 0 ++ u8 0
  | some (.raise d) => u8 1 ++ u8 (Duty.num d)
  | some .lower => u8 2 ++ u8 0
  | some (.discMove p) => u8 3 ++ u8 (DiscPos.num p)

/-- An outcome with its reason, two bytes: DONE, FAILED, ABORTED (R63). -/
def outcomeBytes : OpOutcome → List Byte
  | .done => u8 1 ++ u8 0
  | .failed r => u8 2 ++ u8 r.num
  | .aborted => u8 3 ++ u8 0

end Sys2Proof.Machine
end

