-- ==== Sys2Proof/Decode.lean ====
section
/-! DEFINITION. Command frames as bytes: the command code of every command (R176), the command that a code and operand
bytes carry (R181, R183, R184), the bytes that carry a command, the CRC (R177), and `decodeTableWord` (no row of the
opcode table gives bits). -/

namespace Sys2Proof

open Sys2Proof.Machine

/-- The command code: the command's place in Table 10-6, from 1 (R176). -/
def Cmd.code : Cmd → Byte
  | .nop => 0x01
  | .linkStatus => 0x02
  | .sync => 0x03
  | .travelRead => 0x04
  | .positionFix _ => 0x05
  | .setFormation _ _ => 0x06
  | .lineRead => 0x07
  | .raise _ _ => 0x08
  | .lower _ => 0x09
  | .discSet _ _ => 0x0A
  | .addReset _ => 0x0B
  | .isolate _ => 0x0C
  | .restore _ => 0x0D
  | .panRead _ => 0x0E
  | .forceTableWrite _ _ _ => 0x0F
  | .forceTableWriteNext _ => 0x10
  | .forceTableRead _ _ => 0x11
  | .forceTableReadNext => 0x12
  | .forceRead _ => 0x13
  | .breakerClose => 0x14
  | .breakerOpen => 0x15
  | .select _ => 0x16
  | .earthPermit _ => 0x17
  | .breakerRead => 0x18
  | .mapInsert _ _ _ _ _ _ => 0x19
  | .mapDelete _ => 0x1A
  | .mapRead _ => 0x1B
  | .mapReadNext => 0x1C
  | .mapStatus => 0x1D
  | .roofReset => 0x1E
  | .seqRead => 0x1F
  | .iceMode _ _ _ _ => 0x20
  | .heat _ _ => 0x21
  | .iceWeather _ => 0x22
  | .iceRead => 0x23
  | .authRequest => 0x24
  | .authRelease => 0x25
  | .authRead => 0x26
  | .lowerAll => 0x27
  | .configWrite _ _ _ => 0x28
  | .configRead _ _ => 0x29
  | .configCommit => 0x2A
  | .configReopen => 0x2B
  | .noticeRead => 0x2C
  | .noticeClear _ => 0x2D
  | .noticeEnable _ => 0x2E
  | .faultRead => 0x2F
  | .faultClear => 0x30
  | .unknown c => c
  | .badLength c => c

/-- The operand bytes of a command (R183, Table 10-2). A frame of a wrong length or an unknown code has no operands that
the controller reads. -/
def Cmd.operands : Cmd → List Byte
  | .positionFix m => be 3 m
  | .setFormation fA fB => be 3 fA ++ be 3 fB
  | .raise p r => be 1 p ++ be 1 r
  | .lower p => be 1 p
  | .discSet p q => be 1 p ++ be 1 q
  | .addReset p => be 1 p
  | .isolate p => be 1 p
  | .restore p => be 1 p
  | .panRead p => be 1 p
  | .forceTableWrite c i f => be 1 c ++ be 1 i ++ be 1 f
  | .forceTableWriteNext f => be 1 f
  | .forceTableRead c i => be 1 c ++ be 1 i
  | .forceRead p => be 1 p
  | .select q => be 1 q
  | .earthPermit o => be 1 o
  | .mapInsert k s n y w lim => be 1 k ++ be 4 s ++ be 2 n ++ be 1 y ++ be 1 w ++ be 1 lim
  | .mapDelete i => be 2 i
  | .mapRead i => be 1 i
  | .iceMode e u c t => be 1 e ++ be 1 u ++ be 1 c ++ be 1 t
  | .heat p o => be 1 p ++ be 1 o
  | .iceWeather o => be 1 o
  | .configWrite i x v => be 1 i ++ be 1 x ++ be 4 v
  | .configRead i x => be 1 i ++ be 1 x
  | .noticeClear c => causesBytes c
  | .noticeEnable c => causesBytes c
  | .nop | .linkStatus | .sync | .travelRead | .lineRead | .forceTableReadNext | .breakerClose | .breakerOpen
  | .breakerRead | .mapReadNext | .mapStatus | .roofReset | .seqRead | .iceRead | .authRequest | .authRelease
  | .authRead | .lowerAll | .configCommit | .configReopen | .noticeRead | .faultRead | .faultClear | .unknown _
  | .badLength _ => []

/-- The command that a command code and operand bytes carry: a code that names no command is `unknown`, and operand
bytes of a length other than the command's are `badLength` (R181). -/
def Cmd.ofFrame (code : Byte) (ops : List Byte) : Cmd :=
  match code.toNat, ops with
  | 0x01, [] => .nop
  | 0x02, [] => .linkStatus
  | 0x03, [] => .sync
  | 0x04, [] => .travelRead
  | 0x05, [x, y, z] => .positionFix (unBe [x, y, z])
  | 0x06, [x, y, z, u, v, w] => .setFormation (unBe [x, y, z]) (unBe [u, v, w])
  | 0x07, [] => .lineRead
  | 0x08, [p, r] => .raise p.toNat r.toNat
  | 0x09, [p] => .lower p.toNat
  | 0x0A, [p, q] => .discSet p.toNat q.toNat
  | 0x0B, [p] => .addReset p.toNat
  | 0x0C, [p] => .isolate p.toNat
  | 0x0D, [p] => .restore p.toNat
  | 0x0E, [p] => .panRead p.toNat
  | 0x0F, [c, i, f] => .forceTableWrite c.toNat i.toNat f.toNat
  | 0x10, [f] => .forceTableWriteNext f.toNat
  | 0x11, [c, i] => .forceTableRead c.toNat i.toNat
  | 0x12, [] => .forceTableReadNext
  | 0x13, [p] => .forceRead p.toNat
  | 0x14, [] => .breakerClose
  | 0x15, [] => .breakerOpen
  | 0x16, [q] => .select q.toNat
  | 0x17, [o] => .earthPermit o.toNat
  | 0x18, [] => .breakerRead
  | 0x19, [k, s1, s2, s3, s4, n1, n2, y, w, lim] =>
      .mapInsert k.toNat (unBe [s1, s2, s3, s4]) (unBe [n1, n2]) y.toNat w.toNat lim.toNat
  | 0x1A, [x, y] => .mapDelete (unBe [x, y])
  | 0x1B, [i] => .mapRead i.toNat
  | 0x1C, [] => .mapReadNext
  | 0x1D, [] => .mapStatus
  | 0x1E, [] => .roofReset
  | 0x1F, [] => .seqRead
  | 0x20, [e, u, c, t] => .iceMode e.toNat u.toNat c.toNat t.toNat
  | 0x21, [p, o] => .heat p.toNat o.toNat
  | 0x22, [o] => .iceWeather o.toNat
  | 0x23, [] => .iceRead
  | 0x24, [] => .authRequest
  | 0x25, [] => .authRelease
  | 0x26, [] => .authRead
  | 0x27, [] => .lowerAll
  | 0x28, [i, x, v1, v2, v3, v4] => .configWrite i.toNat x.toNat (unBe [v1, v2, v3, v4])
  | 0x29, [i, x] => .configRead i.toNat x.toNat
  | 0x2A, [] => .configCommit
  | 0x2B, [] => .configReopen
  | 0x2C, [] => .noticeRead
  | 0x2D, [lo, hi] => .noticeClear (causesOf lo hi)
  | 0x2E, [lo, hi] => .noticeEnable (causesOf lo hi)
  | 0x2F, [] => .faultRead
  | 0x30, [] => .faultClear
  | _, _ => if knownCode code then .badLength code else .unknown code

/-! ### Frames (R176, R177) -/

/-- One of the eight steps of the CRC register (R177). -/
def crcShift (r : BitVec 16) : BitVec 16 :=
  if r.msb then (r <<< 1) ^^^ 0x1021 else r <<< 1

/-- Apply a function `n` times. -/
def times {α : Type} (f : α → α) : Nat → α → α
  | 0, x => x
  | n + 1, x => times f n (f x)

/-- One byte taken into the CRC register (R177). -/
def crcByte (r : BitVec 16) (b : Byte) : BitVec 16 :=
  times crcShift 8 (r ^^^ (b.setWidth 16 <<< 8))

/-- The CRC register after bytes, from a given value. -/
def crcFrom (r : BitVec 16) (bytes : List Byte) : BitVec 16 := bytes.foldl crcByte r

/-- The CRC of bytes (R177). -/
def crc (bytes : List Byte) : BitVec 16 := crcFrom 0xFFFF bytes

/-- The two CRC bytes, high byte first (R177). -/
def crcBytes (bytes : List Byte) : List Byte := be 2 (crc bytes).toNat

/-- Bytes 1 to n + 1 of a command frame: the length byte, the code, the tag and the operands (R176). -/
def commandBody (tag : Byte) (c : Cmd) : List Byte :=
  BitVec.ofNat 8 (2 + c.operands.length) :: c.code :: tag :: c.operands

/-- The bytes of a command frame (Table 10-1). -/
def commandFrame (tag : Byte) (c : Cmd) : List Byte :=
  (0xC3 : Byte) :: commandBody tag c ++ crcBytes (commandBody tag c)

/-- Bytes 1 to n + 1 of a frame the controller sends (Table 10-1): the length byte, then the code, the tag and either the
status with the results, or the attention state. -/
def txBody : TxFrame → List Byte
  | .response code tag st res => BitVec.ofNat 8 (3 + res.length) :: code :: tag :: (u8 st.num ++ res)
  | .syncDone tag => (3 : Byte) :: 0x03 :: tag :: u8 Status.ok.num
  | .busy code tag => (3 : Byte) :: code :: tag :: u8 Status.busy.num
  | .attention on => (3 : Byte) :: 0xFF :: 0 :: u8 on.toNat

/-- The bytes of a frame the controller sends (Table 10-1). -/
def txBytes (f : TxFrame) : List Byte := (0x3C : Byte) :: txBody f ++ crcBytes (txBody f)

/-! ### Bytes on the line (R175) -/

/-- The eight data bits of a byte, least significant first (R175). -/
def dataBits (b : Byte) : List Bool := (List.range 8).map b.getLsbD

/-- The parity bit of a byte: the number of ones among it and the data bits is even (R175). -/
def parityBit (b : Byte) : Bool := (dataBits b).count true % 2 = 1

/-- The level that carries a bit: a one at mark, a zero at space (PRESUMED, log 34). -/
def bitLevel (x : Bool) : Level := if x then .mark else .space

/-- The bit that a level carries. -/
def levelBit : Level → Bool
  | .mark => true
  | .space => false

/-- A byte as the controller sends it, level by level (R175): a start bit at space, the data bits, the parity bit, and a stop
bit at mark. -/
def byteLevels (b : Byte) : List Level :=
  .space :: (dataBits b).map bitLevel ++ [bitLevel (parityBit b), .mark]

/-- The byte that the levels of eleven bit times carry, with its end as it is read (R175): none where the first is no start
bit. -/
def readByte : List Level → Option (Byte × ByteTail)
  | [.space, d0, d1, d2, d3, d4, d5, d6, d7, p, x] =>
      some (BitVec.ofNat 8 (flagByte ([d0, d1, d2, d3, d4, d5, d6, d7].map levelBit)), ⟨levelBit p, x⟩)
  | _ => none

/-- A byte received with a parity bit that breaks the even count has a parity error (R175). -/
def parityError (b : Byte) (t : ByteTail) : Bool := t.parity ≠ parityBit b

/-- A byte whose stop bit is read at space has a framing error (R175). -/
def framingError (t : ByteTail) : Bool := t.stop = .space

/-- A byte is received without error (R175). -/
def wellReceived (b : Byte) (t : ByteTail) : Bool := !parityError b t && !framingError t

/-- The end of a byte as the controller sends it (R175). -/
def sentTail (b : Byte) : ByteTail := ⟨parityBit b, .mark⟩

/-- The levels of a frame on the transmit line, its bytes one after another (R175, R182). -/
def txLevels (f : TxFrame) : List Level := (txBytes f).flatMap byteLevels

/-- The command that an instruction of the opcode table's bits spells: no row of the table gives bits, so none. -/
def decodeTableWord (_nbits _w : Nat) : Option Instr := none

end Sys2Proof
end

