-- ==== Sys2Proof/Machine/Force.lean ====
section
/-! DEFINITION. The force regulator (Chapter 4): the profile tables, the setpoint and target computation, and the slew of
the commanded pressure. -/

namespace Sys2Proof.Machine

/-- The speed in whole km/h, rounded half up (R70). -/
def kmhOf (v : Nat) : Nat := (v * 36 + 5000) / 10000

/-- A point of a force profile table. -/
def tablePoint (t : List Nat) (i : Nat) : Nat := t.getD i 0

/-- The profile force at a speed in km/h; the division truncates toward zero (R71). -/
def profileForce (t : List Nat) (kmh : Nat) : Nat :=
  let i := kmh / 40
  if 8 ≤ i then tablePoint t 8
  else
    let here : Int := tablePoint t i
    let next : Int := tablePoint t (i + 1)
    (here + Int.tdiv ((next - here) * ((kmh : Int) - 40 * i)) 40).toNat

/-- The force setpoint: the scrape bonus added for role SCRAPE, clamped to 40 to 200 N (R72). -/
def setpointOf (profile : Nat) (role : Option Duty) (bonus : Nat) : Nat :=
  clampNat Config.forceMin Config.forceMax (if role = some .scrape then profile + bonus else profile)

/-- The target pressure of a setpoint, clamped to 0 to P_MAX (R73). -/
def targetOf (offset gain pMax force : Nat) : Nat := min pMax (offset + force * gain / 256)

/-- The commanded pressure after one speed-interval end (R74). -/
def slewOf (slew target pCmd : Nat) : Nat :=
  if pCmd + slew < target then pCmd + slew
  else if target + slew < pCmd then pCmd - slew
  else target

/-- The setpoint and target of a pantograph computed from the present speed, its class table, role and calibration (R69,
R70 to R73). -/
def computeForce (p : Pan) (s : State) : State :=
  let it := s.cfg.items
  let kmh := kmhOf s.trv.speed
  let profile := profileForce (s.cfg.tables.get (it.panClass.get p)) kmh
  let force := setpointOf profile (s.ch p).role it.scrapeBonus
  s.modForce p fun f =>
    { f with
      vKmh := kmh, point := min 8 (kmh / 40), profile := profile, force := force,
      target := some (targetOf (it.calOffset.get p) (it.calGain.get p) it.pMax force) }

/-- At the grant of a raise FREG computes setpoint and target, and p_cmd starts from 0 (R69). -/
def startForce (p : Pan) (s : State) : State :=
  (computeForce p s).modForce p fun f => { f with pCmd := 0 }

/-- FREG stops regulating: p_cmd 0 and no target; the setpoint keeps its value (R75). -/
def stopForce (p : Pan) (s : State) : State := s.modForce p fun f => { f with target := none, pCmd := 0 }

/-- p_cmd moves toward the target by at most PRESSURE_SLEW (R74). -/
def slewForce (p : Pan) (s : State) : State :=
  s.modForce p fun f =>
    match f.target with
    | some t => { f with pCmd := slewOf s.cfg.items.pressureSlew t f.pCmd }
    | none => f

/-- FREG and the settle timer of one pantograph at a speed-interval end (R69, R41): regulated while RAISING, SETTLING or
RAISED; the settle timer stops where p_cmd then differs from the target. -/
def regulate (p : Pan) (s : State) : State :=
  if (s.ch p).state.isRaised then
    let t := slewForce p (computeForce p s)
    if (t.freg.get p).target = some (t.freg.get p).pCmd then t
    else t.modPan p fun c => { c with settle := none }
  else s

end Sys2Proof.Machine
end

