-- ==== Sys2Proof/Machine/Power.lean ====
section
/-! DEFINITION. The breaker and selector controller (Chapter 5): breaker requests and readings, traction-wanted, the
system check, the line-lost watch, the auto-reclose, the selector and the earthing permit. -/

namespace Sys2Proof.Machine

/-! ### The main breaker -/

/-- The breaker demand: CLOSE in CLOSING and CLOSED, OPEN in the other states (R78). -/
def Breaker.demandClose : Breaker → Bool
  | .closing | .closed => true
  | .opened | .opening | .failed => false

/-- The outcome of a BREAKER_CLOSE or BREAKER_OPEN in flight at a state the breaker reaches (R89): DONE, FAILED, or not
ended. -/
def breakerOutcome (k : LongKind) (b : Breaker) : Option Bool :=
  match k, b with
  | .breakerClose, .closed => some true
  | .breakerClose, .opened => some false
  | .breakerClose, .failed => some false
  | .breakerOpen, .opened => some true
  | .breakerOpen, .failed => some false
  | _, _ => none

/-- The breaker operations that end at a state the breaker reaches leave the long operations, and the last of them is the
breaker's last result (R89). -/
def endBreakerOps (b : Breaker) (s : State) : State :=
  let ended := s.longOps.filter fun o => (breakerOutcome o.kind b).isSome
  let rest := s.longOps.filter fun o => (breakerOutcome o.kind b).isNone
  let result := match ended.getLast? with
    | some o => some ⟨o.link, o.kind = .breakerClose, (breakerOutcome o.kind b).getD false⟩
    | none => s.bsc.breakerResult
  (s.setLongOps rest).modBsc fun q => { q with breakerResult := result }

/-- The breaker enters a state: notice BREAKER (R78), outcomes of R89, the reclose disarmed at CLOSED (R88), and a report
to SEQ at FAILED (R82). -/
def setBreaker (b : Breaker) (s : State) : State :=
  if s.bsc.breaker = b then s
  else
    let t := endBreakerOps b (notice .breaker (s.modBsc fun q =>
      { q with breaker := b, reclose := if b = .closed then false else q.reclose }))
    if b = .failed then report .breakerFailed t else t

/-- The breaker starts to open: OPENING, with the open limit started (R79, R83). -/
def startOpening (s : State) : State :=
  setBreaker .opening (s.modBsc fun q => { q with limitStart := s.now })

/-- An open request (R79). -/
def openRequest (s : State) : State :=
  match s.bsc.breaker with
  | .closing | .closed => startOpening s
  | .opened | .opening | .failed => s

/-- Traction-wanted set (R84). -/
def setTraction (s : State) : State :=
  if s.bsc.traction then s else notice .breaker (s.modBsc fun q => { q with traction := true })

/-- Traction-wanted cleared, which disarms the auto-reclose (R84). -/
def clearTraction (s : State) : State :=
  let t := s.modBsc fun q => { q with traction := false, reclose := false }
  if s.bsc.traction then notice .breaker t else t

/-- The close interlock (R80). -/
def State.interlock (s : State) : Bool :=
  s.collectorRaised.isSome
    && (match s.systemPosition with
        | some y => s.ldet.detected = .raw (.sys y)
        | none => false)
    && s.seq.mode ≠ .roofSafe && !s.earthed

/-- A close request (R80): none where it is refused. -/
def closeRequest (s : State) : Option State :=
  if s.interlock then
    match s.bsc.breaker with
    | .opened => some (setBreaker .closing (s.modBsc fun q => { q with limitStart := s.now }))
    | .closing | .closed => some s
    | .opening | .failed => none
  else none

/-- The interlock watch: an open request at the event that makes a condition of R80 cease while the demand is CLOSE
(R81). -/
def watchInterlock (s : State) : State :=
  if s.bsc.breaker.demandClose && !s.interlock then openRequest s else s

/-- An external trip: OPEN with traction-wanted cleared and the reclose disarmed, no fault (R83). -/
def externalTrip (s : State) : State := clearTraction (setBreaker .opened s)

/-- What a reading of the breaker feedback does by state (R82, R83). -/
def breakerReading (s : State) : State :=
  match s.bsc.breaker, s.lines.breakerFb with
  | .closing, .closed => setBreaker .closed s
  | .opening, .opened => setBreaker .opened s
  | .closed, .opened => externalTrip s
  | .closed, .invalid => openRequest s
  | .opened, .closed => startOpening s
  | .opened, .invalid => startOpening s
  | .closed, .closed | .opened, .opened | .closing, .opened | .closing, .invalid | .opening, .closed
  | .opening, .invalid | .failed, _ => s

/-- The close limit falls due in CLOSING (R82). -/
def closeLimit (s : State) : State :=
  match s.lines.breakerFb with
  | .closed => setBreaker .closed s
  | .opened => setBreaker .opened (reportFault .breakerFailClose none none s)
  | .invalid => setBreaker .failed (reportFault .breakerFailClose none none s)

/-- The open limit falls due in OPENING: FAILED, and then the fault is reported (R82). -/
def openLimit (s : State) : State :=
  match s.lines.breakerFb with
  | .opened => setBreaker .opened s
  | .closed | .invalid => reportFault .breakerFailOpen none none (setBreaker .failed s)

/-! ### The system check and the detected system -/

/-- The detected system is a mismatch for a position (R85): a line system or UNCLASSIFIED that differs from it. -/
def mismatches (d : Detected) (y : LineSys) : Bool :=
  match d with
  | .raw (.sys z) => z ≠ y
  | .raw .unclassified => true
  | .raw .dead | .unknown => false

/-- The system check of R85. -/
def systemCheck (s : State) : State :=
  match s.systemPosition with
  | some y =>
    if !s.entryActive && mismatches s.ldet.detected y then
      notice .mismatch (reportFault .systemMismatch none none s)
    else s
  | none => s

/-- The detected system changes: DETECTED_SINCE and notice LINE (R30, R33), the interlock (R81), then the system check
(R85). A fault of the check is so reported before the EARTH_UNEXPECTED of a permit that the same change ends (DESIGN CHOICE,
log 38). -/
def setDetected (d : Detected) (s : State) : State :=
  if s.ldet.detected = d then s
  else
    systemCheck (watchInterlock (notice .line (s.modLdet fun q => { q with detected := d, since := s.now })))

/-! ### Line-lost protection and auto-reclose -/

/-- The distance covered at a speed in a time, in mm (R86, R108, R155). -/
def travelled (v ms : Nat) : Nat := v * ms / 1000

/-- The front lies inside the protected zone of an entry (R86). -/
def protectedZone (s : State) (e : Entry) : Bool :=
  let it := s.cfg.items
  e.startMm ≤ s.trv.front + travelled s.trv.speed (it.openTime + it.lowerAllowTime) + it.approachMargin * 1000
    && s.trv.front < e.endMm + largestOffset s.trv.offsets s.usablePans + it.clearMargin * 1000

/-- The conditions of the line-lost watch (R86). -/
def State.lineLostHolds (s : State) : Bool :=
  s.ldet.detected = .raw .dead && s.bsc.traction && s.collectorRaised.isSome && s.seq.mode = .inService
    && !s.entryActive && s.map.entries.all fun e => !protectedZone s e

/-- The line-lost watch brought to its conditions (R86, R87): none where it needs no change. It is brought to them at
SET_FORMATION too, which moves the protected zone by o_max: R86 evaluates at "every event that can change them", and does not name
that command in its list (DESIGN CHOICE, log 49). -/
def watchLineLost (s : State) : Option State :=
  match s.lineLostHolds, s.bsc.watch with
  | true, .stopped => some (s.modBsc fun q => { q with watch := .running s.now })
  | false, .running _ => some (s.modBsc fun q => { q with watch := .stopped })
  | false, .spent => some (s.modBsc fun q => { q with watch := .stopped })
  | true, .running _ | true, .spent | false, .stopped => none

/-- The line-lost watch reaches LINE_LOST_DWELL (R87). -/
def lineLostExpires (s : State) : State :=
  let t := notice .lineLost (reportFault .lineLost none none (openRequest s))
  let recent := match s.bsc.lastReclose with
    | some r => decide (s.elapsed r < Config.recloseSpacing)
    | none => false
  (if recent then clearTraction t else t.modBsc fun q => { q with reclose := true }).modBsc fun q =>
    { q with watch := .spent }

/-- The conditions of the reclose timer (R88). -/
def State.recloseHolds (s : State) : Bool :=
  s.bsc.reclose && s.bsc.traction && s.bsc.breaker = .opened && s.collectorRaised.isSome
    && (match s.systemPosition with
        | some y => s.ldet.detected = .raw (.sys y)
        | none => false)
    && s.seq.mode = .inService && !s.entryActive

/-- The reclose timer brought to its conditions (R88): none where it needs no change. -/
def watchReclose (s : State) : Option State :=
  match s.recloseHolds, s.bsc.recloseTimer with
  | true, none => some (s.modBsc fun q => { q with recloseTimer := some s.now })
  | false, some _ => some (s.modBsc fun q => { q with recloseTimer := none })
  | true, some _ | false, none => none

/-- The reclose timer reaches 2000 ms: the time is recorded, the flag disarmed and a close request sent (R88). -/
def autoRecloses (s : State) : State :=
  let t := s.modBsc fun q => { q with lastReclose := some s.now, reclose := false, recloseTimer := none }
  (closeRequest t).getD t

/-! ### The system selector -/

/-- A move between classes (section 5.6): every move but one between two system positions of one class. -/
def betweenClasses (left : Option SelPos) (sought : SelPos) : Bool :=
  match left, sought with
  | some (.sys y), .sys z => y.cls ≠ z.cls
  | _, _ => true

/-- Every pantograph whose disconnector is CONNECTED is LOWERED (R90). -/
def State.connectedLowered (s : State) : Bool :=
  Pan.all.all fun p => (s.ch p).disc ≠ .resting .connected || (s.ch p).state = .lowered

/-- The position that a move leaves (R90). A move from FAILED holds none as the position left, on which R90 is silent (DESIGN
CHOICE, log 43). -/
def Selector.leaves : Selector → Option SelPos
  | .rest p => some p
  | .moving l _ => l
  | .failed _ => none

/-- A move in progress has ended: its source and outcome are the selector's last result, and notice SELECTOR is raised
(R91, R92). -/
def endMove (done : Bool) (s : State) : State :=
  let result := match s.bsc.moveSource with
    | some src => some ⟨src, done⟩
    | none => s.bsc.selectorResult
  notice .selector (endLong .select (s.modBsc fun q => { q with moveSource := none, selectorResult := result }))

/-- The selector comes to rest at the position sought: the move ends DONE and the check of R85 is made (R91). -/
def selectorRests (p : SelPos) (s : State) : State :=
  systemCheck (endMove true (s.modBsc fun q => { q with selector := .rest p }))

/-- The selector enters FAILED: fault SELECTOR_FAIL, notice SELECTOR, a move in progress ends FAILED, and SEQ is told
(R91). -/
def selectorFails (sought : SelPos) (s : State) : State :=
  report .selectorFailed (endMove false (reportFault .selectorFail none none
    (s.modBsc fun q => { q with selector := .failed sought })))

/-- What a reading of the selector feedback does (R91). -/
def selectorReading (s : State) : State :=
  match s.bsc.selector with
  | .moving _ sought => if s.lines.selectorFb = some sought then selectorRests sought s else s
  | .rest p => if s.lines.selectorFb = some p then s else selectorFails p s
  | .failed _ => s

/-- The answer to a move request (R90). -/
inductive MoveAnswer
  | refused | atPosition | started
  deriving DecidableEq, Repr

/-- A move request from SELECT or SEQ (R90). -/
def requestMove (sought : SelPos) (src : Source) (s : State) : State × MoveAnswer :=
  match s.bsc.selector with
  | .moving _ _ => (s, .refused)
  | sel =>
    if sel = .rest sought then (s, .atPosition)
    else if s.bsc.breaker ≠ .opened then (s, .refused)
    else if betweenClasses sel.leaves sought && !s.connectedLowered then (s, .refused)
    else
      (notice .selector (s.modBsc fun q =>
        { q with selector := .moving sel.leaves sought, moveStart := s.now, moveSource := some src }), .started)

/-- A move in progress whose conditions of R90 no longer hold ends in FAILED (R91): none where it goes on. Where the same event
ends the permit with the switch EARTHED, `watchers` brings that first (DESIGN CHOICE, log 48). -/
def watchMove (s : State) : Option State :=
  match s.bsc.selector with
  | .moving left sought =>
    if s.bsc.breaker = .opened && (!betweenClasses left sought || s.connectedLowered) then none
    else some (selectorFails sought s)
  | .rest _ | .failed _ => none

/-! ### The earthing permit -/

/-- The four conditions under which the permit is given (R93). -/
def State.permitHolds (s : State) : Bool :=
  Pan.all.all (fun p => (s.ch p).state = .lowered || (s.ch p).state = .isolated)
    && s.bsc.breaker = .opened && s.ldet.detected = .raw .dead && s.standstill

/-- The permit output takes a value; notice EARTH at each change (R93). -/
def setPermit (given : Bool) (s : State) : State :=
  if s.bsc.permit = given then s else notice .earth (s.modBsc fun q => { q with permit := given })

/-- A switch reading EARTHED with no permit given: fault EARTH_UNEXPECTED, which SEQ sees (R93, R137). -/
def earthUnexpected (s : State) : State :=
  if s.earthed && !s.bsc.permit then reportFault .earthUnexpected none none s else s

/-- The permit is withdrawn at the event that ends one of its conditions (R93): none where it stands or is not given. Where the
same event fails a move of the selector, `watchers` brings the permit first (DESIGN CHOICE, log 48). -/
def watchPermit (s : State) : Option State :=
  if s.bsc.permit && !s.permitHolds then some (earthUnexpected (setPermit false s)) else none

/-! ### Output lines of BSC (R78, R90, R93) -/

/-- The breaker close drive. -/
def State.closeDrive (s : State) : Bool := s.bsc.breaker = .closing
/-- The breaker open drive. -/
def State.openDrive (s : State) : Bool := s.bsc.breaker = .opening || s.bsc.breaker = .failed
/-- The selector drive: the position sought while MOVING, and released at rest (R90, R91). That it is released in FAILED too is
the model's choice: R91 names its release on coming to rest alone (DESIGN CHOICE, log 39). -/
def State.selectorDrive (s : State) : Option SelPos :=
  match s.bsc.selector with
  | .moving _ p => some p
  | .rest _ | .failed _ => none
/-- The earthing permit output. -/
def State.permitOutput (s : State) : Bool := s.bsc.permit

end Sys2Proof.Machine
end

