-- ==== Sys2Proof/Machine/Travel.lean ====
section
/-! DEFINITION. The travel counter (Chapter 1): pulses, the odometer, the speed history, the direction state and the
pantograph offsets. What MAP, SEQ and ICE do at a pulse stands in their own files. -/

namespace Sys2Proof.Machine

/-- A pulse is forward when its direction matches the leading end (R4). -/
def pulseForward (leading : End) (dir : TravelDir) : Bool :=
  match leading, dir with
  | .endA, .aForward => true
  | .endB, .bForward => true
  | .endA, .bForward => false
  | .endB, .aForward => false

/-- The front after a pulse, saturating at both ends of the odometer (R5). -/
def moveFront (forward : Bool) (len front : Nat) : Nat :=
  if forward then min Config.frontMax (front + len) else front - len

/-- A run counter after a pulse of its own direction; it stays at 2000 mm (R8). -/
def addRun (run len : Nat) : Nat := min Config.runMax (run + len)

/-- The direction state after a pulse (R8). -/
def nextDirection (forward : Bool) (run : Nat) (d : Direction) : Direction :=
  match d with
  | .normal => if !forward && run = Config.runMax then .reversing else .normal
  | .reversing => if forward && run = Config.runMax then .normal else .reversing

/-- TRV at an accepted pulse: front (R5), accumulator (R6), run counters and direction state (R8). -/
def Travel.pulse (forward : Bool) (len : Nat) (t : Travel) : Travel :=
  let run := addRun (if forward then t.fwdRun else t.revRun) len
  { t with
    front := moveFront forward len t.front
    acc := t.acc + len
    fwdRun := if forward then run else 0
    revRun := if forward then 0 else run
    direction := nextDirection forward run t.direction }

/-- The speed of a history: twice its sum, clamped (R6). -/
def speedOf (history : List Nat) : Nat := min Config.speedMax (2 * history.sum)

/-- TRV at a speed-interval end (R6). -/
def Travel.intervalEnd (t : Travel) : Travel :=
  let history := t.history.drop 1 ++ [t.acc]
  { t with history := history, acc := 0, speed := speedOf history }

/-- The offset of a pantograph for a leading end (R12). A position beyond the car length counts as the car length. -/
def offsetOf (leading : End) (fA fB carLength position : Nat) : Nat :=
  match leading with
  | .endA => fA + position
  | .endB => fB + (carLength - position)

/-- The four offsets of the present settings (R12). -/
def State.offsetsNow (s : State) : PerPan Nat :=
  let o := fun p => offsetOf s.auth.leading s.trv.fA s.trv.fB s.cfg.items.carLength (s.cfg.items.panPosition.get p)
  ⟨o .p1, o .p2, o .p3, o .p4⟩

/-- TRV recomputes all four offsets at once (R14). -/
def recomputeOffsets (s : State) : State := s.modTrv fun t => { t with offsets := s.offsetsNow }

/-- TRV at a grant that changes the leading end: runs cleared, direction NORMAL, offsets recomputed; notice MAP where the
state was REVERSING (R9, R16). -/
def travelLeadingEnd (s : State) : State :=
  let t := recomputeOffsets (s.modTrv fun t => { t with revRun := 0, fwdRun := 0, direction := .normal })
  if s.trv.direction = .reversing then notice .map t else t

end Sys2Proof.Machine
end

