-- ==== Sys2Proof/Machine/Panto.lean ====
section
/-! DEFINITION. The pantograph channels (Chapter 3): the arbiter, raising, holding, lowering, the automatic dropping
device, the disconnectors, the protective lowerings, isolation, and the channels' output lines. -/

namespace Sys2Proof.Machine

/-! ### Owners, operations and their ends -/

/-- The priority of a source (R56). -/
def Source.rank : Source → Nat
  | .sequencer => 3
  | .authority _ => 2
  | .ice => 1

/-- The long operation that an AUTHORITY operation of a channel is (R186). -/
def Op.long (p : Pan) : Op → LongKind
  | .raise _ => .raise p
  | .lower => .lower p
  | .discMove _ => .disc p

/-- The long operations of a channel's operation end; a joined RAISE ends with the raise it joined (R186). -/
def endOpLong (p : Pan) (op : Op) (s : State) : State :=
  match op with
  | .raise _ => endLong (.joined p) (endLong (.raise p) s)
  | .lower => endLong (.lower p) s
  | .discMove _ => endLong (.disc p) s

/-- A change of a channel that R38 reports: notice PAN. -/
def changePan (p : Pan) (f : Channel → Channel) (s : State) : State := notice .pan (s.modPan p f)

/-- A change of a pantograph's state or role: notice PAN (R38), and an evaluation of the scrape conditions (R154). -/
def movePan (p : Pan) (f : Channel → Channel) (s : State) : State := (changePan p f s).setIceEval true

/-- The report of an outcome to SEQ or ICE where either started the operation (R57). -/
def reportOutcome (p : Pan) (src : Source) (op : Op) (out : OpOutcome) (s : State) : State :=
  match src with
  | .authority _ => s
  | .sequencer | .ice => report (.opEnded p src op out) s

/-- An operation that never stood as the operation in place, or stands no longer, reaches its outcome: the last result,
notice PAN and the report (R57). -/
def recordOutcome (p : Pan) (src : Source) (op : Op) (out : OpOutcome) (s : State) : State :=
  reportOutcome p src op out (changePan p (fun c => { c with lastResult := some ⟨src, op, out⟩ }) s)

/-- The owner and the operation in place leave the channel with the waiting flags (R56). -/
def dropJob (p : Pan) (s : State) : State :=
  let t := match (s.ch p).job with
    | some j => endOpLong p j.op s
    | none => s
  t.modPan p fun c => { c with job := none, raiseWaiting := false, lowerReq := false }

/-- The operation in place ends with an outcome and the owner is cleared (R57). -/
def endJob (p : Pan) (out : OpOutcome) (s : State) : State :=
  match (s.ch p).job with
  | some j => recordOutcome p j.source j.op out (dropJob p s)
  | none => s

/-- The request becomes the channel's operation (R56); an AUTHORITY operation is a long operation from then on (R186). -/
def placeJob (p : Pan) (src : Source) (op : Op) (s : State) : State :=
  let t := s.modPan p fun c => { c with job := some ⟨src, op⟩ }
  match src with
  | .authority l => startLong l (op.long p) t
  | .sequencer | .ice => t

/-- The arbiter admits a request (R56, R57). -/
def State.admits (s : State) (p : Pan) (src : Source) : Bool :=
  match (s.ch p).job with
  | none => true
  | some j => j.source.rank ≤ src.rank

/-- An admitted request takes the channel (R56): an operation of its own source is replaced without a report, another
ends ABORTED. -/
def takeOver (p : Pan) (src : Source) (op : Op) (s : State) : State :=
  let t := match (s.ch p).job with
    | none => s
    | some j => if j.source = src then dropJob p s else endJob p .aborted s
  placeJob p src op t

/-! ### Lowering -/

/-- The lower limit is reached in LOWERING: LOWERED with role NONE, the LOWER operation DONE, the arc bins cleared (R45). -/
def reachLowered (p : Pan) (s : State) : State :=
  let t := movePan p (fun c => { c with state := .lowered, role := none })
    (s.modIce fun i => { i with arcs := i.arcs.set p .empty })
  match (s.ch p).job with
  | some ⟨_, .lower⟩ => endJob p .done t
  | some ⟨_, .raise _⟩ | some ⟨_, .discMove _⟩ | none => t

/-- Entry into LOWERING (R45, R75). -/
def enterLowering (p : Pan) (s : State) : State :=
  let t := endLong (.joined p) (stopForce p (movePan p (fun c =>
    { c with
      state := .lowering, settle := none, loss := none, below := 0, lowerReq := false,
      lowerStart := s.clk.total, lowerLen := s.cfg.items.lowerLimit, lowerFired := false }) s))
  if s.lines.lowered.get p then reachLowered p t else t

/-- The answer to a lower request (R47). -/
inductive LowerAnswer
  | busy | unavailable | done | taken
  deriving DecidableEq, Repr

/-- A lower request of a source (R47, R56, R57). -/
def requestLower (p : Pan) (src : Source) (s : State) : State × LowerAnswer :=
  if !s.admits p src then (s, .busy)
  else
    match (s.ch p).state with
    | .dropped | .isolated => (s, .unavailable)
    | .lowered => (endJob p .done (takeOver p src .lower s), .done)
    | .lowering => (takeOver p src .lower s, .taken)
    | .raising | .settling | .raised =>
      let t := takeOver p src .lower s
      if (s.ch p).role = some .scrape || s.bsc.breaker = .opened then (enterLowering p t, .taken)
      else (openRequest (t.modPan p fun c => { c with lowerReq := true }), .taken)

/-- A pantograph whose lower waits for the breaker, once the breaker is OPEN (R47): none where none does. -/
def watchLowerWait (p : Pan) (s : State) : Option State :=
  if (s.ch p).lowerReq && s.bsc.breaker = .opened then some (enterLowering p s) else none

/-- A protective lowering by LOWER_ALL or ROOF_SAFE entry (R58, R61). -/
def protectiveLower (p : Pan) (s : State) : State :=
  match (s.ch p).state with
  | .isolated => s
  | .raising | .settling | .raised => enterLowering p (endJob p .aborted s)
  | .lowering | .lowered | .dropped => endJob p .aborted s

/-- T_lower has elapsed in LOWERING (R46). -/
def lowerExpires (p : Pan) (s : State) : State :=
  let c := s.ch p
  let bySeq := match c.job with
    | some j => decide (j.source = .sequencer)
    | none => false
  endJob p (.failed (.fault .lowerTimeout))
    (report (.lowerTimeout p c.role bySeq)
      (reportFault .lowerTimeout (some p) none (s.modPan p fun c => { c with lowerFired := true })))

/-- A change of the lowered-limit input, its line already at the new level (R44, R45). -/
def loweredLimit (p : Pan) (s : State) : State :=
  match (s.ch p).state, s.lines.lowered.get p with
  | .lowering, true => reachLowered p s
  | .lowered, false => enterLowering p s
  | .lowering, false | .lowered, true | .raising, _ | .settling, _ | .raised, _ | .dropped, _ | .isolated, _ => s

/-! ### Raising -/

/-- The disconnector position a role needs (Table 3-4). -/
def discNeed : Duty → DiscPos
  | .collecting => .connected
  | .scrape => .disconnected

/-- The front lies inside the span of a LOWER_ZONE entry or of the ACTIVE entry (Table 3-4, condition 8). -/
def State.routeInhibits (s : State) : Bool :=
  s.map.entries.any fun e => (e.sect = .lowerZone || e.state = .active) && e.contains s.trv.front

/-- The selector rests at a system position of a pantograph's class (Table 3-4, condition 4). -/
def State.selectorSuits (s : State) (p : Pan) : Bool :=
  match s.systemPosition with
  | some y => y.cls = s.cfg.items.panClass.get p
  | none => false

/-- A COLLECTING pantograph is raised (Table 3-4, condition 5). -/
def State.collectingRaised (s : State) : Bool := s.raisedPans.any fun q => (s.ch q).role = some .collecting

/-- The first raise condition of Table 3-4 that fails, as its reason (R54). -/
def State.raiseRefusal (s : State) (p : Pan) (d : Duty) : Option Status :=
  if s.seq.mode = .configPending then some .notConfigured
  else if s.seq.mode = .roofSafe then some .roofSafe
  else if (s.ch p).state ≠ .lowered then some .panUnavailable
  else if (s.ch p).disc ≠ .resting (discNeed d) then some .interlock
  else if d = .collecting ∧ !s.selectorSuits p then some .interlock
  else if d = .collecting ∧ s.collectingRaised then some .panLimit
  else if d = .scrape ∧ s.collectorRaised = none then some .interlock
  else if 2 ≤ s.raisedPans.length then some .panLimit
  else if s.earthed || s.bsc.permit then some .interlock
  else if s.routeInhibits then some .routeInhibit
  else none

/-- A pantograph granted a raise by SEQ joins the set raised by sequence (R127). -/
def markRaised (p : Pan) (s : State) : State :=
  s.modSeq fun q => { q with ctx := q.ctx.map fun c => { c with raised := c.raised.set p true } }

/-- The grant of a raise (R39, R40, R69). -/
def grantRaise (p : Pan) (d : Duty) (s : State) : State :=
  let t := startForce p (movePan p (fun c =>
    { c with
      state := if s.lines.contact.get p then .settling else .raising
      role := some d, raiseStart := s.now, raiseLen := s.cfg.items.raiseLimit, settle := none, loss := none, below := 0,
      raiseWaiting := false, lowerReq := false, sampleAt := s.now }) s)
  match (s.ch p).job with
  | some ⟨.sequencer, _⟩ => markRaised p t
  | some ⟨.authority _, _⟩ | some ⟨.ice, _⟩ | none => t

/-- The answer to a raise request (R54 to R57, R59). -/
inductive RaiseAnswer
  | busy | unavailable | doneAtOnce | joined | waiting | granted
  | refused (st : Status)
  deriving DecidableEq, Repr

/-- A raise request finds its pantograph raised in the same role (R57). -/
def raiseRaised (p : Pan) (d : Duty) (src : Source) (s : State) : State × RaiseAnswer :=
  if (s.ch p).state = .raised then (endJob p .done (takeOver p src (.raise d) s), .doneAtOnce)
  else
    match (s.ch p).job with
    | some ⟨_, .raise _⟩ =>
      match src with
      | .authority l => (startLong l (.joined p) s, .joined)
      | .sequencer | .ice => (s, .joined)
    | some ⟨_, .lower⟩ | some ⟨_, .discMove _⟩ | none => (takeOver p src (.raise d) s, .joined)

/-- The raise request waits (R55): its pantograph is in LOWERING, or its disconnector moves toward the position the role
needs. A disconnector that moves toward the other position does not let it wait. -/
def Channel.raiseWaits (c : Channel) (d : Duty) : Bool :=
  match c.disc with
  | .moving q => q = discNeed d && (c.state = .lowering || c.state = .lowered)
  | .resting _ | .failed => c.state = .lowering

/-- A raise request of a source (R54 to R57, R59). -/
def requestRaise (p : Pan) (d : Duty) (src : Source) (s : State) : State × RaiseAnswer :=
  if !s.admits p src then (s, .busy)
  else if (s.ch p).state = .dropped || (s.ch p).state = .isolated then (s, .unavailable)
  else if (s.ch p).state.isRaised then
    if (s.ch p).role = some d then raiseRaised p d src s else (s, .unavailable)
  else if (s.ch p).raiseWaits d then
    ((takeOver p src (.raise d) s).modPan p fun c => { c with raiseWaiting := true }, .waiting)
  else
    match s.raiseRefusal p d with
    | some st => (s, .refused st)
    | none => (grantRaise p d (takeOver p src (.raise d) s), .granted)

/-- The wait of a raise ends (R55): the test of R54 is made. None where no wait ends. -/
def watchRaiseWait (p : Pan) (s : State) : Option State :=
  let c := s.ch p
  match c.job, c.disc with
  | some ⟨_, .raise d⟩, .resting _ | some ⟨_, .raise d⟩, .failed =>
    if c.raiseWaiting && c.state = .lowered then
      match s.raiseRefusal p d with
      | some st => some (endJob p (.failed (.status st)) s)
      | none => some (grantRaise p d s)
    else none
  | some ⟨_, .raise _⟩, .moving _ | some ⟨_, .lower⟩, _ | some ⟨_, .discMove _⟩, _ | none, _ => none

/-- The settle timer has run for T_settle: RAISED, and a RAISE in place ends DONE (R41). -/
def settleEnds (p : Pan) (s : State) : State :=
  let t := movePan p (fun c => { c with state := .raised, settle := none }) s
  match (s.ch p).job with
  | some ⟨_, .raise _⟩ => endJob p .done t
  | some ⟨_, .lower⟩ | some ⟨_, .discMove _⟩ | none => t

/-- T_raise has elapsed in RAISING or SETTLING (R42). -/
def raiseExpires (p : Pan) (s : State) : State :=
  let t := reportFault .raiseTimeout (some p) none s
  enterLowering p (match (s.ch p).job with
    | some ⟨_, .raise _⟩ => endJob p (.failed (.fault .raiseTimeout)) t
    | some ⟨_, .lower⟩ | some ⟨_, .discMove _⟩ | none => t)

/-! ### Contact, pressure and the automatic dropping device -/

/-- A change of the contact-sense input, its line already at the new level (R40, R43, R44). -/
def contactSense (p : Pan) (s : State) : State :=
  match (s.ch p).state, s.lines.contact.get p with
  | .raising, true => movePan p (fun c => { c with state := .settling }) s
  | .settling, false => movePan p (fun c => { c with state := .raising, settle := none }) s
  | .raised, false => s.modPan p fun c => { c with loss := c.loss.orElse fun _ => some s.now }
  | .raised, true => s.modPan p fun c => { c with loss := none }
  | .raising, false | .settling, true | .lowered, _ | .lowering, _ | .dropped, _ | .isolated, _ => s

/-- An open request where a pantograph's role is COLLECTING (R43, R49). -/
def openIfCollecting (p : Pan) (s : State) : State :=
  if (s.ch p).role = some .collecting then openRequest s else s

/-- The contact-loss timer reaches 500 ms: a protective lowering (R43). -/
def contactLost (p : Pan) (s : State) : State :=
  enterLowering p (openIfCollecting p (endJob p .aborted (reportFault .contactLost (some p) none s)))

/-- The automatic dropping device trips (R49). -/
def trip (p : Pan) (s : State) : State :=
  let t := stopForce p (movePan p (fun c =>
    { c with state := .dropped, settle := none, loss := none, lowerReq := false }) s)
  openIfCollecting p (endJob p .aborted (reportFault .addTrip (some p) none (endLong (.joined p) t)))

/-- A sample outside the valid range, or a gap of 20 ms: notice SENSOR and a trip (R48). -/
def sensorTrip (p : Pan) (s : State) : State := trip p (notice .sensor s)

/-- A pressure sample is valid (R48). -/
def validPressure (x : Int) : Bool := Config.pressureLow ≤ x && x ≤ Config.pressureHigh

/-- Both conditions of the settle timer hold at a sample (R41). -/
def State.settled (s : State) (p : Pan) (x : Int) : Bool :=
  let f := s.freg.get p
  f.target = some f.pCmd && (f.pCmd : Int) - Config.settleBand ≤ x && x ≤ (f.pCmd : Int) + Config.settleBand

/-- The settle timer at a pressure sample taken in SETTLING (R41). -/
def settleSample (p : Pan) (x : Int) (s : State) : State :=
  if (s.ch p).state = .settling then
    if s.settled p x then
      match (s.ch p).settle with
      | some _ => s
      | none => s.modPan p fun c => { c with settle := some s.now, settleLen := s.cfg.items.settleTime }
    else s.modPan p fun c => { c with settle := none }
  else s

/-- A valid sample judged in RAISING, SETTLING or RAISED (R48, R41). -/
def judgeSample (p : Pan) (x : Int) (s : State) : State :=
  if x < ((s.freg.get p).pCmd : Int) - s.cfg.items.dropThreshold then
    let t := s.modPan p fun c => { c with below := c.below + 1 }
    if 2 ≤ (t.ch p).below then trip p t else settleSample p x t
  else settleSample p x (s.modPan p fun c => { c with below := 0 })

/-- A pressure sample (R48). -/
def takePressure (p : Pan) (x : Int) (s : State) : State :=
  let t := s.modPan p fun c => { c with sampleAt := s.now }
  if validPressure x then
    let u := t.modPan p fun c => { c with measured := x }
    if (s.ch p).state.isRaised then judgeSample p x u else u
  else if (s.ch p).state.isRaised then sensorTrip p t
  else t

/-- A DROPPED pantograph goes to LOWERED (R50, R51); a scrape block held for it is cleared (R158). -/
def resetDropped (p : Pan) (s : State) : State :=
  movePan p (fun c => { c with state := .lowered, role := none, below := 0 })
    (s.modIce fun i =>
      { i with arcs := i.arcs.set p .empty, block := if i.block = some p then none else i.block })

/-! ### Disconnectors -/

/-- The answer to a disconnector move request (R52). -/
inductive DiscAnswer
  | busy | unavailable | done | taken
  deriving DecidableEq, Repr

/-- The disconnector starts to move, or is sent anew while it moves (R52). Notice PAN is raised also where the
position sought is the same and the move time alone restarts, which R38 does not settle (DESIGN CHOICE, log 42). -/
def startDisc (p : Pan) (q : DiscPos) (s : State) : State :=
  changePan p (fun c => { c with disc := .moving q, discDrive := some q, discStart := s.now }) s

/-- A disconnector move request of a source (R49, R52, R56, R57, R62). -/
def requestDisc (p : Pan) (q : DiscPos) (src : Source) (s : State) : State × DiscAnswer :=
  let c := s.ch p
  if !s.admits p src then (s, .busy)
  else if c.state = .dropped || c.state = .isolated then (s, .unavailable)
  else
    match c.disc with
    | .moving _ => (startDisc p q (takeOver p src (.discMove q) s), .taken)
    | .resting r =>
      if c.state ≠ .lowered then (s, .unavailable)
      else if r = q then (endJob p .done (takeOver p src (.discMove q) s), .done)
      else (startDisc p q (takeOver p src (.discMove q) s), .taken)
    | .failed =>
      if c.state ≠ .lowered then (s, .unavailable)
      else (startDisc p q (takeOver p src (.discMove q) s), .taken)

/-- The DISC_MOVE operation in place, where there is one, ends with an outcome (R52). -/
def endDiscJob (p : Pan) (out : OpOutcome) (s : State) : State :=
  match (s.ch p).job with
  | some ⟨_, .discMove _⟩ => endJob p out s
  | some ⟨_, .raise _⟩ | some ⟨_, .lower⟩ | none => s

/-- A moving disconnector takes the position sought (R52). -/
def discRests (p : Pan) (q : DiscPos) (s : State) : State :=
  endDiscJob p .done (changePan p (fun c => { c with disc := .resting q }) s)

/-- What the disconnector feedback does, its line already at the new reading (R52). -/
def discReading (p : Pan) (s : State) : State :=
  match (s.ch p).disc with
  | .moving q => if s.lines.discFb.get p = some q then discRests p q s else s
  | .resting q =>
    if s.lines.discFb.get p = some q then s
    else notice .pan (reportFault .disconnectorFail (some p) none s)
  | .failed => s

/-- 2000 ms in MOVING (R52). A line that reads the position sought is taken as the end of the move. -/
def discExpires (p : Pan) (q : DiscPos) (s : State) : State :=
  if s.lines.discFb.get p = some q then discRests p q s
  else
    endDiscJob p (.failed (.fault .disconnectorFail))
      (reportFault .disconnectorFail (some p) none (changePan p (fun c => { c with disc := .failed }) s))

/-! ### ROOF_RESET and isolation -/

/-- ROOF_RESET on one channel (R51). -/
def resetChannel (p : Pan) (s : State) : State :=
  let t := if (s.ch p).state = .dropped && s.lines.lowered.get p then resetDropped p s else s
  match (t.ch p).disc, t.lines.discFb.get p with
  | .failed, some q => changePan p (fun c => { c with disc := .resting q }) t
  | .failed, none | .resting _, _ | .moving _, _ => t

/-- A heater output switched off; a rest goes on (Table 8-4). -/
def HeaterOut.switchOff : HeaterOut → HeaterOut
  | .on _ => .off
  | .off => .off
  | .rest t => .rest t

/-- A heater switched off with its manual demand cleared (R62, R160). -/
def Heater.cease (h : Heater) : Heater := ⟨h.out.switchOff, false⟩

/-- ISOLATE of a LOWERED pantograph with no owner (R62). -/
def isolatePan (p : Pan) (s : State) : State :=
  movePan p (fun c => { c with state := .isolated })
    (s.modIce fun i => { i with heaters := i.heaters.set p (i.heaters.get p).cease })

/-- RESTORE of an ISOLATED pantograph (R62). -/
def restorePan (p : Pan) (s : State) : State :=
  if s.lines.lowered.get p then movePan p (fun c => { c with state := .lowered }) s else enterLowering p s

/-! ### Output lines (Table 3-3, R48, R52) -/

/-- The raise valve is open (Table 3-3). -/
def State.raiseValveOpen (s : State) (p : Pan) : Bool := (s.ch p).state.isRaised
/-- The dump valve is open (Table 3-3). -/
def State.dumpValveOpen (s : State) (p : Pan) : Bool := !(s.ch p).state.isRaised
/-- The pressure setpoint: p_cmd (R74). -/
def State.pressureSetpoint (s : State) (p : Pan) : Nat := (s.freg.get p).pCmd
/-- The disconnector drive: the position last sought by a move (R52). That it is held after the move has ended or FAILED is
the model's choice: no rule releases it (DESIGN CHOICE, log 35). -/
def State.discDriveLine (s : State) (p : Pan) : Option DiscPos := (s.ch p).discDrive

end Sys2Proof.Machine
end

