-- ==== Sys2Proof/Machine/IceOps.lean ====
section
/-! DEFINITION. The ice monitor (Chapter 8): arc counting, the temperature and level 1, the ice state, the heaters and the
scrape procedure. -/

namespace Sys2Proof.Machine

/-! ### Arc counting (R143, R144) -/

/-- A counted arc in a ring (R144). -/
def ArcRing.count (r : ArcRing) : ArcRing := { r with current := min Config.binMax (r.current + 1) }

/-- A bin end in a ring (R144). -/
def ArcRing.binEnd (r : ArcRing) : ArcRing := ⟨0, r.completed.drop 1 ++ [r.current]⟩

/-- The rolling count: the sum of the ten bins (R144). -/
def ArcRing.rolling (r : ArcRing) : Nat := r.completed.sum + r.current

/-- An accepted arc pulse is counted in SETTLING and RAISED and discarded in every other state (R143). -/
def countArc (p : Pan) (s : State) : State :=
  if (s.ch p).state = .settling || (s.ch p).state = .raised then
    s.modIce fun i => { i with arcs := i.arcs.set p (i.arcs.get p).count }
  else s

/-- A bin end for every pantograph (R144). -/
def binEnd (s : State) : State :=
  s.modIce fun i => { i with arcs := ⟨i.arcs.p1.binEnd, i.arcs.p2.binEnd, i.arcs.p3.binEnd, i.arcs.p4.binEnd⟩ }

/-! ### Temperature and level 1 (R145, R146) -/

/-- Level 1 holds (R146). -/
def Ice.level1 (i : Ice) : Bool := i.run = Config.runLevel1 || i.weather

/-- The release timer after a change of what level 1 is formed from (R146): it starts where level 1 ceases to hold, and
stands stopped while level 1 holds. -/
def Ice.relevel (before : Bool) (now : Time) (i : Ice) : Ice :=
  if i.level1 then { i with releaseReached := false }
  else if before then { i with releaseStart := now, releaseReached := false }
  else i

/-- A temperature sample taken for level 1 (R145, R146). -/
def Ice.sample (inBand : Bool) (now : Time) (i : Ice) : Ice :=
  let j := ({ i with run := if inBand then min Config.runLevel1 (i.run + 1) else 0 }).relevel i.level1 now
  if inBand && !j.level1 then { j with releaseStart := now, releaseReached := false } else j

/-- The weather flag takes a value (R147). -/
def Ice.setWeather (on : Bool) (now : Time) (i : Ice) : Ice := ({ i with weather := on }).relevel i.level1 now

/-- A valid temperature word (R145). -/
def validTemp (x : Int) : Bool := Config.tempLow ≤ x && x ≤ Config.tempHigh

/-- A word is in band: a valid one in the icing band, or an invalid one (R145). -/
def inBand (x : Int) : Bool := !validTemp x || (Config.icingLow ≤ x && x ≤ Config.icingHigh)

/-- The fault of an entry into INVALID or STALE from STARTING or VALID (R145). -/
def tempFault (before : TempState) (s : State) : State :=
  match before with
  | .starting | .valid => notice .sensor (reportFault .tempSensor none none s)
  | .invalid | .stale => s

/-- A temperature word arrives (R145). -/
def takeTemp (x : Int) (s : State) : State :=
  if validTemp x then
    s.modIce fun i => ({ i with tempState := .valid, temp := some x, tempAt := s.now }).sample (inBand x) s.now
  else
    (tempFault s.ice.tempState (s.modIce fun i => { i with tempState := .invalid, tempAt := s.now })).modIce
      (·.sample true s.now)

/-- 5000 ms without a word (R145). -/
def tempGoesStale (s : State) : State :=
  (tempFault s.ice.tempState (s.modIce fun i => { i with tempState := .stale, subAt := s.now })).modIce
    (·.sample true s.now)

/-- A substitute sample (R145). -/
def substitute (s : State) : State := s.modIce fun i => ({ i with subAt := s.now }).sample true s.now

/-! ### The ice state (R148, R149) -/

/-- The collector of ICE: role COLLECTING in SETTLING or RAISED (R149). -/
def State.iceCollector (s : State) : Option Pan :=
  (pansWhere fun p =>
    ((s.ch p).state = .settling || (s.ch p).state = .raised) && (s.ch p).role = some .collecting).head?

/-- The level-2 count (R149). -/
def State.level2 (s : State) : Nat :=
  match s.iceCollector, s.ldet.detected.lineSys with
  | some p, some _ => (s.ice.arcs.get p).rolling
  | some _, none | none, _ => 0

/-- A change of ice state raises notice ICE, except between ICE_WATCH and ICE_SUSPECT while the SUSPECT response is NONE
(R148). -/
def iceNotice (before after : IceState) (resp : SuspectResponse) (s : State) : State :=
  match before, after with
  | .watch, .suspect | .suspect, .watch => if resp = .nothing then s else notice .ice s
  | _, _ => notice .ice s

/-- A change of ice state (R148). -/
def setIceState (y : IceState) (s : State) : State :=
  if s.ice.state = y then s
  else
    (iceNotice s.ice.state y s.ice.susResp (s.modIce fun i =>
      { i with
        state := y
        clearDwell := none
        noPanReported := if y = .confirmed then false else i.noPanReported
        failedSet := if i.state = .confirmed then .all false else i.failedSet })).setIceEval true

/-- A transition of Table 8-3 whose condition holds (R148): none where none does. -/
def watchIceState (s : State) : Option State :=
  match s.ice.state with
  | .watch => if s.ice.level1 then some (setIceState .suspect s) else none
  | .suspect =>
    if s.cfg.items.arcSet ≤ s.level2 then some (setIceState .confirmed s)
    else if s.ice.releaseReached then some (setIceState .watch s)
    else none
  | .off | .confirmed => none

/-- The clear dwell brought to the level-2 count (R149): none where it needs no change. -/
def watchDwell (s : State) : Option State :=
  match s.ice.state, s.ice.clearDwell with
  | .confirmed, none =>
    if s.level2 ≤ s.cfg.items.arcClear then some (s.modIce fun i => { i with clearDwell := some s.now }) else none
  | .confirmed, some _ =>
    if s.level2 ≤ s.cfg.items.arcClear then none else some (s.modIce fun i => { i with clearDwell := none })
  | .off, _ | .watch, _ | .suspect, _ => none

/-! ### Heaters (R151, R152) -/

/-- The level response includes HEAT (R150). -/
def Ice.heats (i : Ice) : Bool :=
  match i.state with
  | .suspect => i.susResp = .heat
  | .confirmed => i.confResp = .heat || i.confResp = .heatAndScrape
  | .off | .watch => false

/-- A pantograph is the target of a SYSTEM_CHANGE entry that is ARMED or ACTIVE (R151). -/
def State.preheated (s : State) (p : Pan) : Bool :=
  s.map.entries.any fun e => e.state ≠ .pending && e.target = some p

/-- A pantograph has an ice demand (R151). -/
def State.iceDemand (s : State) (p : Pan) : Bool :=
  s.ice.heats && (((s.ch p).state.isRaised && (s.ch p).role.isSome) || s.preheated p)

/-- The heater demand is set and the heater is allowed (R151, R152). -/
def State.heaterWanted (s : State) (p : Pan) : Bool :=
  (s.iceDemand p || (s.ice.heaters.get p).manual) && s.seq.mode ≠ .roofSafe && (s.ch p).state ≠ .isolated

/-- A heater output takes a state. -/
def setHeater (p : Pan) (o : HeaterOut) (s : State) : State :=
  s.modIce fun i => { i with heaters := i.heaters.set p { i.heaters.get p with out := o } }

/-- A heater output brought to its demand between OFF and ON (Table 8-4): none where it needs no change. -/
def watchHeater (p : Pan) (s : State) : Option State :=
  match (s.ice.heaters.get p).out, s.heaterWanted p with
  | .off, true => some (setHeater p (.on s.now) s)
  | .on _, false => some (setHeater p .off s)
  | .off, false | .on _, true | .rest _, _ => none

/-- The on-time reaches its limit: REST with notice ICE (Table 8-4). -/
def heaterRests (p : Pan) (s : State) : State := notice .ice (setHeater p (.rest s.now) s)

/-- The rest ends (Table 8-4). -/
def heaterRestEnds (p : Pan) (s : State) : State :=
  setHeater p (if s.heaterWanted p then .on s.now else .off) s

/-- The heater output line (R152). -/
def State.heaterLine (s : State) (p : Pan) : Bool :=
  match (s.ice.heaters.get p).out with
  | .on _ => true
  | .off | .rest _ => false

/-! ### The scraping pantograph (R154 to R158) -/

/-- Scraping is wanted (R154). -/
def State.scrapeWanted (s : State) : Bool :=
  s.ice.state = .confirmed && s.ice.confResp = .heatAndScrape && s.ice.permit && s.seq.mode = .inService
    && s.ice.block.isNone

/-- The front is inside the exclusion span of a pantograph for an entry (R155). -/
def State.inExclusion (s : State) (p : Pan) (e : Entry) : Bool :=
  let it := s.cfg.items
  let o := s.trv.offsets.get p
  e.sect.panLimit = some 1
    && e.startMm + o ≤ s.trv.front + travelled s.trv.speed it.lowerAllowTime + it.approachMargin * 1000
    && s.trv.front < e.endMm + o + it.clearMargin * 1000

/-- The front is inside an exclusion span of a pantograph (R155). -/
def State.excluded (s : State) (p : Pan) : Bool := s.map.entries.any (s.inExclusion p)

/-- A pantograph of C's class that stands ahead of C and is not in the failed set (R154). -/
def State.couldScrape (s : State) (c p : Pan) : Bool :=
  s.cfg.items.panClass.get p = s.cfg.items.panClass.get c && ahead s.trv.offsets p c && !s.ice.failedSet.get p

/-- The pantograph for which the conditions of R154 start the procedure. -/
def State.startable (s : State) : Option Pan :=
  match s.collectorRaised with
  | some c =>
    if s.scrapeWanted && !s.entryActive && s.cfg.items.scrapeMinSpeed ≤ s.trv.speed && s.raisedPans.length < 2 then
      (frontMost s.trv.offsets (pansWhere fun p => s.couldScrape c p && (s.ch p).state = .lowered)).filter fun p =>
        !s.excluded p
    else none
  | none => none

/-- The roof has no scrape pantograph (R154). -/
def State.noScrapePan (s : State) : Bool :=
  match s.collectorRaised with
  | some c =>
    s.scrapeWanted
      && (pansWhere fun p => s.couldScrape c p && (s.ch p).state ≠ .dropped && (s.ch p).state ≠ .isolated).isEmpty
  | none => false

/-- The report of NO_SCRAPE_PAN at an evaluation (R154): none where it is not due. -/
def watchNoPan (s : State) : Option State :=
  if s.iceEval && s.noScrapePan && !s.ice.noPanReported then
    some (notice .ice (s.modIce fun i => { i with noPanReported := true }))
  else none

/-- The procedure takes a state. -/
def setProc (x : Scrape) (s : State) : State := s.modIce fun i => { i with proc := x }

/-- The pantograph the procedure holds (R154). -/
def Scrape.held : Scrape → Option Pan
  | .idle => none
  | .disconnect p _ | .raise p _ | .on p | .lower p => some p

/-- ICE sends its RAISE request and enters SCRAPE_RAISE (R156). -/
def scrapeRaise (p : Pan) (s : State) : State :=
  match requestRaise p .scrape .ice s with
  | (t, .refused _) | (t, .unavailable) => setProc .idle t
  | (t, .busy) => setProc (.raise p true) t
  | (t, .doneAtOnce) => setProc (.on p) t
  | (t, .joined) | (t, .waiting) | (t, .granted) => setProc (.raise p false) t

/-- ICE sends its DISC_MOVE request and enters SCRAPE_DISCONNECT (R156). -/
def scrapeDisconnect (p : Pan) (s : State) : State :=
  match requestDisc p .disconnected .ice s with
  | (t, .unavailable) => setProc .idle t
  | (t, .busy) => setProc (.disconnect p true) t
  | (t, .taken) => setProc (.disconnect p false) t
  | (t, .done) => scrapeRaise p t

/-- The procedure starts for a pantograph (R156, step 1). -/
def scrapeStart (p : Pan) (s : State) : State :=
  if (s.ch p).disc = .resting .disconnected then scrapeRaise p s else scrapeDisconnect p s

/-- The conditions of R154 evaluated: the procedure starts, or a standing request is sent again (R154, R156). -/
def scrapeEvaluate (s : State) : State :=
  match s.ice.proc with
  | .idle =>
    match s.startable with
    | some p => scrapeStart p s
    | none => s
  | .disconnect p true => if s.startable = some p then scrapeDisconnect p s else setProc .idle s
  | .raise p true => if s.startable = some p then scrapeRaise p s else setProc .idle s
  | .disconnect _ false | .raise _ false | .on _ | .lower _ => s

/-- An evaluation that an event owes (R154): none where none is owed. -/
def watchScrape (s : State) : Option State :=
  if s.iceEval then some (scrapeEvaluate (s.setIceEval false)) else none

/-- ICE stops scraping, by the state of the procedure (R157). -/
def scrapeStop (s : State) : State :=
  match s.ice.proc with
  | .idle | .lower _ => s
  | .disconnect _ _ => setProc .idle s
  | .raise p _ | .on p =>
    match requestLower p .ice s with
    | (t, .busy) | (t, .unavailable) => setProc .idle t
    | (t, .done) | (t, .taken) => setProc (.lower p) t

/-- The conditions under which a scrape of a pantograph goes on (R157). -/
def State.scrapeHolds (s : State) (p : Pan) : Bool :=
  s.ice.state = .confirmed && s.ice.confResp = .heatAndScrape && s.ice.permit && s.collectorRaised.isSome
    && !s.excluded p && s.cfg.items.scrapeMinSpeed ≤ s.trv.speed

/-- The scrape of a pantograph goes on: no evaluation is owed, or its conditions hold (R157; a new offset is taken up at
the next evaluation, R15). -/
def State.scrapeGoesOn (s : State) (p : Pan) : Bool := !s.iceEval || s.scrapeHolds p

/-- The procedure follows its pantograph and stops where R157 stops it: none where it goes on (R156, R157). -/
def watchProc (s : State) : Option State :=
  match s.ice.proc with
  | .idle => none
  | .disconnect p _ | .raise p _ => if s.scrapeGoesOn p then none else some (scrapeStop s)
  | .on p =>
    if !(s.ch p).state.isRaised || (s.ch p).role ≠ some .scrape then some (setProc .idle s)
    else if s.scrapeGoesOn p then none
    else some (scrapeStop s)
  | .lower p => if (s.ch p).state = .lowering then none else some (setProc .idle s)

/-- The operation of ICE that the state of the procedure runs (R156, R157); a standing request is no operation. -/
def Scrape.waitsFor (p : Pan) : Scrape → Op → Bool
  | .disconnect q false, .discMove _ => decide (q = p)
  | .raise q false, .raise _ => decide (q = p)
  | .lower q, .lower => decide (q = p)
  | _, _ => false

/-- An operation of ICE ended (R156): the one that the procedure waits for moves it on where it is DONE, and returns it to
SCRAPE_IDLE elsewhere. So does a DISC_MOVE that a LOWER_TIMEOUT of S ends FAILED, which adds nothing to the failed set
(DESIGN CHOICE, log 37). The LOWER of SCRAPE_LOWER returns it to SCRAPE_IDLE where it is DONE, and where it is ABORTED by
preemption (R156, R158); where it FAILED at the lower limit, S is still in LOWERING, and SCRAPE_LOWER stands (R157). -/
def iceOpEnded (p : Pan) (op : Op) (out : OpOutcome) (s : State) : State :=
  if s.ice.proc.waitsFor p op then
    match op, out with
    | .discMove _, .done => if s.startable = some p then scrapeRaise p s else setProc .idle s
    | .raise _, .done => setProc (.on p) s
    | .lower, .failed _ => s
    | _, _ => setProc .idle s
  else s

/-- A fault of a pantograph as ICE sees it (R158). -/
def iceFault (k : FaultKind) (p : Pan) (s : State) : State :=
  match k with
  | .addTrip =>
    if s.ice.proc.held = some p ∨ (s.ch p).role = some .scrape then
      notice .ice (s.modIce fun i => { i with block := some p, proc := .idle })
    else s
  | .raiseTimeout | .contactLost | .disconnectorFail =>
    if s.ice.proc.held = some p then
      s.modIce fun i => { i with failedSet := i.failedSet.set p true, proc := .idle }
    else s
  | _ => s

/-- A report handled by ICE; each outcome reported to it is an evaluation event (R154). -/
def iceReport (r : Report) (s : State) : State :=
  match r with
  | .opEnded p .ice op out => iceOpEnded p op out (s.setIceEval true)
  | .fault k (some p) => iceFault k p s
  | .opEnded _ _ _ _ | .fault _ none | .lowerTimeout _ _ _ | .breakerFailed | .selectorFailed => s

end Sys2Proof.Machine
end

