-- ==== Sys2Proof/Machine/RouteMap.lean ====
section
/-! DEFINITION. The route map store (Chapter 6): arming, staging, the action point, removals, overruns, and the order and
ids of the entries. Activation hands an entry to SEQ and stands in Sequencer. -/

namespace Sys2Proof.Machine

/-! ### Staging (R106, R107) -/

/-- A pantograph is eligible as the target of a system change to a system (R106). -/
def State.eligible (s : State) (y : LineSys) (p : Pan) : Bool :=
  s.cfg.items.panClass.get p = y.cls && ((s.ch p).state = .lowered || (s.ch p).state.isRaised)

/-- The target that a staging takes (R106). -/
def State.stagedTarget (s : State) (y : LineSys) : Option Pan :=
  firstSome
    [(s.cfg.items.panPreferred.get y).filter fun p => s.eligible y p,
     (s.cfg.items.panAlternate.get y).filter fun p => s.eligible y p]

/-- An entry staged as the roof stands (R106, R107); only a SYSTEM_CHANGE holds a target. -/
def stage (s : State) (e : Entry) : Entry :=
  match e.sect with
  | .systemChange y _ _ => { e with target := s.stagedTarget y, noTarget := (s.stagedTarget y).isNone }
  | .neutral _ | .lowerZone => e

/-- An entry staged again while it is ARMED (R107). -/
def restage (s : State) (e : Entry) : Entry := if e.state = .armed then stage s e else e

/-- The ARMED entries brought to the target that a staging takes now, with notice ENTRY (R107): none where none changes. A
pantograph that passes two states at one event (R45) is staged for once, as the event leaves it (DESIGN CHOICE, log 41). -/
def watchStaging (s : State) : Option State :=
  let entries := s.map.entries.map (restage s)
  if entries = s.map.entries then none else some (notice .entry (s.modMap fun m => { m with entries := entries }))

/-! ### The action point (R108, R109) -/

/-- The first ARMED entry (R109). -/
def State.firstArmed (s : State) : Option Entry := s.map.entries.find? fun e => e.state = .armed

/-- The selector rests at a system position of the class of a system (R108, R121). -/
def State.selectorOfClass (s : State) (y : LineSys) : Bool :=
  match s.systemPosition with
  | some z => z.cls = y.cls
  | none => false

/-- The roof rides through a section with its pantographs raised (R108). -/
def State.ridesThrough (s : State) : Section → Bool
  | .neutral _ => true
  | .systemChange y swap _ => !swap && s.selectorOfClass y
  | .lowerZone => false

/-- o_first of R108: the offset of the front-most pantograph raised, or not ISOLATED where none is raised. -/
def State.firstOffset (s : State) : Nat :=
  let ps := match s.raisedPans with
    | [] => s.usablePans
    | ps => ps
  match frontMost s.trv.offsets ps with
  | some p => s.trv.offsets.get p
  | none => 0

/-- The action point of an entry (R108). -/
def State.actionPoint (s : State) (e : Entry) : Int :=
  let it := s.cfg.items
  let time := if s.ridesThrough e.sect then it.openTime else it.openTime + it.lowerAllowTime
  (e.startMm : Int) + s.firstOffset - travelled s.trv.speed time - it.approachMargin * 1000

/-- The action point of the first ARMED entry, computed anew (R109). -/
def computeAction (s : State) : State :=
  s.modMap fun m => { m with action := s.firstArmed.map fun e => ⟨e.id, s.actionPoint e⟩ }

/-- The action point held is that of the first ARMED entry: it is computed where another entry has become the first, and
dropped where none is ARMED (R109). -/
def refreshAction (s : State) : State :=
  if s.firstArmed.map (·.id) = s.map.action.map (·.id) then s else computeAction s

/-! ### Arming (R104, R105) -/

/-- An entry is within the arm distance of the front (R104). -/
def State.withinArm (s : State) (e : Entry) : Bool := e.startMm ≤ s.trv.front + s.cfg.items.armDistance * 1000

/-- A PENDING entry arms at an evaluation (R104). -/
def State.arms (s : State) (e : Entry) : Bool :=
  e.state = .pending && s.withinArm e && s.trv.direction = .normal && s.seq.mode = .inService

/-- An entry after an evaluation (R104, R106). -/
def armEntry (s : State) (e : Entry) : Entry := if s.arms e then stage s { e with state := .armed } else e

/-- An evaluation for arming of the entries that a test admits (R104, R101). -/
def armWhere (f : Entry → Bool) (s : State) : State :=
  if s.map.entries.any fun e => f e && s.arms e then
    refreshAction (notice .entry (s.modMap fun m =>
      { m with entries := m.entries.map fun e => if f e then armEntry s e else e }))
  else s

/-- An evaluation of every PENDING entry (R104). -/
def armAll (s : State) : State := armWhere (fun _ => true) s

/-- An entry back in PENDING (R105). -/
def disarm (e : Entry) : Entry := { e with state := .pending, target := none, noTarget := false }

/-- The ARMED entries that a test admits return to PENDING (R105). -/
def returnWhere (f : Entry → Bool) (s : State) : State :=
  let g := fun e : Entry => decide (e.state = .armed) && f e
  if s.map.entries.any g then
    refreshAction (notice .entry (s.modMap fun m =>
      { m with entries := m.entries.map fun e => if g e then disarm e else e }))
  else s

/-- Every ARMED entry returns to PENDING (R105). -/
def returnAll (s : State) : State := returnWhere (fun _ => true) s

/-! ### Removal (R103, R112, R115) -/

/-- An entry leaves the map (R103): the last removal is recorded, and where it was the first entry the one behind it has
its action point computed if it is ARMED. The notice is the caller's. -/
def removeEntry (e : Entry) (reason : RemovalReason) (s : State) : State :=
  let t := (s.modMap fun m =>
    { m with
      entries := m.entries.filter fun d => d.id ≠ e.id
      lastRemoval := some ⟨e.id, e.sect, reason, s.now, s.trv.front / 1000⟩ }).setIceEval true
  let wasFirst := s.map.entries.head?.map (·.id) = some e.id
  let nextArmed := t.map.entries.head?.map (·.state) = some .armed
  if wasFirst && nextArmed then computeAction t else refreshAction t

/-- Several entries leave the map in ascending order of index (R103). -/
def removeAll (es : List Entry) (reason : RemovalReason) (s : State) : State :=
  es.foldl (fun t e => removeEntry e reason t) s

/-- A PENDING or ARMED entry is overrun (R112). -/
def State.overrun (s : State) (e : Entry) : Bool :=
  e.state ≠ .active
    && e.endMm + largestOffset s.trv.offsets s.usablePans + s.cfg.items.clearMargin * 1000 ≤ s.trv.front

/-- One overrun entry is removed: notice ENTRY, and for a SYSTEM_CHANGE an open request and fault OVERRUN (R112). -/
def removeOverrun (s : State) (e : Entry) : State :=
  let t := notice .entry (removeEntry e .overrun s)
  match e.sect with
  | .systemChange _ _ _ => reportFault .overrun none (some e.id) (openRequest t)
  | .neutral _ | .lowerZone => t

/-- Every overrun entry is removed, in ascending order of index (R112). -/
def removeOverruns (s : State) : State := (s.map.entries.filter s.overrun).foldl removeOverrun s

/-- The map is emptied: every entry removed as CANCELLED, with notice MAP on all three links (R115). -/
def clearMap (s : State) : State := notice .map (removeAll s.map.entries .cancelled s)

/-! ### Movement and fixes (R8, R104, R112 to R114) -/

/-- MAP at an accepted pulse: the consequences of a change of the direction state (R8, R105), the overruns (R112), then arming
(R104); the test for activation follows in the reactions (R110). No rule orders these three at a pulse, as R113 does at a fix:
the order is the model's (DESIGN CHOICE, log 40). -/
def mapPulse (before : Direction) (s : State) : State :=
  let t := match before, s.trv.direction with
    | .normal, .reversing => returnAll (notice .map s)
    | .reversing, .normal => notice .map s
    | .normal, .normal | .reversing, .reversing => s
  armAll (removeOverruns t)

/-- MAP at a fix, the front already set: the overruns of a forward fix (R113; a backward fix removes no entry, R114), the
return of every ARMED entry that the fix leaves beyond the arm distance (R105, R114), then arming (R104). -/
def mapFix (forward : Bool) (s : State) : State :=
  armAll (returnWhere (fun e => !s.withinArm e) (if forward then removeOverruns s else s))

/-! ### Insertion (R98 to R101) -/

/-- The id after another (R99). -/
def nextId (i : Nat) : Nat := if i = Config.idMax then 1 else i + 1

/-- The first id from a value on that no entry holds, within a number of tries (R99). -/
def freeId : Nat → List Nat → Nat → Nat
  | 0, _, i => i
  | k + 1, used, i => if i ∈ used then freeId k used (nextId i) else i

/-- Two spans overlap: each begins before the other ends (R98). -/
def overlaps (start length start' length' : Nat) : Bool := start < start' + length' && start' < start + length

/-- An entry placed in ascending order of start (R98). -/
def placeEntry (e : Entry) : List Entry → List Entry
  | [] => [e]
  | d :: rest => if e.start < d.start then e :: d :: rest else d :: placeEntry e rest

/-- The id that the next insertion receives (R99). -/
def State.offeredId (s : State) : Nat := freeId (Config.mapCapacity + 1) (s.map.entries.map (·.id)) s.map.nextId

/-- A taken insertion (R101): the entry, the id counter, notice MAP on the other links, and the evaluation for arming. -/
def insertEntry (l : Link) (sect : Section) (start length : Nat) (s : State) : State :=
  let i := s.offeredId
  let e : Entry :=
    { id := i, sect := sect, start := start, length := length, source := l, state := .pending, target := none,
      late := false, noTarget := false }
  let t := noticeOthers l .map (s.modMap fun m => { m with entries := placeEntry e m.entries, nextId := nextId i })
  (armWhere (fun d => d.id = i) t).setIceEval true

/-- The refusals of MAP_INSERT after the mode and operand checks, in their order (R100). -/
def State.insertRefusal (s : State) (start length : Nat) : Option Status :=
  if s.map.entries.length = Config.mapCapacity then some .mapFull
  else if start * 1000 < s.trv.front then some .mapBehind
  else if s.map.entries.any fun e => e.state = .active && start < e.start then some .entryLocked
  else if s.map.entries.any fun e => overlaps start length e.start e.length then some .mapOverlap
  else none

end Sys2Proof.Machine
end

