-- ==== Sys2Proof/Machine/AuthorityOps.lean ====
section
/-! DEFINITION. The roof authority unit (Chapter 9): requests, releases, supervision, the deferrals and the change of
holder. The execution of a parked command stands in React. -/

namespace Sys2Proof.Machine

/-- The cab end a link's grant makes leading (R168); a grant to Link M changes no end (R167). -/
def endOf : Link → Option End
  | .a => some .endA
  | .b => some .endB
  | .m => none

/-- A grant to a link changes the leading end (R167). -/
def State.endChanges (s : State) (l : Link) : Bool :=
  match endOf l with
  | some e => e ≠ s.auth.leading
  | none => false

/-- A change of holder to a link or to none is deferred (R167). -/
def State.deferred (s : State) (new : Option Link) : Bool :=
  s.entryActive ||
    match new with
    | some l => s.endChanges l && !s.standstill
    | none => false

/-- A change of holder is owed or a grant from none is pending (R166). -/
def Authority.changePends (a : Authority) : Bool := a.owed.isSome || (a.holder.isNone && a.requester.isSome)

/-- A change of holder is to be made now (R166, R167). -/
def State.changeDue (s : State) : Bool := s.auth.changePends && !s.deferred s.auth.requester

/-- An update of the record with notice AUTH (R161). -/
def changeAuth (f : Authority → Authority) (s : State) : State := notice .auth (s.modAuth f)

/-- The supervision timer restarts at a frame received on the holder's link while change owed is clear (R164). -/
def superviseFrame (l : Link) (s : State) : State :=
  if s.auth.holder = some l ∧ s.auth.owed = none then
    s.modAuth fun a => { a with supervision := some ⟨s.now, s.cfg.items.authSupervision⟩ }
  else s

/-- A change of holder is owed (R163 to R165). -/
def oweChange (cause : OwedCause) (s : State) : State :=
  changeAuth (fun a => { a with owed := some cause, supervision := none }) s

/-- The leading-end change of a grant to a link (R168): nothing where the grant changes no end. -/
def leadingEndChange (l : Link) (s : State) : State :=
  match endOf l with
  | some e =>
    if e = s.auth.leading then s
    else
      (scrapeStop (clearMap (travelLeadingEnd (s.modAuth fun a => { a with leading := e })))).setIceEval true
  | none => s

/-- The record at a change of holder (R166, steps 1 to 3). The parked command stays for step 5. -/
def Authority.change (cause : ChangeCause) (now : Time) (limit : Nat) (a : Authority) : Authority :=
  { a with
    holder := a.requester
    requester := none
    owed := none
    supervision := a.requester.map fun _ => ⟨now, limit⟩
    lastChange := some ⟨now, cause, a.holder, a.requester⟩ }

/-- The cause of a change made by R166. -/
def Authority.changeCause (a : Authority) : ChangeCause :=
  match a.holder, a.owed with
  | some _, some c => .owed c
  | some _, none | none, _ => .grantFree

/-- A change of holder, up to the execution of a parked command (R166, steps 1 to 4). -/
def makeChange (cause : ChangeCause) (s : State) : State :=
  let t := changeAuth (·.change cause s.now s.cfg.items.authSupervision) s
  match s.auth.requester with
  | some l => leadingEndChange l t
  | none => t

/-- A pending request is withdrawn, its parked command discarded (R163, R165); an owed change is then a change to none,
made at once unless an entry is ACTIVE (R167). -/
def withdraw (l : Link) (s : State) : State :=
  let t := changeAuth (fun a =>
    { a with
      requester := none
      parked := none
      parkedResult := match a.parked with
        | some p => some ⟨l, p.cmd.code, p.tag, .discarded⟩
        | none => a.parkedResult }) s
  if t.auth.owed.isSome && !t.deferred none then makeChange .withdrawal t else t

/-- AUTH_REQUEST from a link (R162). -/
def authRequest (l : Link) (s : State) : State × Status :=
  let a := s.auth
  if a.holder = some l then (s, .ok)
  else if a.requester = some l then (s, .pending)
  else if a.requester.isSome then (s, .authBusy)
  else
    let t := changeAuth (fun a => { a with requester := some l }) s
    if a.holder = none ∧ !s.deferred (some l) then (makeChange .grantFree t, .ok) else (t, .pending)

/-- AUTH_RELEASE from a link (R163). -/
def authRelease (l : Link) (s : State) : State × Status :=
  let a := s.auth
  if a.holder = some l then
    if a.owed = none then (oweChange .release s, .ok) else (s, .ok)
  else if a.requester = some l then (withdraw l s, .ok)
  else (s, .authNotHeld)

/-- A link reset on the authority record (R165). -/
def authLinkReset (l : Link) (s : State) : State :=
  let a := s.auth
  if a.requester = some l then withdraw l s
  else if a.holder = some l ∧ a.owed = none then oweChange .linkReset s
  else s

/-- A command of the authority class from the pending requester is parked (R169). -/
def park (cmd : Cmd) (tag : Byte) (s : State) : State × Status :=
  match s.auth.parked with
  | none => (s.modAuth fun a => { a with parked := some ⟨cmd, tag⟩ }, .queued)
  | some _ => (s, .authNotHeld)

/-- A link may issue a shared-class command that the holder and Link M may (R171). -/
def State.holderOrM (s : State) (l : Link) : Bool := l = .m || s.auth.holder = some l

end Sys2Proof.Machine
end

