-- ==== Sys2Proof/Machine/RoofCommands.lean ====
section
/-! DEFINITION. The ten commands of the authority class (R171) by their own rules, after the class check: as the holder
sends them, and as a parked one is executed (R170). Each answers a status; none has result bytes. -/

namespace Sys2Proof.Machine

/-- The roof-mode and entry checks shared by commands that act on the roof in service: NOT_CONFIGURED, ROOF_SAFE,
ENTRY_LOCKED, in that order (R59, R89, R92). -/
def State.serviceRefusal (s : State) : Option Status :=
  if s.seq.mode = .configPending then some .notConfigured
  else if s.seq.mode = .roofSafe then some .roofSafe
  else if s.entryActive then some .entryLocked
  else none

/-- The checks of commands that CONFIG_PENDING admits: ROOF_SAFE, ENTRY_LOCKED (R53, R60, R89). -/
def State.roofRefusal (s : State) : Option Status :=
  if s.seq.mode = .roofSafe then some .roofSafe else if s.entryActive then some .entryLocked else none

/-- SET_FORMATION (R15). -/
def cmdSetFormation (fA fB : Nat) (s : State) : State × Status :=
  if s.entryActive then (s, .entryLocked)
  else if Config.formationMax < fA ∨ Config.formationMax < fB then (s, .badOperand)
  else (recomputeOffsets (s.modTrv fun t => { t with fA := fA, fB := fB }), .ok)

/-- The status of a raise request's answer (R59). -/
def RaiseAnswer.status : RaiseAnswer → Status
  | .busy => .panBusy
  | .unavailable => .panUnavailable
  | .doneAtOnce => .ok
  | .joined | .waiting | .granted => .accepted
  | .refused st => st

/-- RAISE (R59). -/
def cmdRaise (l : Link) (pan role : Nat) (s : State) : State × Status :=
  match s.serviceRefusal with
  | some st => (s, st)
  | none =>
    match Pan.ofNum pan, dutyOf role with
    | some p, some d => ((requestRaise p d (.authority l) s).1, (requestRaise p d (.authority l) s).2.status)
    | some _, none | none, _ => (s, .badOperand)

/-- The status of a lower request's answer (R60). -/
def LowerAnswer.status : LowerAnswer → Status
  | .busy => .panBusy
  | .unavailable => .panUnavailable
  | .done => .ok
  | .taken => .accepted

/-- LOWER (R60). -/
def cmdLower (l : Link) (pan : Nat) (s : State) : State × Status :=
  match s.roofRefusal with
  | some st => (s, st)
  | none =>
    match Pan.ofNum pan with
    | some p => ((requestLower p (.authority l) s).1, (requestLower p (.authority l) s).2.status)
    | none => (s, .badOperand)

/-- The status of a disconnector request's answer (R53). -/
def DiscAnswer.status : DiscAnswer → Status
  | .busy => .panBusy
  | .unavailable => .panUnavailable
  | .done => .ok
  | .taken => .accepted

/-- DISC_SET (R53). -/
def cmdDiscSet (l : Link) (pan pos : Nat) (s : State) : State × Status :=
  match s.roofRefusal with
  | some st => (s, st)
  | none =>
    match Pan.ofNum pan, discPosOf pos with
    | some p, some q => ((requestDisc p q (.authority l) s).1, (requestDisc p q (.authority l) s).2.status)
    | some _, none | none, _ => (s, .badOperand)

/-- ADD_RESET (R50). -/
def cmdAddReset (pan : Nat) (s : State) : State × Status :=
  if s.seq.mode = .roofSafe then (s, .roofSafe)
  else
    match Pan.ofNum pan with
    | none => (s, .badOperand)
    | some p =>
      if (s.ch p).state ≠ .dropped then (s, .panUnavailable)
      else if !s.lines.lowered.get p then (s, .notQuiescent)
      else (resetDropped p s, .ok)

/-- BREAKER_CLOSE (R89). -/
def cmdBreakerClose (l : Link) (s : State) : State × Status :=
  match s.serviceRefusal with
  | some st => (s, st)
  | none =>
    match closeRequest s with
    | none => (s, .interlock)
    | some t =>
      if s.bsc.breaker = .closed then (setTraction t, .ok) else (startLong l .breakerClose (setTraction t), .accepted)

/-- BREAKER_OPEN (R89). -/
def cmdBreakerOpen (l : Link) (s : State) : State × Status :=
  match s.roofRefusal with
  | some st => (s, st)
  | none =>
    match s.bsc.breaker with
    | .opened | .failed => (openRequest (clearTraction s), .ok)
    | .closing | .closed | .opening => (openRequest (startLong l .breakerOpen (clearTraction s)), .accepted)

/-- SELECT (R92). -/
def cmdSelect (l : Link) (pos : Nat) (s : State) : State × Status :=
  match s.serviceRefusal with
  | some st => (s, st)
  | none =>
    match selPosOf pos with
    | none => (s, .badOperand)
    | some q =>
      match requestMove q (.authority l) s with
      | (t, .refused) => (t, .interlock)
      | (t, .atPosition) => (t, .ok)
      | (t, .started) => (startLong l .select t, .accepted)

/-- ICE_MODE, taken (R150). -/
def takeIceMode (enable : Bool) (u : SuspectResponse) (c : ConfirmedResponse) (permit : Bool) (s : State) : State :=
  let t := (s.modIce fun i =>
    { i with susResp := u, confResp := c, permit := permit, failedSet := .all false }).setIceEval true
  match enable, t.ice.state with
  | true, .off => setIceState .watch t
  | true, .watch | true, .suspect | true, .confirmed => t
  | false, _ => setIceState .off t

/-- ICE_MODE (R150). -/
def cmdIceMode (enable suspect confirmed permit : Nat) (s : State) : State × Status :=
  if s.seq.mode = .configPending then (s, .notConfigured)
  else if s.seq.mode = .roofSafe then (s, .roofSafe)
  else
    match pairOf enable, suspectOf suspect, confirmedOf confirmed, pairOf permit with
    | some e, some u, some c, some w => (takeIceMode e u c w s, .ok)
    | _, _, _, _ => (s, .badOperand)

/-- HEAT (R153). -/
def cmdHeat (pan op : Nat) (s : State) : State × Status :=
  if s.seq.mode = .roofSafe then (s, .roofSafe)
  else
    match Pan.ofNum pan, pairOf op with
    | some p, some on =>
      if on ∧ (s.ch p).state = .isolated then (s, .panUnavailable)
      else (s.modIce fun i => { i with heaters := i.heaters.set p { i.heaters.get p with manual := on } }, .ok)
    | some _, none | none, _ => (s, .badOperand)

/-- The commands of the authority class (R171, Table 9-3). -/
def isAuthority : Cmd → Bool
  | .setFormation _ _ | .raise _ _ | .lower _ | .discSet _ _ | .addReset _ | .breakerClose | .breakerOpen | .select _
  | .iceMode _ _ _ _ | .heat _ _ => true
  | _ => false

/-- A command of the authority class by its own rule, as from the holder on a link (R170, R171). -/
def runAuthority (l : Link) (c : Cmd) (s : State) : State × Status :=
  match c with
  | .setFormation fA fB => cmdSetFormation fA fB s
  | .raise p r => cmdRaise l p r s
  | .lower p => cmdLower l p s
  | .discSet p q => cmdDiscSet l p q s
  | .addReset p => cmdAddReset p s
  | .breakerClose => cmdBreakerClose l s
  | .breakerOpen => cmdBreakerOpen l s
  | .select q => cmdSelect l q s
  | .iceMode e u k t => cmdIceMode e u k t s
  | .heat p o => cmdHeat p o s
  | _ => (s, .badOperand)

end Sys2Proof.Machine
end

