-- ==== Sys2Proof/Machine/Sequencer.lean ====
section
/-! DEFINITION. The changeover sequencer and the roof mode (Chapter 7): activation, the stages, failure and recovery, the
ends of a sequence, and entry into ROOF_SAFE. -/

namespace Sys2Proof.Machine

/-! ### The context -/

/-- An update of the context, where there is one. -/
def modCtx (f : SeqCtx → SeqCtx) (s : State) : State := s.modSeq fun q => { q with ctx := q.ctx.map f }

/-- The form lowers every pantograph and raises one again (Table 7-3). -/
def Form.reraises : Form → Bool
  | .lowering | .lowerZone => true
  | .neutral | .rideThrough => false

/-- The stage list of a form (Table 7-3). -/
def Form.stages : Form → List Stage
  | .neutral => [.opening, .lowering, .clearing, .confirming, .closing]
  | .rideThrough => [.opening, .lowering, .selecting, .clearing, .confirming, .closing]
  | .lowering => [.opening, .lowering, .selecting, .clearing, .raising, .confirming, .closing]
  | .lowerZone => [.opening, .lowering, .clearing, .raising, .confirming, .closing]

/-- The stages after one stage of a form. -/
def stagesAfter (st : Stage) : List Stage → List Stage
  | [] => []
  | t :: rest => if t = st then rest else stagesAfter st rest

/-- The form chosen at activation (R121). -/
def State.formOf (s : State) : Section → Form
  | .neutral _ => .neutral
  | .systemChange y swap _ => if !swap && s.selectorOfClass y then .rideThrough else .lowering
  | .lowerZone => .lowerZone

/-- The collecting pantograph of the sequence (R131): in the forms that raise one again, the candidate from its grant, or
from the raise that SEQ joined (R57; log 32). -/
def SeqCtx.collecting (c : SeqCtx) : Option Pan :=
  if c.form.reraises then c.candidate.filter fun p => c.raised.get p || c.joined else c.collector

/-- A pantograph in RAISING, SETTLING, RAISED or LOWERING (R124). -/
def State.up (s : State) (p : Pan) : Bool := (s.ch p).state.isRaised || (s.ch p).state = .lowering

/-- A pantograph raised with role SCRAPE (R124). -/
def State.scrapeRaised (s : State) (p : Pan) : Bool := (s.ch p).state.isRaised && (s.ch p).role = some .scrape

/-! ### The end of a sequence (R130, R133, R134, R141) -/

/-- The last-sequence record of a context released with a result (R141). -/
def SeqCtx.toLast (c : SeqCtx) (result : SeqResult) (now : Time) : LastSeq :=
  let base : LastSeq :=
    { id := c.entry.id, sect := c.entry.sect, form := c.form, result := result, reason := none, stage := none, pan := none,
      retryUsed := c.retryUsed, time := now }
  match c.failure, result with
  | some f, _ => { base with reason := some f.reason, stage := some f.stage, pan := f.pan }
  | none, .cancelled _ => { base with stage := some c.stage }
  | none, .done => base
  | none, .lineAbsent => base
  | none, .failed => base

/-- The context is released: the entry leaves the map with a reason and notice ENTRY, and the result is kept (R103, R120,
R141). -/
def endSequence (reason : RemovalReason) (result : SeqResult) (s : State) : State :=
  match s.seq.ctx with
  | some c =>
    (notice .entry (removeEntry c.entry reason s)).modSeq fun q =>
      { q with ctx := none, last := some (c.toLast result s.now) }
  | none => s

/-- A context present is cancelled (R134, R138, R140). -/
def cancelSequence (cause : CancelCause) (s : State) : State := endSequence .cancelled (.cancelled cause) s

/-- The sequence ends LINE_ABSENT (R129). -/
def lineAbsent (s : State) : State :=
  endSequence .done .lineAbsent (if s.bsc.traction then s.modBsc fun q => { q with reclose := true } else s)

/-! ### Failure and retry (R128, R132) -/

/-- The fault SYSTEM_MISMATCH of a failure with that reason (R132, step 2). -/
def reportMismatch (r : Reason) (entry : Nat) (s : State) : State :=
  if r = .fault .systemMismatch then notice .mismatch (reportFault .systemMismatch none (some entry) s) else s

/-- A raise that SEQ owns waits on a pantograph (R55, R132). -/
def State.seqRaiseWaits (s : State) (p : Pan) : Bool :=
  (s.ch p).raiseWaiting &&
    match (s.ch p).job with
    | some ⟨.sequencer, .raise _⟩ => true
    | some _ | none => false

/-- Step 6 of R132 on one pantograph. A waiting raise has not been granted; it is SEQ's own where SEQ owns it. -/
def lowerSeqRaised (raised : PerPan Bool) (p : Pan) (s : State) : State :=
  if (raised.get p && (s.ch p).state.isRaised) || s.seqRaiseWaits p then (requestLower p .sequencer s).1 else s

/-- A stage failure (R132). -/
def failStage (r : Reason) (pan : Option Pan) (s : State) : State :=
  match s.seq.ctx with
  | some c =>
    let t := modCtx (fun c =>
      { c with failure := some ⟨r, c.stage, pan⟩, stage := .recovering, stageStart := s.clk.total, step := .start }) s
    let u := notice .entry (reportFault .seqFailed pan (some c.entry.id) (reportMismatch r c.entry.id t))
    forPans (lowerSeqRaised c.raised) (openRequest u)
  | none => s

/-- A pantograph can be the retry pantograph for a system (R128). -/
def State.canRetry (s : State) (y : LineSys) (p : Pan) : Bool :=
  s.cfg.items.panClass.get p = y.cls
    && ((s.ch p).state = .lowered || (s.ch p).state = .lowering || s.scrapeRaised p)

/-- The retry pantograph after a failure (R128). -/
def State.retryPan (s : State) (expected : Option LineSys) (failed : Pan) : Option Pan :=
  match expected with
  | none => none
  | some y =>
    let pref := s.cfg.items.panPreferred.get y
    let alt := s.cfg.items.panAlternate.get y
    let ok := fun p : Pan => decide (p ≠ failed) && s.canRetry y p
    if pref = some failed then alt.filter ok
    else if alt = some failed then pref.filter ok
    else firstSome [pref.filter ok, alt.filter ok]

/-- The clearing offset set at the start of CLEARING (R126). -/
def State.clearingOffset (s : State) (c : SeqCtx) : Nat :=
  let up := pansWhere fun p => (c.raisedAt.get p).isSome
  match c.candidate, c.roofLive, up with
  | some p, true, _ => s.trv.offsets.get p
  | some _, false, [] | none, _, [] => largestOffset s.trv.offsets s.usablePans
  | some _, false, q :: ps | none, _, q :: ps => largestOffset s.trv.offsets (q :: ps)

/-- A stage is entered: notice ENTRY, and the stage start (R122). -/
def markStage (st : Stage) (s : State) : State :=
  notice .entry (modCtx (fun c => { c with stage := st, stageStart := s.clk.total, step := .start }) s)

/-- The progress within a stage. -/
def setStep (x : StageStep) (s : State) : State := modCtx (fun c => { c with step := x }) s

/-- CLEARING starts (R126). -/
def enterClearing (s : State) : State :=
  modCtx (fun c => { c with clearing := s.clearingOffset c }) (markStage .clearing s)

/-- A failure of the candidate: the retry of R128 where it is available, and the failure of the stage elsewhere. -/
def candidateFails (r : Reason) (p : Pan) (s : State) : State :=
  match s.seq.ctx with
  | some c =>
    match c.retryUsed, s.retryPan c.expected p with
    | false, some q =>
      let t := match (s.ch p).job with
        | some ⟨.sequencer, _⟩ => endJob p .aborted s
        | some _ | none => s
      enterClearing (modCtx (fun c => { c with retryUsed := true, candidate := some q, joined := false }) t)
    | false, none | true, _ => failStage r (some p) s
  | none => s

/-! ### The stages (R123 to R130) -/

/-- Step 3 of RAISING: the RAISE request (R127). -/
def seqLift (p : Pan) (s : State) : State :=
  match requestRaise p .collecting .sequencer s with
  | (t, .refused st) => candidateFails (.status st) p t
  | (t, .unavailable) => candidateFails (.status .panUnavailable) p t
  | (t, .busy) => candidateFails (.status .panBusy) p t
  | (t, .doneAtOnce) | (t, .joined) => modCtx (fun c => { c with step := .lift, joined := true }) t
  | (t, .waiting) | (t, .granted) => setStep .lift t

/-- Step 2 of RAISING: the disconnector (R127). -/
def seqConnect (p : Pan) (s : State) : State :=
  match (s.ch p).disc with
  | .resting .connected | .moving _ => seqLift p s
  | .resting .disconnected | .failed =>
    match requestDisc p .connected .sequencer s with
    | (t, .taken) => setStep .connect t
    | (t, .done) => seqLift p t
    | (t, .unavailable) => candidateFails (.status .panUnavailable) p t
    | (t, .busy) => candidateFails (.status .panBusy) p t

/-- RAISING starts (R127). -/
def seqRaise (s : State) : State :=
  match s.seq.ctx with
  | some c =>
    match c.candidate with
    | some p => if s.scrapeRaised p then setStep .lowerFirst (requestLower p .sequencer s).1 else seqConnect p s
    | none => failStage .noTarget none s
  | none => s

/-- SEQ asks for the move of SELECTING by the state of the selector (R125). -/
def seqSelect (s : State) : State :=
  match s.seq.ctx with
  | some c =>
    match s.bsc.selector, c.expected with
    | .moving _ _, _ => setStep .awaitMove s
    | .rest _, some y | .failed _, some y =>
      match requestMove (.sys y) .sequencer s with
      | (t, .refused) => failStage (.status .interlock) none t
      | (t, .started) => setStep .ownMove t
      | (t, .atPosition) => t
    | .rest _, none | .failed _, none => s
  | none => s

/-- A LOWER request of SEQ on one pantograph of a set (R124). -/
def seqLower (f : Pan → Bool) (p : Pan) (s : State) : State :=
  if f p then (requestLower p .sequencer s).1 else s

/-- LOWERING starts (R124). -/
def seqLowering (s : State) : State :=
  match s.seq.ctx with
  | some c =>
    if c.form.reraises then forPans (seqLower s.up) s
    else
      let set : PerPan Bool := ⟨s.scrapeRaised .p1, s.scrapeRaised .p2, s.scrapeRaised .p3, s.scrapeRaised .p4⟩
      forPans (seqLower set.get) (modCtx (fun c => { c with scrapers := set }) s)
  | none => s

/-- CLOSING starts (R130). -/
def seqClose (s : State) : State :=
  match closeRequest s with
  | some t => t
  | none => failStage (.status .interlock) none s

/-- A stage starts (R122 to R130). -/
def enterStage (st : Stage) (s : State) : State :=
  match st with
  | .opening => openRequest (markStage .opening s)
  | .lowering => seqLowering (markStage .lowering s)
  | .selecting => seqSelect (markStage .selecting s)
  | .clearing => enterClearing s
  | .raising => seqRaise (markStage .raising s)
  | .confirming => modCtx (fun c => { c with confirmLen := s.cfg.items.confirmLimit }) (markStage .confirming s)
  | .closing => seqClose (modCtx (fun c => { c with closeFailed := false }) (markStage .closing s))
  | .recovering => s

/-- A stage's condition of performance (R122 to R130). -/
def State.performed (s : State) (c : SeqCtx) : Stage → Bool
  | .opening | .clearing | .recovering => true
  | .lowering => c.form.reraises || (c.entry.sect.panLimit = some 1 && Pan.all.any s.scrapeRaised)
  | .selecting => s.systemPosition ≠ c.expected
  | .raising | .confirming => c.roofLive
  | .closing => c.traction && c.roofLive

/-- The first stage of a list that is performed starts; where none is, the sequence ends DONE (R122, R130). -/
def enterFrom : List Stage → State → State
  | [], s => endSequence .done .done s
  | st :: rest, s =>
    match s.seq.ctx with
    | some c => if s.performed c st then enterStage st s else enterFrom rest s
    | none => s

/-- The present stage ends and the next starts (R122). -/
def nextStage (c : SeqCtx) (s : State) : State := enterFrom (stagesAfter c.stage c.form.stages) s

/-- The front at which CLEARING ends (R126). -/
def State.clearingThreshold (s : State) (c : SeqCtx) : Nat :=
  c.entry.endMm + c.clearing + s.cfg.items.clearMargin * 1000

/-- The recovery of a failed sequence is complete (R133). -/
def State.recovered (s : State) (c : SeqCtx) : Bool :=
  s.bsc.breaker = .opened
    && Pan.all.all fun p => !c.raised.get p
        || (s.ch p).state = .lowered || (s.ch p).state = .dropped || (s.ch p).state = .isolated

/-- The present stage acts on the roof as it stands: it ends, takes its next step or fails. None where it goes on (R123 to
R130, R133). -/
def watchStage (s : State) : Option State :=
  match s.seq.ctx with
  | none => none
  | some c =>
    match c.stage with
    | .opening => if s.bsc.breaker = .opened then some (nextStage c s) else none
    | .lowering =>
      if c.form.reraises then if Pan.all.any s.up then none else some (nextStage c s)
      else if Pan.all.any fun p => c.scrapers.get p && s.up p then none else some (nextStage c s)
    | .selecting =>
      if c.expected.isSome ∧ s.systemPosition = c.expected then some (nextStage c s)
      else
        match c.step, s.bsc.selector with
        | .awaitMove, .rest _ | .awaitMove, .failed _ => some (seqSelect s)
        | _, _ => none
    | .clearing => if s.clearingThreshold c ≤ s.trv.front then some (nextStage c s) else none
    | .raising =>
      match c.candidate, c.step with
      | some p, .lowerFirst => if (s.ch p).state = .lowered then some (seqConnect p (setStep .start s)) else none
      | some p, .connect =>
        if (s.ch p).disc = .resting .connected then some (seqLift p (setStep .start s)) else none
      | some p, .lift => if (s.ch p).state = .raised then some (nextStage c s) else none
      | _, _ => none
    | .confirming =>
      if c.expected.isSome ∧ s.ldet.detected.lineSys = c.expected then some (nextStage c s) else none
    | .closing =>
      match s.bsc.breaker with
      | .closed => some (nextStage c s)
      | .opened =>
        some (failStage (if c.closeFailed then .fault .breakerFailClose else .status .interlock) none s)
      | .closing | .opening | .failed => none
    | .recovering => if s.recovered c then some (endSequence .failed .failed s) else none

/-- The stages that end one after another as the roof stands, at most a number of them (R122). -/
def runStages : Nat → State → State
  | 0, s => s
  | n + 1, s =>
    match watchStage s with
    | some t => runStages n t
    | none => s

/-- A bound on the stages that pass at one event, which no form comes near: twice its seven stages and their steps, the retry
included. -/
def stageBound : Nat := 32

/-- MAP has brought a new front to the map. Where it has removed an overrun entry, and the same front ends CLEARING and with it the
sequence, the ACTIVE entry leaves the map at this event too. It is the first entry, so that in ascending order of index its removal
comes before the overruns, and the last removal is theirs (R103, R112, R126). `before` is the state in which the new front meets
the map. Any other end of a stage follows in the reactions. -/
def endPassed (before s : State) : State :=
  match before.seq.ctx with
  | some c =>
    if c.stage = .clearing ∧ before.clearingThreshold c ≤ before.trv.front
        ∧ s.map.entries.length < before.map.entries.length then
      let t := runStages stageBound s
      if t.seq.ctx.isNone then t.modMap fun m => { m with lastRemoval := s.map.lastRemoval } else s
    else s
  | none => s

/-- T_confirm has elapsed in CONFIRMING without the expected system (R129). -/
def confirmExpires (s : State) : State :=
  match s.ldet.detected with
  | .raw (.sys _) | .raw .unclassified => failStage (.fault .systemMismatch) none s
  | .raw .dead | .unknown => lineAbsent s

/-! ### Activation (R110, R111, R121) -/

/-- LATE at activation (R111). -/
def State.isLate (s : State) (e : Entry) : Bool :=
  match frontMost s.trv.offsets s.raisedPans with
  | some p => e.startMm + s.trv.offsets.get p ≤ s.trv.front
  | none => false

/-- The role a pantograph is raised in at activation (Table 7-2). -/
def State.raisedRole (s : State) (p : Pan) : Option Duty := if (s.ch p).state.isRaised then (s.ch p).role else none

/-- The context created at activation from the entry and the roof (R121, Table 7-2). -/
def State.newCtx (s : State) (e : Entry) : SeqCtx :=
  let form := s.formOf e.sect
  { entry := e
    form := form
    stage := .opening
    stageStart := s.clk.total
    step := .start
    expected := match e.sect with
      | .systemChange y _ _ => some y
      | .neutral _ | .lowerZone => s.systemPosition
    roofLive := s.collectorRaised.isSome
    traction := s.bsc.traction
    raisedAt := ⟨s.raisedRole .p1, s.raisedRole .p2, s.raisedRole .p3, s.raisedRole .p4⟩
    collector := s.collectorRaised
    candidate := match form with
      | .lowering => e.target
      | .lowerZone => s.collectorRaised
      | .neutral | .rideThrough => none
    retryUsed := false
    raised := .all false
    joined := false
    scrapers := .all false
    clearing := 0
    confirmLen := 0
    closeFailed := false
    failure := none }

/-- The first entry of the map becomes ACTIVE, and SEQ starts its sequence (R110, R111, R121). -/
def activate (e : Entry) (s : State) : State :=
  let a := { e with state := .active, late := s.isLate e }
  let t := refreshAction (notice .entry (s.modMap fun m =>
    { m with entries := m.entries.map fun d => if d.id = e.id then a else d }))
  let u := (t.modSeq fun q => { q with ctx := some (t.newCtx a) }).setIceEval true
  enterFrom (t.formOf a.sect).stages u

/-- The test for activation (R110): none where no entry becomes ACTIVE. -/
def watchActivation (s : State) : Option State :=
  match s.map.entries, s.map.action with
  | e :: _, some a =>
    if e.state = .armed && !s.entryActive && a.id = e.id && a.point ≤ (s.trv.front : Int) then some (activate e s) else none
  | [], _ | _ :: _, none => none

/-! ### ROOF_SAFE (R137, R138) -/

/-- ICE at ROOF_SAFE entry: every heater in ON off, every manual demand cleared, and the procedure idle (R138, R160). -/
def iceRoofSafe (s : State) : State :=
  s.modIce fun i =>
    { i with
      heaters := ⟨i.heaters.p1.cease, i.heaters.p2.cease, i.heaters.p3.cease, i.heaters.p4.cease⟩
      proc := .idle }

/-- Entry into ROOF_SAFE (R137, R138); in ROOF_SAFE nothing is entered again. -/
def roofSafe (s : State) : State :=
  if s.seq.mode = .roofSafe then s
  else
    let t := reportFault .roofSafeEntry none (s.activeEntry.map (·.id)) s
    let u := notice .roofSafe (t.modSeq fun q => { q with mode := .roofSafe })
    let v := forPans protectiveLower (clearTraction (openRequest u))
    (returnAll (cancelSequence .roofSafe (iceRoofSafe v))).setIceEval true

/-! ### Reports of PCH and BSC to SEQ (R122, R127, R131, R133, R137) -/

/-- An operation of SEQ that ended FAILED in RAISING is a failure of the candidate (R127). A lower limit fails the stage by
R131, on its own report. -/
def seqOpEnded (p : Pan) (op : Op) (out : OpOutcome) (s : State) : State :=
  match s.seq.ctx, op, out with
  | some c, .raise _, .failed r | some c, .discMove _, .failed r =>
    if c.stage = .raising ∧ c.candidate = some p ∧ r ≠ .fault .lowerTimeout then candidateFails r p s else s
  | _, _, _ => s

/-- An ADD_TRIP or a CONTACT_LOST seen by SEQ (R128, R131, R133). -/
def seqPanFault (k : FaultKind) (p : Pan) (s : State) : State :=
  match s.seq.ctx with
  | some c =>
    if c.stage = .recovering then
      if k = .addTrip ∧ c.failure.all (fun f => f.reason ≠ .fault .addTrip ∨ f.pan ≠ some p) then roofSafe s else s
    else if c.collecting = some p then
      if c.form.reraises ∧ (c.stage = .raising ∨ c.stage = .confirming) then candidateFails (.fault k) p s
      else failStage (.fault k) (some p) s
    else s
  | none => s

/-- A LOWER_TIMEOUT seen by SEQ: ROOF_SAFE for a COLLECTING pantograph with the breaker not OPEN (R137) or in RECOVERING
(R133), and the failure of the stage where SEQ owned it or the stage is LOWERING of a form that lowers every pantograph
(R124, R131). That such a stage fails for a pantograph SEQ does not own is R124's word, which the model follows where R135
says otherwise (DESIGN CHOICE, log 36). -/
def seqLowerTimeout (p : Pan) (role : Option Duty) (bySeq : Bool) (s : State) : State :=
  if role = some .collecting ∧ s.bsc.breaker ≠ .opened then roofSafe s
  else
    match s.seq.ctx with
    | some c =>
      if c.stage = .recovering then roofSafe s
      else if bySeq ∨ (c.stage = .lowering ∧ c.form.reraises) then failStage (.fault .lowerTimeout) (some p) s
      else s
    | none => s

/-- The selector enters FAILED (R125, R131, R133). -/
def seqSelectorFailed (s : State) : State :=
  match s.seq.ctx with
  | some c => if c.stage = .recovering then roofSafe s else failStage (.fault .selectorFail) none s
  | none => s

/-- A RAISE_TIMEOUT of the candidate whose raise SEQ joined in RAISING: a failure of the candidate (R127). A raise that SEQ
owns ends FAILED on its own report. -/
def seqRaiseTimeout (p : Pan) (s : State) : State :=
  match s.seq.ctx with
  | some c =>
    if c.stage = .raising ∧ c.step = .lift ∧ c.joined = true ∧ c.candidate = some p then
      candidateFails (.fault .raiseTimeout) p s
    else s
  | none => s

/-- BSC reported BREAKER_FAIL_CLOSE in the present CLOSING (R130). -/
def seqCloseFailed (s : State) : State :=
  modCtx (fun c => { c with closeFailed := c.closeFailed || c.stage = .closing }) s

/-- A fault reported to NFU as SEQ sees it (R131, R137). -/
def seqFault (k : FaultKind) (p : Option Pan) (s : State) : State :=
  match k, p with
  | .addTrip, some q => seqPanFault .addTrip q s
  | .contactLost, some q => seqPanFault .contactLost q s
  | .raiseTimeout, some q => seqRaiseTimeout q s
  | .breakerFailClose, _ => seqCloseFailed s
  | .earthUnexpected, _ => roofSafe s
  | _, _ => s

/-- A report handled by SEQ. -/
def seqReport (r : Report) (s : State) : State :=
  match r with
  | .opEnded p .sequencer op out => seqOpEnded p op out s
  | .opEnded _ _ _ _ => s
  | .fault k p => seqFault k p s
  | .lowerTimeout p role bySeq => seqLowerTimeout p role bySeq s
  | .breakerFailed => roofSafe s
  | .selectorFailed => seqSelectorFailed s

end Sys2Proof.Machine
end

