-- ==== Sys2Proof/Machine/React.lean ====
section
/-! DEFINITION. What the blocks do at one event after its own effect, taken to quiescence (log 8): reports of PCH and BSC
are handled by ICE and SEQ, every condition that a rule watches is brought to the roof as it stands, and attention is
brought to the notice sets. -/

namespace Sys2Proof.Machine

/-- The parked command is executed as from the new holder and its status recorded (R166, step 5; R170). -/
def runParked (s : State) : State :=
  match s.auth.parked, s.auth.holder with
  | some p, some l =>
    let t := s.modAuth fun a => { a with parked := none }
    let r := runAuthority l p.cmd t
    changeAuth (fun a => { a with parkedResult := some ⟨l, p.cmd.code, p.tag, .status r.2⟩ }) r.1
  | some _, none | none, _ => s

/-- The close interlock watched while the demand is CLOSE (R81): none where it holds. -/
def watchDemand (s : State) : Option State :=
  if s.bsc.breaker.demandClose && !s.interlock then some (openRequest s) else none

/-- The operations of LOWER_ALL end once the roof is down (R61, R172, R186): none where none ends. This is judged after the grant of
a raise at the same event, so that a LOWER_ALL stays in flight where the last pantograph reaches LOWERED and its waiting raise is
granted at once (R55), which R61 and R172 leave open (DESIGN CHOICE, log 52). -/
def watchLowerAll (s : State) : Option State :=
  if s.roofDown && s.longOps.any fun o => o.kind = .lowerAll then some (endLong .lowerAll s) else none

/-- The last marked operation has ended: the SYNC's response is handed to its link and the context freed (R187). -/
def watchSync (s : State) : Option State :=
  match s.sync with
  | some c =>
    if s.longOps.any (·.marked) then none else some ((hand c.owner (.syncDone c.tag) s).setSync none)
  | none => none

/-- The conditions that ICE watches (R148, R149, R151, R154, R157). -/
def iceWatchers : List (State → Option State) :=
  [watchIceState, watchDwell, watchProc, watchNoPan, watchScrape] ++ Pan.all.map watchHeater

/-- The first of a list of watchers that has something to do. -/
def firstAction : List (State → Option State) → State → Option State
  | [], _ => none
  | w :: rest, s =>
    match w s with
    | some t => some t
    | none => firstAction rest s

/-- One reaction: the oldest report, or the first of a list of watched conditions that has something to do. -/
def reactWith (ws : List (State → Option State)) (s : State) : Option State :=
  match s.reports with
  | r :: rest => some (seqReport r (iceReport r (s.setReports rest)))
  | [] => firstAction ws s

/-- Reactions until none is left, or a bound that no event comes near is spent (log 8). -/
def reactLoop (ws : List (State → Option State)) : Nat → State → State
  | 0, s => s
  | n + 1, s =>
    match reactWith ws s with
    | some t => reactLoop ws n t
    | none => s

/-- The bound on the reactions to one event (log 8). -/
def reactBound : Nat := 1000

/-- A change of holder that is due is made: its record and the effects of a leading-end change, ICE's among them (R166, steps
1 to 4; R168), and then the parked command (R170). None where none is due. Where the change moves no leading end and the event owes
ICE an evaluation for another reason, as at the removal of the ACTIVE entry, no rule orders ICE's reactions and the parked command:
ICE's come first here too (DESIGN CHOICE, log 51). -/
def watchAuthority (s : State) : Option State :=
  if s.changeDue then some (runParked (reactLoop iceWatchers reactBound (makeChange s.auth.changeCause s))) else none

/-- The conditions that the rules watch, in the order in which one event brings them to the roof (log 8). One event may end the
permit with the switch EARTHED (R93) and a condition of a selector move (R91), and R200 orders no two rules of one block: the
permit stands first here, so that EARTH_UNEXPECTED is reported before SELECTOR_FAIL (DESIGN CHOICE, log 48). Where reactions of two
blocks to one event report faults, which R200 leaves open, this order decides too: at a speed-interval end the permit's
EARTH_UNEXPECTED comes before the activation of an entry and the SEQ_FAILED of its stages (DESIGN CHOICE, log 50). -/
def watchers : List (State → Option State) :=
  [watchDemand, watchPermit, watchMove]
    ++ Pan.all.map watchLowerWait ++ Pan.all.map watchRaiseWait
    ++ [watchStaging, watchStage, watchActivation, watchAuthority]
    ++ iceWatchers
    ++ [watchLineLost, watchReclose, watchLowerAll, watchSync]

/-- One reaction of the controller. -/
def react (s : State) : Option State := reactWith watchers s

/-- The reactions to an event, then attention (R182, R198). -/
def settle (s : State) : State := attend (reactLoop watchers reactBound s)

/-- A speed-interval end at which a change of holder and the activation of an entry fall together takes either first
(R167): a free choice of Config. -/
def raceAtInterval (s : State) : State :=
  match watchActivation s, watchAuthority s with
  | some _, some t =>
    if Config.changeFirst s.freeCount then t.setFree (s.freeCount + 1) else s.setFree (s.freeCount + 1)
  | some _, none | none, _ => s

end Sys2Proof.Machine
end

