-- ==== Sys2Proof/Machine/ConfigOps.lean ====
section
/-! DEFINITION. The configuration store (section 11.1): the items of Table 11-1 by number and index, the checks of
CONFIG_COMMIT, and the write, the commit and the reopening. -/

namespace Sys2Proof.Machine

/-- An item of Table 11-1 at an index of its own set: its range, and how it is read and written as a number (R194). -/
structure Slot where
  lo : Nat
  hi : Nat
  read : Items → Nat
  write : Nat → Items → Items

/-- A roof item has index 0 (R194). -/
def roofSlot (index lo hi : Nat) (read : Items → Nat) (write : Nat → Items → Items) : Option Slot :=
  if index = 0 then some ⟨lo, hi, read, write⟩ else none

/-- A channel item has index 1 to 4 (R194). -/
def panSlot (index lo hi : Nat) (read : Pan → Items → Nat) (write : Pan → Nat → Items → Items) : Option Slot :=
  (Pan.ofNum index).map fun p => ⟨lo, hi, read p, write p⟩

/-- A line-system item has index 1 to 4, AC25, AC15, DC30, DC15 (R194). -/
def sysSlot (index lo hi : Nat) (read : LineSys → Items → Nat) (write : LineSys → Nat → Items → Items) : Option Slot :=
  (lineSysOf index).map fun y => ⟨lo, hi, read y, write y⟩

/-- The class that a number stands for in PAN_CLASS; its range admits 1 and 2 alone. -/
def classOrAc (v : Nat) : PClass := (classOf v).getD .ac

/-- The items of Table 11-1 by number and index. -/
def slotOf (item x : Nat) : Option Slot :=
  match item with
  | 1 => roofSlot x 10 2000 (·.pulseLength) fun v i => { i with pulseLength := v }
  | 2 => roofSlot x 5 500 (·.pulseMinWidth) fun v i => { i with pulseMinWidth := v }
  | 3 => roofSlot x 10000 30000 (·.carLength) fun v i => { i with carLength := v }
  | 4 => panSlot x 0 30000 (fun p i => i.panPosition.get p) fun p v i => { i with panPosition := i.panPosition.set p v }
  | 5 => roofSlot x 1 8 (·.lineConfirm) fun v i => { i with lineConfirm := v }
  | 6 => roofSlot x 1 8 (·.noneConfirm) fun v i => { i with noneConfirm := v }
  | 7 => panSlot x 1 2 (fun p i => PClass.num (i.panClass.get p))
      fun p v i => { i with panClass := i.panClass.set p (classOrAc v) }
  | 8 => sysSlot x 0 4 (fun y i => numOr0 Pan.num (i.panPreferred.get y))
      fun y v i => { i with panPreferred := i.panPreferred.set y (Pan.ofNum v) }
  | 9 => sysSlot x 0 4 (fun y i => numOr0 Pan.num (i.panAlternate.get y))
      fun y v i => { i with panAlternate := i.panAlternate.set y (Pan.ofNum v) }
  | 10 => roofSlot x 3000 30000 (·.raiseLimit) fun v i => { i with raiseLimit := v }
  | 11 => roofSlot x 2000 20000 (·.lowerLimit) fun v i => { i with lowerLimit := v }
  | 12 => roofSlot x 200 5000 (·.settleTime) fun v i => { i with settleTime := v }
  | 13 => roofSlot x 20 200 (·.dropThreshold) fun v i => { i with dropThreshold := v }
  | 14 => roofSlot x 0 60 (·.scrapeBonus) fun v i => { i with scrapeBonus := v }
  | 15 => panSlot x 0 200 (fun p i => i.calOffset.get p) fun p v i => { i with calOffset := i.calOffset.set p v }
  | 16 => panSlot x 0 1023 (fun p i => i.calGain.get p) fun p v i => { i with calGain := i.calGain.set p v }
  | 17 => roofSlot x 100 600 (·.pMax) fun v i => { i with pMax := v }
  | 18 => roofSlot x 1 100 (·.pressureSlew) fun v i => { i with pressureSlew := v }
  | 19 => roofSlot x 200 5000 (·.lineLostDwell) fun v i => { i with lineLostDwell := v }
  | 20 => roofSlot x 500 10000 (·.armDistance) fun v i => { i with armDistance := v }
  | 21 => roofSlot x 50 2000 (·.openTime) fun v i => { i with openTime := v }
  | 22 => roofSlot x 500 8000 (·.lowerAllowTime) fun v i => { i with lowerAllowTime := v }
  | 23 => roofSlot x 0 500 (·.approachMargin) fun v i => { i with approachMargin := v }
  | 24 => roofSlot x 0 200 (·.clearMargin) fun v i => { i with clearMargin := v }
  | 25 => roofSlot x 500 10000 (·.confirmLimit) fun v i => { i with confirmLimit := v }
  | 26 => roofSlot x 10 1000 (·.arcMinWidth) fun v i => { i with arcMinWidth := v }
  | 27 => roofSlot x 1 255 (·.arcSet) fun v i => { i with arcSet := v }
  | 28 => roofSlot x 0 254 (·.arcClear) fun v i => { i with arcClear := v }
  | 29 => roofSlot x 2778 55556 (·.scrapeMinSpeed) fun v i => { i with scrapeMinSpeed := v }
  | 30 => roofSlot x 200 5000 (·.authSupervision) fun v i => { i with authSupervision := v }
  | _ => none

/-- A force that a point may hold (R66, R195). -/
def validForce (f : Nat) : Bool := Config.forceMin ≤ f && f ≤ Config.forceMax

/-- The target table of a line system names pantographs of the system's class alone (R195, check 3). -/
def targetsValid (it : Items) (y : LineSys) : Bool :=
  (it.panPreferred.get y).all (fun p => it.panClass.get p = y.cls)
    && (it.panAlternate.get y).all (fun p => it.panClass.get p = y.cls)

/-- The four line systems in their order (R194). -/
def LineSys.every : List LineSys := [.ac25, .ac15, .dc30, .dc15]

/-- The first check of CONFIG_COMMIT that a configuration fails (R195). -/
def commitCheck (it : Items) (tables : PerClass (List Nat)) : Option CommitReport :=
  if !(tables.ac.all validForce && tables.dc.all validForce) then some .points
  else
    match Pan.all.find? fun p => it.carLength < it.panPosition.get p with
    | some p => some (.position p)
    | none => (LineSys.every.find? fun y => !targetsValid it y).map .target

/-- ARC_SET at or below ARC_CLEAR (R149, R194). -/
def arcsCross (it : Items) : Bool := it.arcSet ≤ it.arcClear

/-- A taken CONFIG_WRITE (R194); the offsets are recomputed where the car length or a position is written (R14). -/
def writeItem (item : Nat) (it : Items) (s : State) : State :=
  let t := s.modCfg fun c => { c with items := it }
  if item = 3 ∨ item = 4 then recomputeOffsets t else t

/-- CONFIG_WRITE after the class check (R193, R194). -/
def configWrite (item index value : Nat) (s : State) : State × Status :=
  if !s.configMode then (s, .notQuiescent)
  else
    match slotOf item index with
    | none => (s, .badOperand)
    | some slot =>
      let it := slot.write value s.cfg.items
      if value < slot.lo || slot.hi < value then (s, .badOperand)
      else if arcsCross it then (s, .badOperand)
      else if s.seq.mode = .inService ∧ (commitCheck it s.cfg.tables).isSome then (s, .configInvalid)
      else (writeItem item it s, .ok)

/-- CONFIG_COMMIT after the class check (R193, R195). -/
def configCommit (s : State) : State × Status :=
  if !s.configMode then (s, .notQuiescent)
  else if s.seq.mode = .inService then (s, .ok)
  else
    match commitCheck s.cfg.items s.cfg.tables with
    | some r => (s.modCfg fun c => { c with report := some r }, .configInvalid)
    | none =>
      let t := (s.modCfg fun c => { c with committed := true, report := some .success }).modSeq fun q =>
        { q with mode := .inService }
      ((armAll (notice .config t)).setIceEval true, .ok)

/-- CONFIG_REOPEN after the class check (R196). -/
def configReopen (s : State) : State × Status :=
  if !s.quiescent then (s, .notQuiescent)
  else
    let t := clearMap s
    ((notice .config ((t.modCfg fun c => { c with committed := false }).modSeq fun q =>
      { q with mode := .configPending })).setIceEval true, .ok)

end Sys2Proof.Machine
end

