-- ==== Sys2Proof/Machine/Results.lean ====
section
/-! DEFINITION. The result bytes of the queries: the fields of every owning rule in its order, each in the bytes of R183
(widths of fields whose rule states no range: log 9). -/

namespace Sys2Proof.Machine

/-- A time base value in four bytes. -/
def timeBytes (t : Time) : List Byte := be 4 t.toNat

/-- Ms since an optional start, 0 when stopped. -/
def State.ran (s : State) (timer : Option Time) : Nat :=
  match timer with
  | some t => s.elapsed t
  | none => 0

/-- TRAVEL_READ (R17). -/
def State.travelResult (s : State) : List Byte :=
  let o := s.trv.offsets
  timeBytes s.now ++ be 4 s.trv.front ++ be 3 s.trv.speed ++ u8 s.trv.direction.num ++ u8 s.auth.leading.num
    ++ be 3 s.trv.fA ++ be 3 s.trv.fB ++ be 2 s.cfg.items.carLength
    ++ be 3 o.p1 ++ be 3 o.p2 ++ be 3 o.p3 ++ be 3 o.p4

/-- The fields of a last-window record, or those of UNKNOWN (R35). -/
def lastWindowBytes : Option WindowRecord → List Byte
  | some w =>
    u8 (Detected.raw w.raw).num ++ sbe 3 (w.mean * 2) ++ be 3 (w.totalRms * 2) ++ be 3 (w.acRms * 2) ++ u8 w.periods
      ++ be 2 (w.pMin.getD 0) ++ be 2 (w.pMax.getD 0)
  | none => u8 Detected.unknown.num ++ be 14 0

/-- LINE_READ (R35). -/
def State.lineResult (s : State) : List Byte :=
  let d := s.ldet
  u8 d.stream.num ++ u8 d.detected.num ++ timeBytes d.since ++ u8 (numOr0 RawClass.num d.candidate) ++ u8 d.count
    ++ be 2 d.win.n ++ sbe 3 (d.mRef * 2) ++ be 4 d.windows.toNat ++ lastWindowBytes d.last

/-- A disconnector state and the position sought while MOVING (R63). -/
def discBytes : Disc → List Byte
  | .resting p => u8 (DiscPos.num p) ++ u8 0
  | .moving p => u8 3 ++ u8 (DiscPos.num p)
  | .failed => u8 4 ++ u8 0

/-- A duration in ms as a field of four bytes reports it: one above 4 294 967 295 as 4 294 967 295 (R183). -/
def reported (ms : Nat) : Nat := min Config.reportMax ms

/-- ELAPSED of PAN_READ (R63). -/
def State.panElapsed (s : State) (c : Channel) : Nat :=
  match c.state with
  | .raising | .settling => s.elapsed c.raiseStart
  | .lowering => reported (s.since c.lowerStart)
  | .lowered | .raised | .dropped | .isolated => 0

/-- A channel's last result (R63). -/
def panResultBytes (r : PanResult) : List Byte := sourceBytes (some r.source) ++ opBytes (some r.op) ++ outcomeBytes r.outcome

/-- PAN_READ (R63). INPUTS is one byte of two flags, contact sensed and lowered limit active (DESIGN CHOICE, log 9). -/
def State.panResult (s : State) (p : Pan) : List Byte :=
  let c := s.ch p
  let f := s.freg.get p
  u8 c.state.num ++ u8 (roleNum c.role) ++ u8 (PClass.num (s.cfg.items.panClass.get p))
    ++ sourceBytes (c.job.map (·.source)) ++ opBytes (c.job.map (·.op)) ++ u8 (flagByte [c.raiseWaiting, c.lowerReq])
    ++ discBytes c.disc ++ be 2 f.pCmd ++ be 2 (f.target.getD 0) ++ sbe 2 c.measured
    ++ u8 (flagByte [s.lines.contact.get p, s.lines.lowered.get p]) ++ be 4 (s.panElapsed c)
    ++ optRecord 6 (c.lastResult.map panResultBytes)

/-- FORCE_TABLE_READ and FORCE_TABLE_READ_NEXT (R68). -/
def State.tableResult (s : State) (c : PClass) (i : Nat) : List Byte :=
  u8 (PClass.num c) ++ u8 i ++ be 2 (40 * i) ++ u8 (tablePoint (s.cfg.tables.get c) i)

/-- FORCE_READ (R76). -/
def State.forceResult (s : State) (p : Pan) : List Byte :=
  let f := s.freg.get p
  let it := s.cfg.items
  u8 (pairNum (s.ch p).state.isRaised) ++ u8 (PClass.num (it.panClass.get p)) ++ be 2 f.vKmh ++ u8 f.point
    ++ u8 f.profile ++ u8 f.force ++ be 2 (f.target.getD 0) ++ be 2 f.pCmd ++ u8 (it.calOffset.get p)
    ++ be 2 (it.calGain.get p)

/-- A selector state, the position left and the position sought, a byte each (R95). The position last sought of FAILED stands in
the byte of the position sought, and has none of its own (DESIGN CHOICE, log 9). -/
def selectorBytes : Selector → List Byte
  | .rest p => u8 (SelPos.num p) ++ u8 0 ++ u8 0
  | .moving l p => u8 6 ++ u8 (numOr0 SelPos.num l) ++ u8 (SelPos.num p)
  | .failed p => u8 7 ++ u8 0 ++ u8 (SelPos.num p)

/-- Ms the line-lost watch has run (R95). -/
def State.watchRan (s : State) : Nat :=
  match s.bsc.watch with
  | .running t => s.elapsed t
  | .stopped | .spent => 0

/-- BREAKER_READ (R95). The command of BREAKER_RESULT is carried as its command code of R176 (DESIGN CHOICE, log 9). -/
def State.breakerResult (s : State) : List Byte :=
  let b := s.bsc
  u8 b.breaker.num ++ u8 (BreakerReading.num s.lines.breakerFb) ++ u8 (pairNum b.breaker.demandClose) ++ u8 (pairNum b.traction)
    ++ u8 (pairNum b.reclose) ++ be 2 (s.ran b.recloseTimer) ++ optBe 4 (b.lastReclose.map (·.toNat))
    ++ be 2 s.watchRan
    ++ optRecord 3 (b.breakerResult.map fun r =>
        u8 (Link.num r.link) ++ [if r.close then Cmd.breakerClose.code else Cmd.breakerOpen.code] ++ u8 (pairNum r.done))
    ++ selectorBytes b.selector ++ u8 (numOr0 SelPos.num s.lines.selectorFb)
    ++ optRecord 3 (b.selectorResult.map fun r => sourceBytes (some r.source) ++ u8 (pairNum r.done))
    ++ u8 (pairNum b.permit) ++ u8 (pairNum s.lines.earthed)

/-- SYSTEM_AFTER, SWAP and PAN_LIMIT of Table 10-2. -/
def sectionBytes : Section → List Byte
  | .neutral n => u8 0 ++ u8 2 ++ u8 n
  | .systemChange y w n => u8 (LineSys.num y) ++ u8 w.toNat ++ u8 n
  | .lowerZone => u8 0 ++ u8 2 ++ u8 0

/-- An entry at its index (R116, Table 10-2). -/
def State.entryResult (s : State) (index : Nat) (e : Entry) : List Byte :=
  let point := (s.map.action.filter fun a => a.id = e.id).map (·.point)
  u8 index ++ be 2 e.id ++ u8 e.sect.num ++ be 4 e.start ++ be 2 e.length ++ sectionBytes e.sect
    ++ u8 (Link.num e.source) ++ u8 e.state.num ++ u8 (numOr0 Pan.num e.target)
    ++ u8 (flagByte [e.late, e.noTarget, point.isSome]) ++ sbe 5 (point.getD 0)

/-- MAP_STATUS (R118). -/
def State.mapResult (s : State) : List Byte :=
  let m := s.map
  u8 m.entries.length ++ be 2 m.nextId ++ optBe 2 (s.activeEntry.map (·.id)) ++ optBe 2 (s.firstArmed.map (·.id))
    ++ optSbe 5 (m.action.map (·.point))
    ++ optRecord 11 (m.lastRemoval.map fun r =>
        be 2 r.id ++ u8 r.sect.num ++ u8 r.reason.num ++ timeBytes r.time ++ be 3 r.front)

/-- A failure (R141). -/
def failureBytes (f : Failure) : List Byte := u8 f.reason.num ++ u8 f.stage.num ++ u8 (numOr0 Pan.num f.pan)

/-- The cancel cause of a result, 0 for the others (R141). -/
def SeqResult.causeNum : SeqResult → Nat
  | .cancelled c => c.num
  | .done | .lineAbsent | .failed => 0

/-- The last-sequence record (R141). The cause of CANCELLED has a byte of its own behind the result, 0 for the other results
(DESIGN CHOICE, log 9). -/
def lastSeqBytes (r : LastSeq) : List Byte :=
  be 2 r.id ++ u8 r.sect.num ++ u8 r.form.num ++ u8 r.result.num ++ u8 r.result.causeNum ++ u8 (numOr0 Reason.num r.reason)
    ++ u8 (numOr0 Stage.num r.stage) ++ u8 (numOr0 Pan.num r.pan) ++ u8 (pairNum r.retryUsed) ++ timeBytes r.time

/-- The fields of SEQ_READ that the context gives (R141). -/
def State.ctxBytes (s : State) : List Byte :=
  match s.seq.ctx with
  | some c =>
    optBe 2 (some c.entry.id) ++ u8 c.form.num ++ u8 c.stage.num ++ be 4 (reported (s.since c.stageStart))
      ++ u8 (numOr0 LineSys.num c.expected) ++ u8 (flagByte [c.roofLive, c.traction, c.retryUsed])
      ++ u8 (numOr0 Pan.num c.candidate) ++ u8 (panSet c.raised)
      ++ optSbe 5 (if c.stage = .clearing then some ((s.clearingThreshold c : Nat) : Int) else none)
      ++ optRecord 3 ((if c.stage = .recovering then c.failure else none).map failureBytes)
  | none => be 23 0

/-- SEQ_READ (R141). -/
def State.seqResult (s : State) : List Byte :=
  u8 s.seq.mode.num ++ s.ctxBytes ++ optRecord 14 (s.seq.last.map lastSeqBytes)

/-- A heater's fields in ICE_READ (R159). Its manual demand and its ice demand are two flags of one byte (DESIGN CHOICE,
log 9). -/
def State.heaterBytes (s : State) (p : Pan) : List Byte :=
  let h := s.ice.heaters.get p
  let out := match h.out with
    | .off => u8 1 ++ be 3 0
    | .on t => u8 2 ++ be 3 (s.elapsed t)
    | .rest t => u8 3 ++ be 3 (s.elapsed t)
  out ++ u8 (flagByte [h.manual, s.iceDemand p])

/-- The procedure state's number (R154). -/
def Scrape.num : Scrape → Nat
  | .idle => 1 | .disconnect _ _ => 2 | .raise _ _ => 3 | .on _ => 4 | .lower _ => 5

/-- The release timer in ms: 0 while level 1 holds, and at its limit once it has reached it (R146, R159). -/
def State.releaseMs (s : State) : Nat :=
  if s.ice.level1 then 0 else if s.ice.releaseReached then Config.releaseTime else s.elapsed s.ice.releaseStart

/-- ICE_READ (R159). NO_SCRAPE_PAN is 1 where it is shown and 0 elsewhere (DESIGN CHOICE, log 9). -/
def State.iceResult (s : State) : List Byte :=
  let i := s.ice
  u8 i.state.num ++ u8 i.susResp.num ++ u8 i.confResp.num ++ u8 (pairNum i.permit) ++ u8 i.tempState.num
    ++ optSbe 2 i.temp ++ u8 i.run ++ u8 (pairNum i.weather) ++ u8 (pairNum i.level1) ++ be 3 s.releaseMs
    ++ be 3 s.level2 ++ be 2 (s.ran i.clearDwell)
    ++ be 3 i.arcs.p1.rolling ++ be 3 i.arcs.p2.rolling ++ be 3 i.arcs.p3.rolling ++ be 3 i.arcs.p4.rolling
    ++ s.heaterBytes .p1 ++ s.heaterBytes .p2 ++ s.heaterBytes .p3 ++ s.heaterBytes .p4
    ++ u8 i.proc.num ++ u8 (numOr0 Pan.num i.proc.held) ++ u8 s.noScrapePan.toNat ++ u8 (numOr0 Pan.num i.block)
    ++ u8 (panSet i.failedSet)

/-- DEFERRAL: NONE 1, ENTRY_ACTIVE 2, NOT_STANDSTILL 3 (R173). -/
def State.deferralNum (s : State) : Nat :=
  if !s.auth.changePends || !s.deferred s.auth.requester then 1 else if s.entryActive then 2 else 3

/-- The supervision timer in ms and its T_auth (R173): the one in force while it runs, else the item's. -/
def State.supervisionBytes (s : State) : List Byte :=
  match s.auth.supervision with
  | some v => be 2 (s.elapsed v.start) ++ be 2 v.limit
  | none => be 2 0 ++ be 2 s.cfg.items.authSupervision

/-- AUTH_READ (R173). -/
def State.authResult (s : State) (l : Link) : List Byte :=
  let a := s.auth
  u8 (numOr0 Link.num a.holder) ++ u8 (numOr0 Link.num a.requester)
    ++ optRecord 2 (a.parked.map fun p => [p.cmd.code, p.tag])
    ++ u8 (pairNum a.owed.isSome) ++ u8 (numOr0 OwedCause.num a.owed) ++ u8 s.deferralNum ++ s.supervisionBytes
    ++ u8 a.leading.num
    ++ optRecord 7 (a.lastChange.map fun c =>
        timeBytes c.time ++ u8 c.cause.num ++ u8 (numOr0 Link.num c.before) ++ u8 (numOr0 Link.num c.after))
    ++ optRecord 4 (a.parkedResult.map fun r => u8 (Link.num r.link) ++ [r.code, r.tag] ++ u8 r.outcome.num)
    ++ u8 (Link.num l)

/-- A cursor: its kind 0 to 3, and the id or the class and point it holds (R189). -/
def cursorBytes : Cursor → List Byte
  | .none => u8 0 ++ be 2 0 ++ u8 0 ++ u8 0
  | .map i => u8 1 ++ be 2 i ++ u8 0 ++ u8 0
  | .tableRead c i => u8 2 ++ be 2 0 ++ u8 (PClass.num c) ++ u8 i
  | .tableWrite c i => u8 3 ++ be 2 0 ++ u8 (PClass.num c) ++ u8 i

/-- The owner of the sync context, 0 where it is free, and the count of marked operations not yet ended in one byte (R189;
DESIGN CHOICE, log 9). -/
def State.syncBytes (s : State) : List Byte :=
  match s.sync with
  | some c => u8 (Link.num c.owner) ++ u8 (s.longOps.filter (·.marked)).length
  | none => u8 0 ++ u8 0

/-- Ms remaining of a hold-off (R189, R190). -/
def State.holdOffLeft (s : State) (l : Link) : Nat :=
  match (s.lnk.get l).holdOff with
  | some t => Config.holdOff - s.elapsed t
  | none => 0

/-- LINK_STATUS (R189), the frame itself already taken out of the queue. LAST_TAKEN is the code taken, also where it names no
command, and 0 for none (DESIGN CHOICE, log 9). -/
def State.linkResult (s : State) (l : Link) : List Byte :=
  let q := s.lnk.get l
  u8 q.flags.toNat ++ u8 q.queue.length ++ cursorBytes q.cursor ++ [q.lastTaken.getD 0] ++ s.syncBytes
    ++ u8 (s.holdOffLeft l)

/-- The commit report: 0 for success, or the number of the check with its channel or line system (R197). -/
def reportBytes : CommitReport → List Byte
  | .success => u8 0 ++ u8 0
  | .points => u8 1 ++ u8 0
  | .position p => u8 2 ++ u8 p.num
  | .target y => u8 3 ++ u8 (LineSys.num y)

/-- CONFIG_READ with the item's value (R197). -/
def State.configResult (s : State) (item index value : Nat) : List Byte :=
  u8 item ++ u8 index ++ be 4 value ++ u8 (pairNum s.cfg.committed) ++ u8 (pairNum s.quiescent)
    ++ optRecord 2 (s.cfg.report.map reportBytes)

/-- NOTICE_READ (R199). The attention state is 0 OFF and 1 ON, as in the attention frame of Table 10-1 (DESIGN CHOICE,
log 9). -/
def State.noticeResult (s : State) (l : Link) : List Byte :=
  let q := s.lnk.get l
  causesBytes q.pend ++ causesBytes q.enable ++ u8 q.attention.toNat

/-- FAULT_READ (R201). -/
def State.faultResult (s : State) : List Byte :=
  optRecord 18 (s.fault.map fun r =>
    u8 r.kind.num ++ u8 (numOr0 Pan.num r.pan) ++ optBe 2 r.entry ++ be 3 r.front ++ be 3 r.speed ++ u8 r.detected.num
      ++ u8 r.breaker.num ++ u8 (numOr0 Link.num r.holder) ++ timeBytes r.time)

end Sys2Proof.Machine
end

