-- ==== Sys2Proof/Machine/Commands.lean ====
section
/-! DEFINITION. Every command of Table 10-6 by its own rule, as a link takes it: the class check (R171), the refusals in
the rule's order, the effect, and the answer. The authority class stands in RoofCommands. -/

namespace Sys2Proof.Machine

/-- A command's answer: its status and result bytes, or none where the response is deferred (R187). -/
abbrev Answer := Option (Status × List Byte)

/-- An answer with a status alone. -/
def bare (r : State × Status) : State × Answer := (r.1, some (r.2, []))

/-- A query's answer: the state as it stands, and OK with result bytes (R182). -/
def query (s : State) (bytes : List Byte) : State × Answer := (s, some (.ok, bytes))

/-- A refusal: nothing changes. -/
def refuse (s : State) (st : Status) : State × Answer := (s, some (st, []))

/-- A link's continuation cursor takes a value (R185). -/
def setCursor (l : Link) (c : Cursor) (s : State) : State := s.modPort l fun q => { q with cursor := c }

/-- The first test of a continuation: the record of the last command taken is the opening command, the continuing one, or
NOP (R185). -/
def State.continues (s : State) (l : Link) (opening next : Byte) : Bool :=
  match (s.lnk.get l).lastTaken with
  | some c => c = opening || c = next || c = Cmd.nop.code
  | none => false

/-! ### Link commands (R187, R189, R199) -/

/-- NOP (R189). -/
def cmdNop (s : State) : State × Answer := query s []

/-- LINK_STATUS (R189). -/
def cmdLinkStatus (l : Link) (s : State) : State × Answer :=
  (s.modPort l fun q => { q with flags := .clear }, some (.ok, s.linkResult l))

/-- Every long operation in flight is marked (R187). -/
def markOps (s : State) : State := s.setLongOps (s.longOps.map fun o => { o with marked := true })

/-- SYNC (R187). -/
def cmdSync (l : Link) (tag : Byte) (s : State) : State × Answer :=
  match s.sync, s.longOps with
  | some _, _ => refuse s .syncDenied
  | none, [] => query s []
  | none, _ :: _ => (((markOps s).setSync (some ⟨l, tag⟩)).modPort l fun q => { q with blocked := true }, none)

/-- NOTICE_CLEAR (R199). -/
def cmdNoticeClear (l : Link) (causes : BitVec 16) (s : State) : State × Answer :=
  query (s.modPort l (·.clearCauses causes)) []

/-- NOTICE_ENABLE (R199). -/
def cmdNoticeEnable (l : Link) (causes : BitVec 16) (s : State) : State × Answer :=
  query (s.modPort l fun q => { q with enable := causes }) []

/-! ### Queries of one pantograph, the force tables and the map -/

/-- PAN_READ (R63). -/
def cmdPanRead (pan : Nat) (s : State) : State × Answer :=
  match Pan.ofNum pan with
  | some p => query s (s.panResult p)
  | none => refuse s .badOperand

/-- FORCE_READ (R76). -/
def cmdForceRead (pan : Nat) (s : State) : State × Answer :=
  match Pan.ofNum pan with
  | some p => query s (s.forceResult p)
  | none => refuse s .badOperand

/-- FORCE_TABLE_READ (R68). -/
def cmdForceTableRead (l : Link) (cls point : Nat) (s : State) : State × Answer :=
  match classOf cls with
  | some c =>
    if point ≤ 8 then query (setCursor l (.tableRead c point) s) (s.tableResult c point)
    else refuse (setCursor l .none s) .badOperand
  | none => refuse (setCursor l .none s) .badOperand

/-- FORCE_TABLE_READ_NEXT (R68). -/
def cmdForceTableReadNext (l : Link) (s : State) : State × Answer :=
  match (s.lnk.get l).cursor with
  | .tableRead c i =>
    if !s.continues l (Cmd.forceTableRead 0 0).code Cmd.forceTableReadNext.code then refuse s .illegalSequence
    else if 8 ≤ i then refuse (setCursor l .none s) .badOperand
    else query (setCursor l (.tableRead c (i + 1)) s) (s.tableResult c (i + 1))
  | .none | .map _ | .tableWrite _ _ => refuse s .illegalSequence

/-- The entry at an index returned, and the map cursor set to it (R116, R117). -/
def returnEntry (l : Link) (index : Nat) (e : Entry) (s : State) : State × Answer :=
  query (setCursor l (.map e.id) s) (s.entryResult index e)

/-- MAP_READ (R116). -/
def cmdMapRead (l : Link) (index : Nat) (s : State) : State × Answer :=
  if 63 < index then refuse (setCursor l .none s) .badOperand
  else
    match s.map.entries[index]? with
    | some e => returnEntry l index e s
    | none => refuse (setCursor l .none s) .endOfMap

/-- MAP_READ_NEXT (R117). -/
def cmdMapReadNext (l : Link) (s : State) : State × Answer :=
  match (s.lnk.get l).cursor with
  | .map i =>
    if !s.continues l (Cmd.mapRead 0).code Cmd.mapReadNext.code then refuse s .illegalSequence
    else
      match s.map.entries.findIdx? fun e => e.id = i with
      | none => refuse (setCursor l .none s) .cursorLost
      | some k =>
        match s.map.entries[k + 1]? with
        | some e => returnEntry l (k + 1) e s
        | none => refuse (setCursor l .none s) .endOfMap
  | .none | .tableRead _ _ | .tableWrite _ _ => refuse s .illegalSequence

/-- CONFIG_READ (R197). -/
def cmdConfigRead (item index : Nat) (s : State) : State × Answer :=
  if item = 0 then query s (s.configResult 0 index 0)
  else
    match slotOf item index with
    | some slot => query s (s.configResult item index (slot.read s.cfg.items))
    | none => refuse s .badOperand

/-! ### Shared commands (R171) -/

/-- POSITION_FIX, taken (R11, R103, R113, R114). MAP acts before SEQ judges the new front, so that an OVERRUN reaches NFU before a
SEQ_FAILED of the same fix, which R200 leaves open (DESIGN CHOICE, log 47). -/
def takeFix (m : Nat) (s : State) : State :=
  let t := s.modTrv fun t => { t with front := m * 1000 }
  (endPassed t (mapFix (s.trv.front ≤ m * 1000) t)).setIceEval true

/-- POSITION_FIX (R10). -/
def cmdPositionFix (l : Link) (m : Nat) (s : State) : State × Answer :=
  if !s.holderOrM l then refuse s .authNotHeld
  else if s.seq.mode = .configPending then refuse s .notConfigured
  else if Config.routeMax < m then refuse s .badOperand
  else query (takeFix m s) []

/-- EARTH_PERMIT (R94). -/
def cmdEarthPermit (l : Link) (op : Nat) (s : State) : State × Answer :=
  if !s.holderOrM l then refuse s .authNotHeld
  else
    match pairOf op with
    | none => refuse s .badOperand
    | some true =>
      if s.seq.mode = .roofSafe then refuse s .roofSafe
      else if !s.permitHolds then refuse s .interlock
      else query (setPermit true s) []
    | some false => if s.earthed then refuse s .interlock else query (setPermit false s) []

/-- The operands of a MAP_INSERT in range (R100): the section they describe. -/
def insertSection (kind start length systemAfter swap panLimit : Nat) : Option Section :=
  if start ≤ Config.routeMax ∧ 1 ≤ length ∧ length ≤ 2000 then sectionOf kind systemAfter swap panLimit else none

/-- MAP_INSERT (R100, R101). In a ROOF_SAFE entered from CONFIG_PENDING it is taken, as R100 says, where R119 has no entry before
CONFIG_COMMIT (DESIGN CHOICE, log 45). -/
def cmdMapInsert (l : Link) (kind start length systemAfter swap panLimit : Nat) (s : State) : State × Answer :=
  if s.seq.mode = .configPending then refuse s .notConfigured
  else
    match insertSection kind start length systemAfter swap panLimit with
    | none => refuse s .badOperand
    | some sect =>
      match s.insertRefusal start length with
      | some st => refuse s st
      | none => query (insertEntry l sect start length s) (be 2 s.offeredId)

/-- MAP_DELETE (R102). -/
def cmdMapDelete (l : Link) (id : Nat) (s : State) : State × Answer :=
  if id = 0 then refuse s .badOperand
  else
    match s.map.entries.find? fun e => e.id = id with
    | none => refuse s .noEntry
    | some e =>
      if e.source ≠ l ∧ !s.holderOrM l then refuse s .notOwner
      else if e.state = .active then refuse s .entryLocked
      else query (noticeOthers l .map (removeEntry e .deleted s)) []

/-- ROOF_RESET on a breaker in FAILED (R96). -/
def resetBreaker (s : State) : State :=
  if s.bsc.breaker = .failed then
    if s.lines.breakerFb = .opened then setBreaker .opened s else startOpening s
  else s

/-- ROOF_RESET on a selector in FAILED (R96). -/
def resetSelector (s : State) : State :=
  match s.bsc.selector, s.lines.selectorFb with
  | .failed _, some p => s.modBsc fun q => { q with selector := .rest p }
  | .failed _, none | .rest _, _ | .moving _ _, _ => s

/-- The roof mode at a ROOF_RESET (R140): out of ROOF_SAFE with notice ROOF_SAFE, by the commit state. -/
def resetMode (s : State) : State :=
  if s.seq.mode = .roofSafe then
    let t := notice .roofSafe (s.modSeq fun q =>
      { q with mode := if s.cfg.committed then .inService else .configPending })
    armAll t
  else s

/-- ROOF_RESET, taken (R140). The ARMED entries return to PENDING before any test for activation, so that none becomes ACTIVE at
the removal of the ACTIVE entry, where R103 and R105 meet (DESIGN CHOICE, log 44). -/
def takeRoofReset (s : State) : State :=
  let t := returnAll (cancelSequence .roofReset s)
  (resetMode (resetSelector (resetBreaker (forPans resetChannel t)))).setIceEval true

/-- ROOF_RESET (R140). -/
def cmdRoofReset (l : Link) (s : State) : State × Answer :=
  if !s.holderOrM l then refuse s .authNotHeld
  else if s.seq.mode = .roofSafe ∧ s.earthed ∧ !s.bsc.permit then refuse s .interlock
  else if !s.roofDown then refuse s .notQuiescent
  else query (takeRoofReset s) []

/-- ICE_WEATHER (R147). -/
def cmdIceWeather (l : Link) (op : Nat) (s : State) : State × Answer :=
  if l ≠ .m then refuse s .authNotHeld
  else if s.seq.mode = .roofSafe then refuse s .roofSafe
  else
    match pairOf op with
    | some on => query (s.modIce (·.setWeather on s.now)) []
    | none => refuse s .badOperand

/-- FAULT_CLEAR (R201). -/
def cmdFaultClear (l : Link) (s : State) : State × Answer :=
  if !s.holderOrM l then refuse s .authNotHeld else query (s.setFault none) []

/-- LOWER_ALL, taken: its effects at the event (R172, R61, R134, R160). -/
def takeLowerAll (s : State) : State :=
  setProc .idle (cancelSequence .lowerAll (clearTraction (openRequest (forPans protectiveLower s))))

/-- LOWER_ALL (R172). -/
def cmdLowerAll (l : Link) (s : State) : State × Answer :=
  if s.roofDown then (takeLowerAll s, some (.ok, []))
  else (startLong l .lowerAll (takeLowerAll s), some (.accepted, []))

/-! ### Configuration commands (R171, R193) -/

/-- The class check and the mode check of the configuration class (R171, R193): the refusal, or none. -/
def State.configRefusal (s : State) (l : Link) : Option Status :=
  if l ≠ .m then some .authNotHeld else if !s.configMode then some .notQuiescent else none

/-- ISOLATE (R62). -/
def cmdIsolate (l : Link) (pan : Nat) (s : State) : State × Answer :=
  match s.configRefusal l with
  | some st => refuse s st
  | none =>
    match Pan.ofNum pan with
    | none => refuse s .badOperand
    | some p =>
      if (s.ch p).state = .lowered ∧ (s.ch p).job = none then query (isolatePan p s) []
      else refuse s .panUnavailable

/-- RESTORE (R62). -/
def cmdRestore (l : Link) (pan : Nat) (s : State) : State × Answer :=
  match s.configRefusal l with
  | some st => refuse s st
  | none =>
    match Pan.ofNum pan with
    | none => refuse s .badOperand
    | some p => if (s.ch p).state = .isolated then query (restorePan p s) [] else refuse s .panUnavailable

/-- A point of a force table takes a force (R66). -/
def setPoint (c : PClass) (i f : Nat) (s : State) : State :=
  s.modCfg fun g => { g with tables := g.tables.set c ((g.tables.get c).set i f) }

/-- FORCE_TABLE_WRITE (R66). -/
def cmdForceTableWrite (l : Link) (cls point force : Nat) (s : State) : State × Answer :=
  match s.configRefusal l with
  | some st => refuse s st
  | none =>
    match classOf cls with
    | none => refuse (setCursor l .none s) .badOperand
    | some c =>
      if 8 < point then refuse (setCursor l .none s) .badOperand
      else if !validForce force then
        refuse (setCursor l (if point = 0 then .none else .tableWrite c (point - 1)) s) .badOperand
      else query (setPoint c point force (setCursor l (.tableWrite c point) s)) []

/-- FORCE_TABLE_WRITE_NEXT (R67). -/
def cmdForceTableWriteNext (l : Link) (force : Nat) (s : State) : State × Answer :=
  match s.configRefusal l with
  | some st => refuse s st
  | none =>
    match (s.lnk.get l).cursor with
    | .tableWrite c i =>
      if !s.continues l (Cmd.forceTableWrite 0 0 0).code (Cmd.forceTableWriteNext 0).code then
        refuse s .illegalSequence
      else if 8 ≤ i then refuse (setCursor l .none s) .badOperand
      else if !validForce force then refuse s .badOperand
      else query (setPoint c (i + 1) force (setCursor l (.tableWrite c (i + 1)) s)) []
    | .none | .map _ | .tableRead _ _ => refuse s .illegalSequence

/-- The class check of the configuration class alone, for the commands whose own operation makes the mode check (R194 to
R196). -/
def fromM (l : Link) (r : State × Status) (s : State) : State × Answer :=
  if l ≠ .m then refuse s .authNotHeld else bare r

/-! ### Dispatch of a taken command (R171, R181) -/

/-- A command of the authority class as taken (R169, R171). -/
def takeAuthority (l : Link) (tag : Byte) (c : Cmd) (s : State) : State × Answer :=
  if s.auth.holder = some l then bare (runAuthority l c s)
  else if s.auth.requester = some l then bare (park c tag s)
  else refuse s .authNotHeld

/-- A command taken on a link: its new state and its answer (R181). -/
def runCmd (l : Link) (tag : Byte) (c : Cmd) (s : State) : State × Answer :=
  match c with
  | .nop => cmdNop s
  | .linkStatus => cmdLinkStatus l s
  | .sync => cmdSync l tag s
  | .travelRead => query s s.travelResult
  | .positionFix m => cmdPositionFix l m s
  | .setFormation _ _ => takeAuthority l tag c s
  | .lineRead => query s s.lineResult
  | .raise _ _ => takeAuthority l tag c s
  | .lower _ => takeAuthority l tag c s
  | .discSet _ _ => takeAuthority l tag c s
  | .addReset _ => takeAuthority l tag c s
  | .isolate p => cmdIsolate l p s
  | .restore p => cmdRestore l p s
  | .panRead p => cmdPanRead p s
  | .forceTableWrite k i f => cmdForceTableWrite l k i f s
  | .forceTableWriteNext f => cmdForceTableWriteNext l f s
  | .forceTableRead k i => cmdForceTableRead l k i s
  | .forceTableReadNext => cmdForceTableReadNext l s
  | .forceRead p => cmdForceRead p s
  | .breakerClose => takeAuthority l tag c s
  | .breakerOpen => takeAuthority l tag c s
  | .select _ => takeAuthority l tag c s
  | .earthPermit o => cmdEarthPermit l o s
  | .breakerRead => query s s.breakerResult
  | .mapInsert k p n y w lim => cmdMapInsert l k p n y w lim s
  | .mapDelete i => cmdMapDelete l i s
  | .mapRead i => cmdMapRead l i s
  | .mapReadNext => cmdMapReadNext l s
  | .mapStatus => query s s.mapResult
  | .roofReset => cmdRoofReset l s
  | .seqRead => query s s.seqResult
  | .iceMode _ _ _ _ => takeAuthority l tag c s
  | .heat _ _ => takeAuthority l tag c s
  | .iceWeather o => cmdIceWeather l o s
  | .iceRead => query s s.iceResult
  | .authRequest => bare (authRequest l s)
  | .authRelease => bare (authRelease l s)
  | .authRead => query s (s.authResult l)
  | .lowerAll => cmdLowerAll l s
  | .configWrite i x v => fromM l (configWrite i x v s) s
  | .configRead i x => cmdConfigRead i x s
  | .configCommit => fromM l (configCommit s) s
  | .configReopen => fromM l (configReopen s) s
  | .noticeRead => query s (s.noticeResult l)
  | .noticeClear k => cmdNoticeClear l k s
  | .noticeEnable k => cmdNoticeEnable l k s
  | .faultRead => query s s.faultResult
  | .faultClear => cmdFaultClear l s
  | .unknown _ => refuse s .unknownCommand
  | .badLength _ => refuse s .badOperand

end Sys2Proof.Machine
end

