-- ==== Sys2Proof/Machine/Links.lean ====
section
/-! DEFINITION. The link interface (Chapter 10): the receiver, the receive queue, the taking of commands and their
responses, the transmitter, and the link reset. -/

namespace Sys2Proof.Machine

/-! ### Taking and answering (R180 to R182) -/

/-- What follows a taken command at the same event. -/
inductive FollowUp
  /-- Nothing: the command reads. -/
  | quiet
  /-- The link's attention: the command acts on notice sets. -/
  | attention
  /-- The reactions of the blocks, where the command has taken effect. -/
  | roof
  deriving DecidableEq, Repr

/-- What follows a command (log 8). -/
def followUp : Cmd → FollowUp
  | .nop | .linkStatus | .sync | .travelRead | .lineRead | .panRead _ | .forceTableRead _ _ | .forceTableReadNext
  | .forceRead _ | .breakerRead | .mapRead _ | .mapReadNext | .mapStatus | .seqRead | .iceRead | .authRead
  | .configRead _ _ | .noticeRead | .faultRead | .unknown _ | .badLength _ => .quiet
  | .noticeClear _ | .noticeEnable _ => .attention
  | .positionFix _ | .setFormation _ _ | .raise _ _ | .lower _ | .discSet _ _ | .addReset _ | .isolate _ | .restore _
  | .forceTableWrite _ _ _ | .forceTableWriteNext _ | .breakerClose | .breakerOpen | .select _ | .earthPermit _
  | .mapInsert _ _ _ _ _ _ | .mapDelete _ | .roofReset | .iceMode _ _ _ _ | .heat _ _ | .iceWeather _ | .authRequest
  | .authRelease | .lowerAll | .configWrite _ _ _ | .configCommit | .configReopen | .faultClear => .roof

/-- A status that reports a command with an effect (Table 10-3): OK, ACCEPTED and PENDING. QUEUED parks the command, and
every other status is a refusal. -/
def Status.effective : Status → Bool
  | .ok | .accepted | .pending => true
  | _ => false

/-- What follows a command with its answer. -/
def follow (c : Cmd) (a : Answer) (s : State) : State :=
  match followUp c, a with
  | .quiet, _ => s
  | .attention, _ => attend s
  | .roof, some (st, _) => if st.effective then settle s else s
  | .roof, none => s

/-- The record of the last command taken: set by every answer but ILLEGAL_SEQUENCE (R181). -/
def recordTaken (l : Link) (c : Cmd) (a : Answer) (s : State) : State :=
  match a with
  | some (.illegalSequence, _) => s
  | some _ | none => s.modPort l fun q => { q with lastTaken := some c.code }

/-- The response to a taken command is handed to the link's transmitter, and the link waits until it has been sent (R181,
R182); a deferred one is handed later (R187). -/
def handAnswer (l : Link) (tag : Byte) (c : Cmd) (a : Answer) (s : State) : State :=
  match a with
  | some (st, bytes) => (hand l (.response c.code tag st bytes) s).modPort l fun q => { q with awaiting := true }
  | none => s

/-- A command is taken on a link, the frame already out of the queue: it runs, is recorded and answered, and the event's
reactions follow (R181, R182). -/
def takeCmd (l : Link) (tag : Byte) (c : Cmd) (s : State) : State :=
  let r := runCmd l tag c s
  follow c r.2 (handAnswer l tag c r.2 (recordTaken l c r.2 r.1))

/-- The link takes the frame at the head of its queue (R181). -/
def Port.canTake (q : Port) : Bool := !q.blocked && !q.awaiting

/-- The frame at the head of the queue is taken where the link can take one (R181). -/
def takeNext (l : Link) (s : State) : State :=
  match (s.lnk.get l).queue with
  | f :: rest =>
    if (s.lnk.get l).canTake then takeCmd l f.tag f.cmd (s.modPort l fun q => { q with queue := rest }) else s
  | [] => s

/-- A frame is a BUSY answer. -/
def TxFrame.isBusy : TxFrame → Bool
  | .busy _ _ => true
  | .response _ _ _ _ | .syncDone _ | .attention _ => false

/-- A BUSY answer of the link waits for its transmitter: it stands behind the frame being sent (R180). -/
def Port.busyWaits (q : Port) : Bool := (q.tx.drop 1).any (·.isBusy)

/-- A correct frame meets a full queue (R180): OVERRUN, notice LINK on the link alone, and a BUSY answer where none
waits. -/
def overrunFrame (l : Link) (tag : Byte) (c : Cmd) (s : State) : State :=
  let t := noticeOn l .link (s.modPort l fun q => { q with flags := { q.flags with overrun := true } })
  if (s.lnk.get l).busyWaits then t else hand l (.busy c.code tag) t

/-- A correct frame completes on a link and is offered to its queue (R164, R180, R181). -/
def offer (l : Link) (tag : Byte) (c : Cmd) (s : State) : State :=
  let t := superviseFrame l s
  if Config.queueLength ≤ (s.lnk.get l).queue.length then attend (overrunFrame l tag c t)
  else takeNext l (t.modPort l fun q => { q with queue := q.queue ++ [⟨tag, c⟩] })

/-- The frame at the head of a transmitter has been sent in full (R181, R182, R187). -/
def sentFrame (q : Port) : Port :=
  match q.tx with
  | .response _ _ _ _ :: rest => { q with tx := rest, awaiting := false }
  | .syncDone _ :: rest => { q with tx := rest, awaiting := false, blocked := false }
  | .busy _ _ :: rest | .attention _ :: rest => { q with tx := rest }
  | [] => q

/-- A response has been sent, and the link takes its next frame where it can (R181). -/
def responseSent (l : Link) (s : State) : State := takeNext l (s.modPort l sentFrame)

/-! ### The receiver (R178, R179) -/

/-- An error flag set with notice LINK on the link alone, and the receiver's next state (R179). -/
def linkFault (l : Link) (f : ErrorFlags → ErrorFlags) (r : Receiver) (s : State) : State :=
  attend (noticeOn l .link (s.modPort l fun q => { q with flags := f q.flags, rx := r }))

def setByteError (f : ErrorFlags) : ErrorFlags := { f with byte := true }
def setGapError (f : ErrorFlags) : ErrorFlags := { f with gap := true }
def setFormatError (f : ErrorFlags) : ErrorFlags := { f with format := true }
def setCrcError (f : ErrorFlags) : ErrorFlags := { f with crc := true }

/-- The header byte of a command frame (Table 10-1). -/
def header : Byte := 0xC3

/-- A length byte in range (R178). -/
def validLength (b : Byte) : Bool := Config.lengthMin ≤ b.toNat && b.toNat ≤ Config.lengthMax

/-- The bytes after the header hold a whole frame: the length byte, n bytes and two CRC bytes (R178). -/
def frameWhole : List Byte → Bool
  | [] => false
  | n :: rest => rest.length = n.toNat + 2

/-- A whole frame is correct: the CRC register over bytes 1 to n + 3 is 0 (R177). -/
def frameCorrect (bytes : List Byte) : Bool := crc bytes = 0#16

/-- A whole frame, the receiver already in IDLE: a correct one is offered (R180), another discarded with CRC_ERROR
(R179). -/
def completeFrame (l : Link) (bytes : List Byte) (s : State) : State :=
  if frameCorrect bytes then
    match bytes with
    | _ :: code :: tag :: rest => offer l tag (Cmd.ofFrame code (rest.take (rest.length - 2))) s
    | _ => s
  else linkFault l setCrcError .idle s

/-- A byte received without error in RECEIVING (R178). -/
def takeFrameByte (l : Link) (bytes : List Byte) (b : Byte) (s : State) : State :=
  let all := bytes ++ [b]
  if bytes.isEmpty && !validLength b then linkFault l setFormatError .skipping s
  else if frameWhole all then completeFrame l all (s.modPort l fun q => { q with rx := .idle })
  else s.modPort l fun q => { q with rx := .receiving all }

/-- A byte received without error (R178). -/
def goodByte (l : Link) (b : Byte) (s : State) : State :=
  match (s.lnk.get l).rx with
  | .idle =>
    if b = header then s.modPort l fun q => { q with rx := .receiving [] } else linkFault l setFormatError .skipping s
  | .receiving bytes => takeFrameByte l bytes b s
  | .skipping => s

/-- A byte received with a parity or framing error (R178, R179). -/
def badByte (l : Link) (s : State) : State :=
  match (s.lnk.get l).rx with
  | .idle | .receiving _ => linkFault l setByteError .skipping s
  | .skipping => s

/-- The receive line of a link is at a level from now on (R175). -/
def lineAt (l : Link) (x : Level) (s : State) : State :=
  (s.modLines fun y => { y with rx := y.rx.set l x }).modPort l fun q => { q with rxAt := s.now }

/-- A byte ends on a link, with its line at the level of the stop bit, and is judged by its parity and its stop bit (R175,
R178): none is taken while the line is held in a recognised break (R190). -/
def takeByte (l : Link) (b : Byte) (x : ByteTail) (s : State) : State :=
  if (s.lnk.get l).inBreak then s
  else if wellReceived b x then goodByte l b (lineAt l x.stop s)
  else badByte l (lineAt l x.stop s)

/-- The gap limit of a frame in RECEIVING (R179). -/
def frameGap (l : Link) (s : State) : State := linkFault l setGapError .idle s

/-- The receiver's line has rested at mark for 1 ms in SKIPPING (R178). -/
def receiverIdles (l : Link) (s : State) : State := s.modPort l fun q => { q with rx := .idle }

/-! ### Link reset (R190, R191) -/

/-- A frame is a response to a taken command. -/
def TxFrame.isResponse : TxFrame → Bool
  | .response _ _ _ _ | .syncDone _ => true
  | .busy _ _ | .attention _ => false

/-- A link's own state at a link reset (R190, R191): the frame being sent is completed, everything else is emptied, and the
hold-off starts. -/
def Port.reset (now : Time) (q : Port) : Port :=
  { q with
    inBreak := true
    queue := []
    tx := q.tx.take 1
    awaiting := (q.tx.take 1).any (·.isResponse)
    blocked := false
    cursor := .none
    lastTaken := none
    flags := .clear
    holdOff := some now
    pend := 0
    attention := false }

/-- A sync context owned by a link is freed and its marks dropped (R188). -/
def freeSync (l : Link) (s : State) : State :=
  match s.sync with
  | some c =>
    if c.owner = l then
      (s.setSync none).setLongOps (s.longOps.map fun o => { o with marked := false })
    else s
  | none => s

/-- A link reset (R191). -/
def resetLink (l : Link) (s : State) : State :=
  settle (authLinkReset l (freeSync l (s.modPort l (·.reset s.now))))

/-- A break is recognised (R190): it resets the link, or, within the hold-off, is ignored, and the line brings no byte until it
returns to mark. -/
def takeBreak (l : Link) (s : State) : State :=
  match (s.lnk.get l).holdOff with
  | some _ => s.modPort l fun q => { q with inBreak := true }
  | none => resetLink l s

/-- The line returns to mark from space: SKIPPING (R190). A line at mark does not return to it. -/
def breakEnds (l : Link) (s : State) : State :=
  match s.lines.rx.get l with
  | .space => (lineAt l .mark s).modPort l fun q => { q with inBreak := false, rx := .skipping }
  | .mark => s

/-- The transmit line of a link, `n` bit times after the frame at the head of its transmitter begins: the frame's levels, and
mark after it and between frames (R175). -/
def State.txLine (s : State) (l : Link) (n : Nat) : Level :=
  match (s.lnk.get l).tx with
  | f :: _ => (txLevels f).getD n .mark
  | [] => .mark

end Sys2Proof.Machine
end

