-- ==== Sys2Proof/Machine/CommandRows.lean ====
section
/-! DEFINITION. The command rows of the opcode table: a correct frame of the command completes on a link and is offered to
its receive queue (R180; log 6). The link takes it at the same event where it can (R181), by `runCmd`. -/

namespace Sys2Proof.Machine

/-- The outcome of every row: no event stops the controller. -/
abbrev Result := Host.Outcome State Fault Refusal

/-- NOP (R189). -/
def execNop (l : Link) (tag : Byte) (s : State) : Result := .next (offer l tag .nop s)
/-- LINK_STATUS (R189). -/
def execLinkStatus (l : Link) (tag : Byte) (s : State) : Result := .next (offer l tag .linkStatus s)
/-- SYNC (R187). -/
def execSync (l : Link) (tag : Byte) (s : State) : Result := .next (offer l tag .sync s)
/-- TRAVEL_READ (R17). -/
def execTravelRead (l : Link) (tag : Byte) (s : State) : Result := .next (offer l tag .travelRead s)
/-- POSITION_FIX (R10). -/
def execPositionFix (l : Link) (tag : Byte) (m : Nat) (s : State) : Result := .next (offer l tag (.positionFix m) s)
/-- SET_FORMATION (R15). -/
def execSetFormation (l : Link) (tag : Byte) (fA fB : Nat) (s : State) : Result :=
  .next (offer l tag (.setFormation fA fB) s)
/-- LINE_READ (R35). -/
def execLineRead (l : Link) (tag : Byte) (s : State) : Result := .next (offer l tag .lineRead s)
/-- RAISE (R59). -/
def execRaise (l : Link) (tag : Byte) (pan role : Nat) (s : State) : Result := .next (offer l tag (.raise pan role) s)
/-- LOWER (R60). -/
def execLower (l : Link) (tag : Byte) (pan : Nat) (s : State) : Result := .next (offer l tag (.lower pan) s)
/-- DISC_SET (R53). -/
def execDiscSet (l : Link) (tag : Byte) (pan pos : Nat) (s : State) : Result :=
  .next (offer l tag (.discSet pan pos) s)
/-- ADD_RESET (R50). -/
def execAddReset (l : Link) (tag : Byte) (pan : Nat) (s : State) : Result := .next (offer l tag (.addReset pan) s)
/-- ISOLATE (R62). -/
def execIsolate (l : Link) (tag : Byte) (pan : Nat) (s : State) : Result := .next (offer l tag (.isolate pan) s)
/-- RESTORE (R62). -/
def execRestore (l : Link) (tag : Byte) (pan : Nat) (s : State) : Result := .next (offer l tag (.restore pan) s)
/-- PAN_READ (R63). -/
def execPanRead (l : Link) (tag : Byte) (pan : Nat) (s : State) : Result := .next (offer l tag (.panRead pan) s)
/-- FORCE_TABLE_WRITE (R66). -/
def execForceTableWrite (l : Link) (tag : Byte) (cls point force : Nat) (s : State) : Result :=
  .next (offer l tag (.forceTableWrite cls point force) s)
/-- FORCE_TABLE_WRITE_NEXT (R67). -/
def execForceTableWriteNext (l : Link) (tag : Byte) (force : Nat) (s : State) : Result :=
  .next (offer l tag (.forceTableWriteNext force) s)
/-- FORCE_TABLE_READ (R68). -/
def execForceTableRead (l : Link) (tag : Byte) (cls point : Nat) (s : State) : Result :=
  .next (offer l tag (.forceTableRead cls point) s)
/-- FORCE_TABLE_READ_NEXT (R68). -/
def execForceTableReadNext (l : Link) (tag : Byte) (s : State) : Result := .next (offer l tag .forceTableReadNext s)
/-- FORCE_READ (R76). -/
def execForceRead (l : Link) (tag : Byte) (pan : Nat) (s : State) : Result := .next (offer l tag (.forceRead pan) s)
/-- BREAKER_CLOSE (R89). -/
def execBreakerClose (l : Link) (tag : Byte) (s : State) : Result := .next (offer l tag .breakerClose s)
/-- BREAKER_OPEN (R89). -/
def execBreakerOpen (l : Link) (tag : Byte) (s : State) : Result := .next (offer l tag .breakerOpen s)
/-- SELECT (R92). -/
def execSelect (l : Link) (tag : Byte) (pos : Nat) (s : State) : Result := .next (offer l tag (.select pos) s)
/-- EARTH_PERMIT (R94). -/
def execEarthPermit (l : Link) (tag : Byte) (op : Nat) (s : State) : Result := .next (offer l tag (.earthPermit op) s)
/-- BREAKER_READ (R95). -/
def execBreakerRead (l : Link) (tag : Byte) (s : State) : Result := .next (offer l tag .breakerRead s)
/-- MAP_INSERT (R100, R101). -/
def execMapInsert (l : Link) (tag : Byte) (kind start length systemAfter swap panLimit : Nat) (s : State) : Result :=
  .next (offer l tag (.mapInsert kind start length systemAfter swap panLimit) s)
/-- MAP_DELETE (R102). -/
def execMapDelete (l : Link) (tag : Byte) (id : Nat) (s : State) : Result := .next (offer l tag (.mapDelete id) s)
/-- MAP_READ (R116). -/
def execMapRead (l : Link) (tag : Byte) (index : Nat) (s : State) : Result := .next (offer l tag (.mapRead index) s)
/-- MAP_READ_NEXT (R117). -/
def execMapReadNext (l : Link) (tag : Byte) (s : State) : Result := .next (offer l tag .mapReadNext s)
/-- MAP_STATUS (R118). -/
def execMapStatus (l : Link) (tag : Byte) (s : State) : Result := .next (offer l tag .mapStatus s)
/-- ROOF_RESET (R140). -/
def execRoofReset (l : Link) (tag : Byte) (s : State) : Result := .next (offer l tag .roofReset s)
/-- SEQ_READ (R141). -/
def execSeqRead (l : Link) (tag : Byte) (s : State) : Result := .next (offer l tag .seqRead s)
/-- ICE_MODE (R150). -/
def execIceMode (l : Link) (tag : Byte) (enable suspect confirmed permit : Nat) (s : State) : Result :=
  .next (offer l tag (.iceMode enable suspect confirmed permit) s)
/-- HEAT (R153). -/
def execHeat (l : Link) (tag : Byte) (pan op : Nat) (s : State) : Result := .next (offer l tag (.heat pan op) s)
/-- ICE_WEATHER (R147). -/
def execIceWeather (l : Link) (tag : Byte) (op : Nat) (s : State) : Result := .next (offer l tag (.iceWeather op) s)
/-- ICE_READ (R159). -/
def execIceRead (l : Link) (tag : Byte) (s : State) : Result := .next (offer l tag .iceRead s)
/-- AUTH_REQUEST (R162). -/
def execAuthRequest (l : Link) (tag : Byte) (s : State) : Result := .next (offer l tag .authRequest s)
/-- AUTH_RELEASE (R163). -/
def execAuthRelease (l : Link) (tag : Byte) (s : State) : Result := .next (offer l tag .authRelease s)
/-- AUTH_READ (R173). -/
def execAuthRead (l : Link) (tag : Byte) (s : State) : Result := .next (offer l tag .authRead s)
/-- LOWER_ALL (R172). -/
def execLowerAll (l : Link) (tag : Byte) (s : State) : Result := .next (offer l tag .lowerAll s)
/-- CONFIG_WRITE (R194). -/
def execConfigWrite (l : Link) (tag : Byte) (item index value : Nat) (s : State) : Result :=
  .next (offer l tag (.configWrite item index value) s)
/-- CONFIG_READ (R197). -/
def execConfigRead (l : Link) (tag : Byte) (item index : Nat) (s : State) : Result :=
  .next (offer l tag (.configRead item index) s)
/-- CONFIG_COMMIT (R195). -/
def execConfigCommit (l : Link) (tag : Byte) (s : State) : Result := .next (offer l tag .configCommit s)
/-- CONFIG_REOPEN (R196). -/
def execConfigReopen (l : Link) (tag : Byte) (s : State) : Result := .next (offer l tag .configReopen s)
/-- NOTICE_READ (R199). -/
def execNoticeRead (l : Link) (tag : Byte) (s : State) : Result := .next (offer l tag .noticeRead s)
/-- NOTICE_CLEAR (R199). -/
def execNoticeClear (l : Link) (tag : Byte) (causes : BitVec 16) (s : State) : Result :=
  .next (offer l tag (.noticeClear causes) s)
/-- NOTICE_ENABLE (R199). -/
def execNoticeEnable (l : Link) (tag : Byte) (causes : BitVec 16) (s : State) : Result :=
  .next (offer l tag (.noticeEnable causes) s)
/-- FAULT_READ (R201). -/
def execFaultRead (l : Link) (tag : Byte) (s : State) : Result := .next (offer l tag .faultRead s)
/-- FAULT_CLEAR (R201). -/
def execFaultClear (l : Link) (tag : Byte) (s : State) : Result := .next (offer l tag .faultClear s)
/-- UNKNOWN_COMMAND: a correct frame whose code names no command (R181). -/
def execUnknownCommand (l : Link) (tag code : Byte) (s : State) : Result := .next (offer l tag (.unknown code) s)

end Sys2Proof.Machine
end

