-- ==== Sys2Proof/Machine/Due.lean ====
section
/-! DEFINITION. When each time limit has been reached: its timer runs and its length has elapsed on the time base (R1,
section 1.5 of the scope file). A row that is a time limit acts only where its limit is due (log 7). -/

namespace Sys2Proof.Machine

/-- 1 ms since the last byte of an incomplete frame (R179). -/
def State.gapDue (s : State) (l : Link) : Bool :=
  match (s.lnk.get l).rx with
  | .receiving _ => !(s.lnk.get l).inBreak && Config.byteGap ≤ s.elapsed (s.lnk.get l).rxAt
  | .idle | .skipping => false

/-- 1 ms at mark in SKIPPING (R178). -/
def State.quietDue (s : State) (l : Link) : Bool :=
  match (s.lnk.get l).rx with
  | .skipping =>
    !(s.lnk.get l).inBreak && s.lines.rx.get l = .mark && Config.byteGap ≤ s.elapsed (s.lnk.get l).rxAt
  | .idle | .receiving _ => false

/-- 2 ms at space, in a period at space that has not been recognised as a break yet (R190). -/
def State.breakDue (s : State) (l : Link) : Bool :=
  !(s.lnk.get l).inBreak && s.lines.rx.get l = .space && Config.breakLength ≤ s.elapsed (s.lnk.get l).rxAt

/-- 20 ms since a link reset (R190). -/
def State.holdOffDue (s : State) (l : Link) : Bool := s.reached (s.lnk.get l).holdOff Config.holdOff

/-- 2 ms without a sample in RUNNING (R32). -/
def State.lossDue (s : State) : Bool := s.ldet.stream = .running && Config.sampleGap ≤ s.elapsed s.ldet.sampleAt

/-- 20 ms without a pressure sample in a raised state (R48). -/
def State.pressureDue (s : State) (p : Pan) : Bool :=
  (s.ch p).state.isRaised && Config.pressureGap ≤ s.elapsed (s.ch p).sampleAt

/-- The settle timer has run for T_settle (R41). -/
def State.settleDue (s : State) (p : Pan) : Bool :=
  (s.ch p).state = .settling && s.reached (s.ch p).settle (s.ch p).settleLen

/-- T_raise has elapsed in RAISING or SETTLING (R42). -/
def State.raiseDue (s : State) (p : Pan) : Bool :=
  ((s.ch p).state = .raising || (s.ch p).state = .settling) && (s.ch p).raiseLen ≤ s.elapsed (s.ch p).raiseStart

/-- The contact-loss timer has run for 500 ms (R43). -/
def State.contactDue (s : State) (p : Pan) : Bool :=
  (s.ch p).state = .raised && s.reached (s.ch p).loss Config.contactLoss

/-- T_lower has elapsed in LOWERING, for the first time (R46). -/
def State.lowerDue (s : State) (p : Pan) : Bool :=
  (s.ch p).state = .lowering && !(s.ch p).lowerFired && (s.ch p).lowerLen ≤ s.since (s.ch p).lowerStart

/-- 2000 ms in MOVING (R52). -/
def State.discDue (s : State) (p : Pan) : Bool :=
  match (s.ch p).disc with
  | .moving _ => Config.discMove ≤ s.elapsed (s.ch p).discStart
  | .resting _ | .failed => false

/-- 300 ms in CLOSING (R82). -/
def State.closeDue (s : State) : Bool :=
  s.bsc.breaker = .closing && Config.breakerClose ≤ s.elapsed s.bsc.limitStart

/-- 200 ms in OPENING (R82). -/
def State.openDue (s : State) : Bool :=
  s.bsc.breaker = .opening && Config.breakerOpen ≤ s.elapsed s.bsc.limitStart

/-- The line-lost watch has run for LINE_LOST_DWELL (R87). -/
def State.watchDue (s : State) : Bool :=
  match s.bsc.watch with
  | .running t => s.cfg.items.lineLostDwell ≤ s.elapsed t
  | .stopped | .spent => false

/-- The reclose timer has run for 2000 ms (R88). -/
def State.recloseDue (s : State) : Bool := s.reached s.bsc.recloseTimer Config.reclose

/-- 4000 ms in MOVING (R91). -/
def State.moveDue (s : State) : Bool :=
  match s.bsc.selector with
  | .moving _ _ => Config.selectorMove ≤ s.elapsed s.bsc.moveStart
  | .rest _ | .failed _ => false

/-- T_confirm has elapsed in CONFIRMING (R129). -/
def State.confirmDue (s : State) : Bool :=
  match s.seq.ctx with
  | some c => c.stage = .confirming && c.confirmLen ≤ s.since c.stageStart
  | none => false

/-- 5000 ms without a temperature word (R145). -/
def State.staleDue (s : State) : Bool := s.ice.tempState ≠ .stale && Config.tempStale ≤ s.elapsed s.ice.tempAt

/-- 1000 ms since the last substitute sample in STALE (R145). -/
def State.substituteDue (s : State) : Bool :=
  s.ice.tempState = .stale && Config.substitutePeriod ≤ s.elapsed s.ice.subAt

/-- The release timer has run for 300 000 ms (R146, R148). -/
def State.releaseDue (s : State) : Bool :=
  !s.ice.level1 && !s.ice.releaseReached && Config.releaseTime ≤ s.elapsed s.ice.releaseStart

/-- The clear dwell has run for 60 000 ms (R149). -/
def State.dwellDue (s : State) : Bool := s.ice.state = .confirmed && s.reached s.ice.clearDwell Config.clearDwell

/-- A heater has been ON for 600 000 ms (R152). -/
def State.heaterOnDue (s : State) (p : Pan) : Bool :=
  match (s.ice.heaters.get p).out with
  | .on t => Config.heaterOn ≤ s.elapsed t
  | .off | .rest _ => false

/-- A heater has rested for 120 000 ms (R152). -/
def State.heaterRestDue (s : State) (p : Pan) : Bool :=
  match (s.ice.heaters.get p).out with
  | .rest t => Config.heaterRest ≤ s.elapsed t
  | .off | .on _ => false

/-- The supervision timer has reached the T_auth it was started with (R164). -/
def State.lapseDue (s : State) : Bool :=
  match s.auth.supervision with
  | some v => v.limit ≤ s.elapsed v.start
  | none => false

end Sys2Proof.Machine
end

