-- ==== Sys2Proof/Machine/Line.lean ====
section
/-! DEFINITION. The line detector (Chapter 2): the period tracker, the window sums, the raw class, confirmation, and
sample loss. -/

namespace Sys2Proof.Machine

/-- The integer square root by its binary digits, from digit `k - 1` down (section 1.5 of the scope file). -/
def isqrtFrom : Nat → Nat → Nat → Nat
  | 0, _, r => r
  | k + 1, n, r => if (r + 2 ^ k) * (r + 2 ^ k) ≤ n then isqrtFrom k n (r + 2 ^ k) else isqrtFrom k n r

/-- The integer square root, rounded down, of a number below 2^48 (R25). -/
def isqrt (n : Nat) : Nat := isqrtFrom 24 n 0

/-- The count since the last crossing after one more sample; a count that reaches 1023 is forgotten (R22, step 1). -/
def countOn : Option Nat → Option Nat
  | none => none
  | some c => if c + 1 = Config.crossLimit then none else some (c + 1)

/-- The sample is a rising crossing (R22, step 2). -/
def risingCross (d : Detector) (x : Int) : Bool := d.lowSeen && d.mRef + Config.crossBand ≤ x

/-- The period that ends at a sample, where one does (R22). -/
def endedPeriod (d : Detector) (x : Int) : Option Nat := if risingCross d x then countOn d.lastCross else none

/-- The period tracker takes a sample (R22). -/
def Detector.track (x : Int) (d : Detector) : Detector :=
  if risingCross d x then { d with lastCross := some 0, lowSeen := false }
  else { d with lastCross := countOn d.lastCross, lowSeen := d.lowSeen || decide (x ≤ d.mRef - Config.crossBand) }

/-- A period recorded in the window it ends in (R23). -/
def Window.record (w : Window) (period : Nat) : Window :=
  { w with
    periods := w.periods + 1
    pMin := some (match w.pMin with | some m => min m period | none => period)
    pMax := some (match w.pMax with | some m => max m period | none => period) }

/-- A sample added to the window sums (R21). -/
def Window.add (w : Window) (x : Int) : Window :=
  { w with n := w.n + 1, sum := w.sum + x, sq := w.sq + (x * x).toNat }

/-- The detector's tracker and window take a sample (R20, R22, R23, R21). -/
def Detector.take (x : Int) (d : Detector) : Detector :=
  let w := match endedPeriod d x with
    | some p => d.win.record p
    | none => d.win
  { d.track x with win := w.add x }

/-- total_ms of a window (R25). -/
def Window.totalMs (w : Window) : Nat := w.sq / 480
/-- total_rms of a window (R25). -/
def Window.totalRms (w : Window) : Nat := isqrt w.totalMs
/-- mean of a window, truncated toward zero (R25). -/
def Window.mean (w : Window) : Int := Int.tdiv w.sum 480
/-- ac_rms of a window; a negative ac_var is taken as 0 (R25). -/
def Window.acRms (w : Window) : Nat := isqrt ((w.totalMs : Int) - w.mean * w.mean).toNat

/-- Every period that ended in the window lies in a band (R27). -/
def Window.periodsIn (w : Window) (lo hi : Nat) : Bool :=
  match w.pMin, w.pMax with
  | some m, some n => lo ≤ m && n ≤ hi
  | _, _ => false

/-- abs(mean) × 2 is 1000 V or less (R27). -/
def Window.centred (w : Window) : Bool := w.mean.natAbs * 2 ≤ 1000

/-- The raw class of an AC candidate (R27). -/
def Window.acClass (w : Window) : RawClass :=
  let v := w.acRms * 2
  if w.periodsIn 86 106 && 17500 ≤ v && v ≤ 29000 && w.centred then .sys .ac25
  else if w.periodsIn 250 330 && 11000 ≤ v && v ≤ 18000 && w.centred then .sys .ac15
  else .unclassified

/-- The raw class of a DC candidate (R28). -/
def Window.dcClass (w : Window) : RawClass :=
  let v := w.mean * 2
  if 0 < w.mean && (w.acRms : Int) * 8 ≤ w.mean then
    if 1000 ≤ v && v ≤ 1950 then .sys .dc15
    else if 2000 ≤ v && v ≤ 3900 then .sys .dc30
    else .unclassified
  else .unclassified

/-- The raw class of a completed window (R26 to R28). -/
def Window.rawClass (w : Window) : RawClass :=
  if w.totalRms * 2 < 400 then .dead
  else if 1 ≤ w.periods && 5000 ≤ w.acRms * 2 then w.acClass
  else w.dcClass

/-- The last-window record of a completed window (R24). -/
def Window.toRecord (w : Window) : WindowRecord where
  raw := w.rawClass
  mean := w.mean
  totalRms := w.totalRms
  acRms := w.acRms
  periods := w.periods
  pMin := w.pMin
  pMax := w.pMax

/-- The candidate class and the confirmation count at a window end (R29). -/
def Detector.confirm (c : RawClass) (d : Detector) : Detector :=
  if d.candidate = some c then { d with count := min 255 (d.count + 1) }
  else { d with candidate := some c, count := 1 }

/-- The windows that confirm a class: NONE_CONFIRM for NONE, LINE_CONFIRM for every other (R31). -/
def confirmNeed (it : Items) (c : RawClass) : Nat := if c = .dead then it.noneConfirm else it.lineConfirm

/-- The detected system at a window end, after R29 (R30). -/
def confirmed (it : Items) (d : Detector) : Detected :=
  match d.candidate with
  | some c => if confirmNeed it c ≤ d.count then .raw c else d.detected
  | none => d.detected

/-- The end of a window (R24): class, confirmation and detected system, the last-window record and the window counter,
m_ref, and a fresh window. -/
def windowEnd (s : State) : State :=
  let w := s.ldet.win
  let t := s.modLdet (·.confirm w.rawClass)
  (setDetected (confirmed t.cfg.items t.ldet) t).modLdet fun d =>
    { d with last := some w.toRecord, windows := d.windows + 1, mRef := w.mean, win := .fresh }

/-- A stream that starts or starts again: RUNNING with a fresh window, the tracker clear and the reference 0 (R20, R34). -/
def Detector.begin (d : Detector) : Detector :=
  match d.stream with
  | .running => d
  | .starting | .lost =>
    { d with stream := .running, win := .fresh, mRef := 0, lowSeen := false, lastCross := none }

/-- A sample arrives (R20). -/
def takeSample (x : Int) (s : State) : State :=
  let t := s.modLdet fun d => { d.begin.take x with sampleAt := s.now }
  if t.ldet.win.n = Config.windowLength then windowEnd t else t

/-- The detector at the declaration of sample loss, its detected system apart (R33). -/
def Detector.lose (d : Detector) : Detector :=
  { d with stream := .lost, win := .fresh, mRef := 0, lowSeen := false, lastCross := none, candidate := none, count := 0 }

/-- The fault and notice of sample loss (R33). -/
def reportLoss (s : State) : State := notice .sensor (reportFault .lineSensor none none s)

/-- The detected system becomes UNKNOWN, with DETECTED_SINCE and notice LINE at a change (R33). The close interlock and the
permit follow at the same event (R81, R93). -/
def detectedUnknown (s : State) : State :=
  if s.ldet.detected = .unknown then s
  else notice .line (s.modLdet fun d => { d with detected := .unknown, since := s.now })

/-- BSC's part of a change of the detected system that reports a fault at the same event (R93). -/
def permitPart (s : State) : State := (watchPermit s).getD s

/-- Sample loss (R33). Where the loss also ends a permit under an EARTHED switch, LDET's fault and BSC's fall at one event
and either may reach NFU first (R200), so the order is a free choice of Config. -/
def loseSamples (s : State) : State :=
  let t := detectedUnknown (s.modLdet (·.lose))
  if s.bsc.permit && s.earthed then
    let u := t.setFree (s.freeCount + 1)
    if Config.firstBlockReports s.freeCount then reportLoss u else reportLoss (permitPart u)
  else reportLoss t

end Sys2Proof.Machine
end

