-- ==== Sys2Proof/Machine/EventRows.lean ====
section
/-! DEFINITION. The event rows of the opcode table: the bytes and breaks of a link, the roof signal lines, and the time
limits. A row that is a time limit acts where its limit is due, and elsewhere changes nothing (log 7). -/

namespace Sys2Proof.Machine

/-- A time limit: its effect with the reactions to it where it is due, and nothing elsewhere (log 7). -/
def atLimit (due : Bool) (effect : State → State) (s : State) : Result :=
  .next (if due then settle (effect s) else s)

/-- A time limit of the link's own state, which brings about no reaction. -/
def atLinkLimit (due : Bool) (effect : State → State) (s : State) : Result := .next (if due then effect s else s)

/-! ### Links (R178 to R182, R190) -/

/-- FRAME_COMPLETE: the last byte of a frame arrives (R178). -/
def execFrameComplete (l : Link) (b : Byte) (s : State) : Result := .next (takeByte l b (sentTail b) s)

/-- BYTE_RECEIVED: a byte arrives without error (R178). -/
def execByteReceived (l : Link) (b : Byte) (s : State) : Result := .next (takeByte l b (sentTail b) s)

/-- FAULTY_BYTE: a byte arrives with the parity bit and the stop bit that are read, and is judged by them; one without error
is faulty by its place, a stray byte in IDLE or a bad length byte (R175, R178, R179). -/
def execFaultyByte (l : Link) (b : Byte) (x : ByteTail) (s : State) : Result := .next (takeByte l b x s)

/-- FRAME_GAP_TIMEOUT (R179). -/
def execFrameGapTimeout (l : Link) (s : State) : Result := atLinkLimit (s.gapDue l) (frameGap l) s

/-- RECEIVER_IDLE (R178). -/
def execReceiverIdle (l : Link) (s : State) : Result := atLinkLimit (s.quietDue l) (receiverIdles l) s

/-- RESPONSE_SENT: the frame being sent has been sent in full (R181, R182). -/
def execResponseSent (l : Link) (s : State) : Result := .next (responseSent l s)

/-- LINK_RESET: the line has rested at space for 2 ms, and a break is recognised (R190, R191). -/
def execLinkReset (l : Link) (s : State) : Result := atLinkLimit (s.breakDue l) (takeBreak l) s

/-- BREAK_END: the line returns from space to mark (R190). -/
def execBreakEnd (l : Link) (s : State) : Result := .next (breakEnds l s)

/-- HOLD_OFF_END (R190). -/
def execHoldOffEnd (l : Link) (s : State) : Result :=
  atLinkLimit (s.holdOffDue l) (fun t => t.modPort l fun q => { q with holdOff := none }) s

/-! ### Travel (R3 to R8, R2) -/

/-- The width that a pulse is judged by: the one in force when its input went active, which is now where the input is
inactive (R18, R143). None where its pulse has been accepted. -/
def PulseState.width (now : Nat) : PulseState → Option Nat
  | .inactive => some now
  | .active w => some w
  | .accepted => none

/-- The pulse of an input is accepted at an event: the input has been active for the width it is judged by (R3, R143). -/
def PulseState.accepts (v : PulseState) (now : Nat) (x : PulseLine) : Bool :=
  match x, v.width now with
  | .activeFor us, some w => w ≤ us
  | .activeFor _, none | .goesActive, _ | .goesInactive, _ => false

/-- A pulse input after an event (R3, R143). -/
def PulseState.after (v : PulseState) (now : Nat) (x : PulseLine) : PulseState :=
  match x, v.width now with
  | .goesInactive, _ => .inactive
  | .goesActive, some w => .active w
  | .activeFor us, some w => if w ≤ us then .accepted else .active w
  | .goesActive, none | .activeFor _, none => .accepted

/-- An accepted travel pulse: TRV, then MAP (R4, R5, R8, R103, R104, R112). -/
def takePulse (dir : TravelDir) (s : State) : State :=
  let t := s.modTrv (Travel.pulse (pulseForward s.auth.leading dir) s.cfg.items.pulseLength)
  (endPassed t (mapPulse s.trv.direction t)).setIceEval true

/-- TRAVEL_PULSE: an event of the travel pulse line, at which its pulse may be accepted (R3, R18). -/
def execTravelPulse (dir : TravelDir) (x : PulseLine) (s : State) : Result :=
  let v := s.lines.travelPulse.after s.cfg.items.pulseMinWidth x
  let t := s.modLines fun y => { y with travelPulse := v }
  .next (if s.lines.travelPulse.accepts s.cfg.items.pulseMinWidth x then settle (takePulse dir t) else t)

/-- A speed-interval end: TRV's speed, then FREG, then MAP (R2, R6, R69, R104, R109). -/
def intervalEnd (s : State) : State :=
  let t := (s.modClk fun c => { c with speedClock := 0 }).modTrv (·.intervalEnd)
  (computeAction (armAll (forPans regulate t))).setIceEval true

/-- SPEED_INTERVAL_END (R2). -/
def execSpeedIntervalEnd (s : State) : Result := .next (settle (raceAtInterval (intervalEnd s)))

/-! ### Line detection (R20, R32) -/

/-- LINE_SAMPLE (R20). -/
def execLineSample (x : BitVec 16) (s : State) : Result := .next (settle (takeSample x.toInt s))

/-- SAMPLE_LOSS (R32, R33). -/
def execSampleLoss (s : State) : Result := atLimit s.lossDue loseSamples s

/-! ### Pantographs (Chapter 3) -/

/-- CONTACT_SENSE_CHANGE (R40, R43, R44). -/
def execContactSenseChange (p : Pan) (active : Bool) (s : State) : Result :=
  .next (settle (contactSense p (s.modLines fun x => { x with contact := x.contact.set p active })))

/-- LOWERED_LIMIT_CHANGE (R44, R45). -/
def execLoweredLimitChange (p : Pan) (active : Bool) (s : State) : Result :=
  .next (settle (loweredLimit p (s.modLines fun x => { x with lowered := x.lowered.set p active })))

/-- PRESSURE_SAMPLE (R48, R41). -/
def execPressureSample (p : Pan) (kPa : Int) (s : State) : Result := .next (settle (takePressure p kPa s))

/-- PRESSURE_GAP (R48). -/
def execPressureGap (p : Pan) (s : State) : Result := atLimit (s.pressureDue p) (sensorTrip p) s

/-- SETTLE_COMPLETE (R41). -/
def execSettleComplete (p : Pan) (s : State) : Result := atLimit (s.settleDue p) (settleEnds p) s

/-- RAISE_TIMEOUT (R42). -/
def execRaiseTimeout (p : Pan) (s : State) : Result := atLimit (s.raiseDue p) (raiseExpires p) s

/-- CONTACT_LOST (R43). -/
def execContactLost (p : Pan) (s : State) : Result := atLimit (s.contactDue p) (contactLost p) s

/-- LOWER_TIMEOUT (R46). -/
def execLowerTimeout (p : Pan) (s : State) : Result := atLimit (s.lowerDue p) (lowerExpires p) s

/-- DISCONNECTOR_FEEDBACK (R52). -/
def execDisconnectorFeedback (p : Pan) (r : Option DiscPos) (s : State) : Result :=
  .next (settle (discReading p (s.modLines fun x => { x with discFb := x.discFb.set p r })))

/-- The move limit of a MOVING disconnector (R52). -/
def discLimit (p : Pan) (s : State) : State :=
  match (s.ch p).disc with
  | .moving q => discExpires p q s
  | .resting _ | .failed => s

/-- DISC_MOVE_TIMEOUT (R52). -/
def execDiscMoveTimeout (p : Pan) (s : State) : Result := atLimit (s.discDue p) (discLimit p) s

/-! ### Breaker, selector and earthing switch (Chapter 5) -/

/-- BREAKER_FEEDBACK (R82, R83). -/
def execBreakerFeedback (r : BreakerReading) (s : State) : Result :=
  .next (settle (breakerReading (s.modLines fun x => { x with breakerFb := r })))

/-- BREAKER_CLOSE_TIMEOUT (R82). -/
def execBreakerCloseTimeout (s : State) : Result := atLimit s.closeDue closeLimit s

/-- BREAKER_OPEN_TIMEOUT (R82). -/
def execBreakerOpenTimeout (s : State) : Result := atLimit s.openDue openLimit s

/-- LINE_LOST_WATCH_EXPIRY (R87). -/
def execLineLostWatchExpiry (s : State) : Result := atLimit s.watchDue lineLostExpires s

/-- AUTO_RECLOSE (R88). -/
def execAutoReclose (s : State) : Result := atLimit s.recloseDue autoRecloses s

/-- SELECTOR_FEEDBACK (R91). -/
def execSelectorFeedback (r : Option SelPos) (s : State) : Result :=
  .next (settle (selectorReading (s.modLines fun x => { x with selectorFb := r })))

/-- The move limit of a MOVING selector (R91). A line that reads the position sought is taken as the end of the move. -/
def moveLimit (s : State) : State :=
  match s.bsc.selector with
  | .moving _ p => if s.lines.selectorFb = some p then selectorRests p s else selectorFails p s
  | .rest _ | .failed _ => s

/-- SELECTOR_MOVE_TIMEOUT (R91). -/
def execSelectorMoveTimeout (s : State) : Result := atLimit s.moveDue moveLimit s

/-- A change of the earthing switch feedback (R93). -/
def earthReading (e : Bool) (s : State) : State :=
  if s.lines.earthed = e then s
  else earthUnexpected (notice .earth (s.modLines fun x => { x with earthed := e }))

/-- EARTH_SWITCH_FEEDBACK (R93). -/
def execEarthSwitchFeedback (e : Bool) (s : State) : Result := .next (settle (earthReading e s))

/-! ### Sequencer (R129) -/

/-- CONFIRM_LIMIT_EXPIRY (R129). -/
def execConfirmLimitExpiry (s : State) : Result := atLimit s.confirmDue confirmExpires s

/-! ### Ice monitor (Chapter 8) -/

/-- ARC_PULSE: an event of a pantograph's arc pulse input, at which its pulse may be accepted (R143). -/
def execArcPulse (p : Pan) (x : PulseLine) (s : State) : Result :=
  let v := (s.lines.arcPulse.get p).after s.cfg.items.arcMinWidth x
  let t := s.modLines fun y => { y with arcPulse := y.arcPulse.set p v }
  .next (if (s.lines.arcPulse.get p).accepts s.cfg.items.arcMinWidth x then settle (countArc p t) else t)

/-- ARC_BIN_END (R144). -/
def execArcBinEnd (s : State) : Result := .next (settle (binEnd (s.modClk fun c => { c with binClock := 0 })))

/-- TEMPERATURE_WORD (R145). -/
def execTemperatureWord (x : Int) (s : State) : Result := .next (settle (takeTemp x s))

/-- TEMP_STALE (R145). -/
def execTempStale (s : State) : Result := atLimit s.staleDue tempGoesStale s

/-- TEMP_SUBSTITUTE_SAMPLE (R145). -/
def execTempSubstituteSample (s : State) : Result := atLimit s.substituteDue substitute s

/-- RELEASE_TIMER_EXPIRY (R146, R148). -/
def execReleaseTimerExpiry (s : State) : Result :=
  atLimit s.releaseDue (fun t => t.modIce fun i => { i with releaseReached := true }) s

/-- CLEAR_DWELL_EXPIRY (R148, R149). -/
def execClearDwellExpiry (s : State) : Result := atLimit s.dwellDue (setIceState .suspect) s

/-- HEATER_ON_TIME_LIMIT (R152). -/
def execHeaterOnTimeLimit (p : Pan) (s : State) : Result := atLimit (s.heaterOnDue p) (heaterRests p) s

/-- HEATER_REST_END (R152). -/
def execHeaterRestEnd (p : Pan) (s : State) : Result := atLimit (s.heaterRestDue p) (heaterRestEnds p) s

/-! ### Roof authority (R164) -/

/-- SUPERVISION_LAPSE (R164). -/
def execSupervisionLapse (s : State) : Result := atLimit s.lapseDue (oweChange .lapse) s

/-! ### Power-on -/

/-- A channel at power-on, read from its lines (R64). -/
def Channel.atPowerOn (lowered : Bool) (disc : Option DiscPos) : Channel :=
  { Channel.initial with
    state := if lowered then .lowered else .lowering
    disc := match disc with
      | some q => .resting q
      | none => .failed }

/-- The selector at power-on (R96). -/
def selectorAtPowerOn : Option SelPos → Selector
  | some p => .rest p
  | none => .failed .opened

/-- A pulse input found active at power-on went active at power-on: its pulse is judged by the width then in force, and one
accepted before is accepted anew (R19). -/
def PulseState.atPowerOn (width : Nat) : PulseState → PulseState
  | .inactive => .inactive
  | .active _ | .accepted => .active width

/-- The roof signal lines at power-on: their levels stand, and every pulse input is read anew, for the travel pulse by R19, and
for the arc pulses in the same way (DESIGN CHOICE, log 3). -/
def Lines.atPowerOn (x : Lines) : Lines :=
  let arc := fun p => (x.arcPulse.get p).atPowerOn Items.default.arcMinWidth
  { x with
    travelPulse := x.travelPulse.atPowerOn Items.default.pulseMinWidth
    arcPulse := ⟨arc .p1, arc .p2, arc .p3, arc .p4⟩ }

/-- Every block at its power-on values, read from the roof signal lines, before any fault is reported (R19, R64, R96). The
levels of the lines, the queue of events and the counter of open choices are not the block's to reset. -/
def powerOnValues (s : State) : State :=
  let c := fun p => Channel.atPowerOn (s.lines.lowered.get p) (s.lines.discFb.get p)
  { State.reset with
    lines := s.lines.atPowerOn
    pending := s.pending
    freeCount := s.freeCount
    pch := ⟨c .p1, c .p2, c .p3, c .p4⟩
    bsc := { Power.initial with
      breaker := if s.lines.breakerFb = .opened then .opened else .opening
      selector := selectorAtPowerOn s.lines.selectorFb } }

/-- The fault of a disconnector found at neither position (R64); notice PAN by section 11.2. Where several are found so, they are
reported from pantograph 1 to 4, an order that R64 does not give (DESIGN CHOICE, log 46). -/
def discFaultAtPowerOn (p : Pan) (s : State) : State :=
  match s.lines.discFb.get p with
  | some _ => s
  | none => notice .pan (reportFault .disconnectorFail (some p) none s)

/-- BSC's faults at power-on: a selector at no position, and an earthing switch found EARTHED (R96, R93). -/
def powerFaultsAtPowerOn (s : State) : State :=
  earthUnexpected (match s.lines.selectorFb with
    | some _ => s
    | none => reportFault .selectorFail none none s)

/-- Both PCH and BSC report a fault at power-on. -/
def bothFaultAtPowerOn (x : Lines) : Bool :=
  Pan.all.any (fun p => (x.discFb.get p).isNone) && (x.selectorFb.isNone || x.earthed)

/-- The faults of power-on; which of two blocks reaches NFU first is a free choice (R200, log 5), and the order of several
disconnectors is the model's (DESIGN CHOICE, log 46). -/
def powerOnFaults (s : State) : State :=
  if bothFaultAtPowerOn s.lines then
    let t := s.setFree (s.freeCount + 1)
    if Config.firstBlockReports s.freeCount then powerFaultsAtPowerOn (forPans discFaultAtPowerOn t)
    else forPans discFaultAtPowerOn (powerFaultsAtPowerOn t)
  else powerFaultsAtPowerOn (forPans discFaultAtPowerOn s)

/-- POWER_ON (R19, R36, R64, R77, R96, R119, R142, R160, R174, R192, R197, R199, R201). -/
def execPowerOn (s : State) : Result := .next (settle (powerOnFaults (powerOnValues s)))

end Sys2Proof.Machine
end

