-- ==== Sys2Proof/Machine/Dispatch.lean ====
section
/-! DEFINITION. One arm for each row of the opcode table, each a call of its meaning. -/

namespace Sys2Proof.Machine

def exec (i : Instr) (s : State) : Host.Outcome State Fault Refusal :=
  match i with
  | .powerOn => Sys2Proof.Machine.execPowerOn s
  | .nop l tag => Sys2Proof.Machine.execNop l tag s
  | .linkStatus l tag => Sys2Proof.Machine.execLinkStatus l tag s
  | .sync l tag => Sys2Proof.Machine.execSync l tag s
  | .travelRead l tag => Sys2Proof.Machine.execTravelRead l tag s
  | .positionFix l tag m => Sys2Proof.Machine.execPositionFix l tag m s
  | .setFormation l tag fA fB => Sys2Proof.Machine.execSetFormation l tag fA fB s
  | .lineRead l tag => Sys2Proof.Machine.execLineRead l tag s
  | .raise l tag pan role => Sys2Proof.Machine.execRaise l tag pan role s
  | .lower l tag pan => Sys2Proof.Machine.execLower l tag pan s
  | .discSet l tag pan pos => Sys2Proof.Machine.execDiscSet l tag pan pos s
  | .addReset l tag pan => Sys2Proof.Machine.execAddReset l tag pan s
  | .isolate l tag pan => Sys2Proof.Machine.execIsolate l tag pan s
  | .restore l tag pan => Sys2Proof.Machine.execRestore l tag pan s
  | .panRead l tag pan => Sys2Proof.Machine.execPanRead l tag pan s
  | .forceTableWrite l tag cls point force => Sys2Proof.Machine.execForceTableWrite l tag cls point force s
  | .forceTableWriteNext l tag force => Sys2Proof.Machine.execForceTableWriteNext l tag force s
  | .forceTableRead l tag cls point => Sys2Proof.Machine.execForceTableRead l tag cls point s
  | .forceTableReadNext l tag => Sys2Proof.Machine.execForceTableReadNext l tag s
  | .forceRead l tag pan => Sys2Proof.Machine.execForceRead l tag pan s
  | .breakerClose l tag => Sys2Proof.Machine.execBreakerClose l tag s
  | .breakerOpen l tag => Sys2Proof.Machine.execBreakerOpen l tag s
  | .select l tag pos => Sys2Proof.Machine.execSelect l tag pos s
  | .earthPermit l tag op => Sys2Proof.Machine.execEarthPermit l tag op s
  | .breakerRead l tag => Sys2Proof.Machine.execBreakerRead l tag s
  | .mapInsert l tag kind start length systemAfter swap panLimit => Sys2Proof.Machine.execMapInsert l tag kind start length systemAfter swap panLimit s
  | .mapDelete l tag id => Sys2Proof.Machine.execMapDelete l tag id s
  | .mapRead l tag index => Sys2Proof.Machine.execMapRead l tag index s
  | .mapReadNext l tag => Sys2Proof.Machine.execMapReadNext l tag s
  | .mapStatus l tag => Sys2Proof.Machine.execMapStatus l tag s
  | .roofReset l tag => Sys2Proof.Machine.execRoofReset l tag s
  | .seqRead l tag => Sys2Proof.Machine.execSeqRead l tag s
  | .iceMode l tag enable suspect confirmed permit => Sys2Proof.Machine.execIceMode l tag enable suspect confirmed permit s
  | .heat l tag pan op => Sys2Proof.Machine.execHeat l tag pan op s
  | .iceWeather l tag op => Sys2Proof.Machine.execIceWeather l tag op s
  | .iceRead l tag => Sys2Proof.Machine.execIceRead l tag s
  | .authRequest l tag => Sys2Proof.Machine.execAuthRequest l tag s
  | .authRelease l tag => Sys2Proof.Machine.execAuthRelease l tag s
  | .authRead l tag => Sys2Proof.Machine.execAuthRead l tag s
  | .lowerAll l tag => Sys2Proof.Machine.execLowerAll l tag s
  | .configWrite l tag item index value => Sys2Proof.Machine.execConfigWrite l tag item index value s
  | .configRead l tag item index => Sys2Proof.Machine.execConfigRead l tag item index s
  | .configCommit l tag => Sys2Proof.Machine.execConfigCommit l tag s
  | .configReopen l tag => Sys2Proof.Machine.execConfigReopen l tag s
  | .noticeRead l tag => Sys2Proof.Machine.execNoticeRead l tag s
  | .noticeClear l tag causes => Sys2Proof.Machine.execNoticeClear l tag causes s
  | .noticeEnable l tag causes => Sys2Proof.Machine.execNoticeEnable l tag causes s
  | .faultRead l tag => Sys2Proof.Machine.execFaultRead l tag s
  | .faultClear l tag => Sys2Proof.Machine.execFaultClear l tag s
  | .unknownCommand l tag code => Sys2Proof.Machine.execUnknownCommand l tag code s
  | .frameComplete l byte => Sys2Proof.Machine.execFrameComplete l byte s
  | .faultyByte l byte tail => Sys2Proof.Machine.execFaultyByte l byte tail s
  | .frameGapTimeout l => Sys2Proof.Machine.execFrameGapTimeout l s
  | .receiverIdle l => Sys2Proof.Machine.execReceiverIdle l s
  | .responseSent l => Sys2Proof.Machine.execResponseSent l s
  | .linkReset l => Sys2Proof.Machine.execLinkReset l s
  | .breakEnd l => Sys2Proof.Machine.execBreakEnd l s
  | .holdOffEnd l => Sys2Proof.Machine.execHoldOffEnd l s
  | .travelPulse dir x => Sys2Proof.Machine.execTravelPulse dir x s
  | .speedIntervalEnd => Sys2Proof.Machine.execSpeedIntervalEnd s
  | .lineSample x => Sys2Proof.Machine.execLineSample x s
  | .sampleLoss => Sys2Proof.Machine.execSampleLoss s
  | .contactSenseChange p active => Sys2Proof.Machine.execContactSenseChange p active s
  | .loweredLimitChange p active => Sys2Proof.Machine.execLoweredLimitChange p active s
  | .pressureSample p kPa => Sys2Proof.Machine.execPressureSample p kPa s
  | .pressureGap p => Sys2Proof.Machine.execPressureGap p s
  | .settleComplete p => Sys2Proof.Machine.execSettleComplete p s
  | .raiseTimeout p => Sys2Proof.Machine.execRaiseTimeout p s
  | .contactLost p => Sys2Proof.Machine.execContactLost p s
  | .lowerTimeout p => Sys2Proof.Machine.execLowerTimeout p s
  | .disconnectorFeedback p reading => Sys2Proof.Machine.execDisconnectorFeedback p reading s
  | .discMoveTimeout p => Sys2Proof.Machine.execDiscMoveTimeout p s
  | .breakerFeedback reading => Sys2Proof.Machine.execBreakerFeedback reading s
  | .breakerCloseTimeout => Sys2Proof.Machine.execBreakerCloseTimeout s
  | .breakerOpenTimeout => Sys2Proof.Machine.execBreakerOpenTimeout s
  | .lineLostWatchExpiry => Sys2Proof.Machine.execLineLostWatchExpiry s
  | .autoReclose => Sys2Proof.Machine.execAutoReclose s
  | .selectorFeedback reading => Sys2Proof.Machine.execSelectorFeedback reading s
  | .selectorMoveTimeout => Sys2Proof.Machine.execSelectorMoveTimeout s
  | .earthSwitchFeedback earthed => Sys2Proof.Machine.execEarthSwitchFeedback earthed s
  | .confirmLimitExpiry => Sys2Proof.Machine.execConfirmLimitExpiry s
  | .arcPulse p x => Sys2Proof.Machine.execArcPulse p x s
  | .arcBinEnd => Sys2Proof.Machine.execArcBinEnd s
  | .temperatureWord tenths => Sys2Proof.Machine.execTemperatureWord tenths s
  | .tempStale => Sys2Proof.Machine.execTempStale s
  | .tempSubstituteSample => Sys2Proof.Machine.execTempSubstituteSample s
  | .releaseTimerExpiry => Sys2Proof.Machine.execReleaseTimerExpiry s
  | .clearDwellExpiry => Sys2Proof.Machine.execClearDwellExpiry s
  | .heaterOnTimeLimit p => Sys2Proof.Machine.execHeaterOnTimeLimit p s
  | .heaterRestEnd p => Sys2Proof.Machine.execHeaterRestEnd p s
  | .supervisionLapse => Sys2Proof.Machine.execSupervisionLapse s
  | .byteReceived l byte => Sys2Proof.Machine.execByteReceived l byte s

end Sys2Proof.Machine
end

