-- ==== Sys2Proof/Machine/Tick.lean ====
section
/-! DEFINITION. The passage of 1 ms (R1, R2, R144; log 1): the clocks advance, and the rows of the time limits that are
then due enter the queue of events. The table has no row for it; it is what `step` does on an empty queue. -/

namespace Sys2Proof.Machine

/-- The clocks after 1 ms (R1, R2, R144). -/
def Clocks.advance (c : Clocks) : Clocks where
  time := c.time + 1
  speedClock := c.speedClock + 1
  binClock := c.binClock + 1
  total := c.total + 1

/-- An event in the queue where it is due. -/
def whenDue (due : Bool) (i : Instr) : List Instr := if due then [i] else []

/-- The end of a hold-off and a break, where they are due; where both are, either may be taken first (R190), which is a free
choice of Config. -/
def breakRows (s : State) (l : Link) : List Instr :=
  if s.holdOffDue l && s.breakDue l && Config.breakFirst s.clk.total then [.linkReset l, .holdOffEnd l]
  else whenDue (s.holdOffDue l) (.holdOffEnd l) ++ whenDue (s.breakDue l) (.linkReset l)

/-- The limits of a link that are due. -/
def linkRows (s : State) (l : Link) : List Instr :=
  whenDue (s.gapDue l) (.frameGapTimeout l) ++ whenDue (s.quietDue l) (.receiverIdle l) ++ breakRows s l

/-- A moving disconnector's line already reads the position sought (R52). -/
def State.discReads (s : State) (p : Pan) : Bool :=
  match (s.ch p).disc with
  | .moving q => s.lines.discFb.get p = some q
  | .resting _ | .failed => false

/-- The limits of a pantograph that are due, and the reading of its disconnector's line. -/
def panRows (s : State) (p : Pan) : List Instr :=
  whenDue (s.settleDue p) (.settleComplete p) ++ whenDue (s.raiseDue p) (.raiseTimeout p)
    ++ whenDue (s.contactDue p) (.contactLost p) ++ whenDue (s.pressureDue p) (.pressureGap p)
    ++ whenDue (s.lowerDue p) (.lowerTimeout p)
    ++ whenDue (s.discReads p) (.disconnectorFeedback p (s.lines.discFb.get p))
    ++ whenDue (s.discDue p) (.discMoveTimeout p)
    ++ whenDue (s.heaterOnDue p) (.heaterOnTimeLimit p) ++ whenDue (s.heaterRestDue p) (.heaterRestEnd p)

/-- The breaker's line already reads what an operation in progress waits for (R82). -/
def State.breakerReads (s : State) : Bool :=
  (s.bsc.breaker = .opening && s.lines.breakerFb = .opened) || (s.bsc.breaker = .closing && s.lines.breakerFb = .closed)

/-- The selector's line already reads the position a move seeks (R91). -/
def State.selectorReads (s : State) : Bool :=
  match s.bsc.selector with
  | .moving _ p => s.lines.selectorFb = some p
  | .rest _ | .failed _ => false

/-- The limits of the other blocks that are due, and the readings of BSC's lines. -/
def roofRows (s : State) : List Instr :=
  whenDue (Config.speedInterval ≤ s.clk.speedClock) .speedIntervalEnd
    ++ whenDue (Config.binLength ≤ s.clk.binClock) .arcBinEnd
    ++ whenDue s.lossDue .sampleLoss
    ++ whenDue s.breakerReads (.breakerFeedback s.lines.breakerFb)
    ++ whenDue s.closeDue .breakerCloseTimeout ++ whenDue s.openDue .breakerOpenTimeout
    ++ whenDue s.selectorReads (.selectorFeedback s.lines.selectorFb)
    ++ whenDue s.moveDue .selectorMoveTimeout
    ++ whenDue s.watchDue .lineLostWatchExpiry ++ whenDue s.recloseDue .autoReclose
    ++ whenDue s.confirmDue .confirmLimitExpiry
    ++ whenDue s.staleDue .tempStale ++ whenDue s.substituteDue .tempSubstituteSample
    ++ whenDue s.releaseDue .releaseTimerExpiry ++ whenDue s.dwellDue .clearDwellExpiry
    ++ whenDue s.lapseDue .supervisionLapse

/-- Every row that is due. -/
def dueRows (s : State) : List Instr :=
  linkRows s .a ++ linkRows s .b ++ linkRows s .m ++ panRows s .p1 ++ panRows s .p2 ++ panRows s .p3 ++ panRows s .p4
    ++ roofRows s

/-- 1 ms passes with no event waiting (log 1). -/
def tick (s : State) : State :=
  let t := s.modClk (·.advance)
  { t with pending := t.pending ++ dueRows t }

end Sys2Proof.Machine
end

