-- ==== Sys2Proof/Safety.lean ====
section
/-! DEFINITION. The words in which claims are made: the command a row offers, a link that takes at once, an answered
command, the conditions of the rules as the spec words them, what reactions leave alone (`State.still`), and the invariants of the
controller. -/

namespace Sys2Proof

/-- The link, the tag and the command that a command row offers (R180); none for an event. -/
def Instr.offered : Instr → Option (Link × Byte × Cmd)
  | .nop l tag => some (l, tag, .nop)
  | .linkStatus l tag => some (l, tag, .linkStatus)
  | .sync l tag => some (l, tag, .sync)
  | .travelRead l tag => some (l, tag, .travelRead)
  | .positionFix l tag m => some (l, tag, (.positionFix m))
  | .setFormation l tag fA fB => some (l, tag, (.setFormation fA fB))
  | .lineRead l tag => some (l, tag, .lineRead)
  | .raise l tag pan role => some (l, tag, (.raise pan role))
  | .lower l tag pan => some (l, tag, (.lower pan))
  | .discSet l tag pan pos => some (l, tag, (.discSet pan pos))
  | .addReset l tag pan => some (l, tag, (.addReset pan))
  | .isolate l tag pan => some (l, tag, (.isolate pan))
  | .restore l tag pan => some (l, tag, (.restore pan))
  | .panRead l tag pan => some (l, tag, (.panRead pan))
  | .forceTableWrite l tag cls point force => some (l, tag, (.forceTableWrite cls point force))
  | .forceTableWriteNext l tag force => some (l, tag, (.forceTableWriteNext force))
  | .forceTableRead l tag cls point => some (l, tag, (.forceTableRead cls point))
  | .forceTableReadNext l tag => some (l, tag, .forceTableReadNext)
  | .forceRead l tag pan => some (l, tag, (.forceRead pan))
  | .breakerClose l tag => some (l, tag, .breakerClose)
  | .breakerOpen l tag => some (l, tag, .breakerOpen)
  | .select l tag pos => some (l, tag, (.select pos))
  | .earthPermit l tag op => some (l, tag, (.earthPermit op))
  | .breakerRead l tag => some (l, tag, .breakerRead)
  | .mapInsert l tag kind start length systemAfter swap panLimit => some (l, tag, (.mapInsert kind start length systemAfter swap panLimit))
  | .mapDelete l tag id => some (l, tag, (.mapDelete id))
  | .mapRead l tag index => some (l, tag, (.mapRead index))
  | .mapReadNext l tag => some (l, tag, .mapReadNext)
  | .mapStatus l tag => some (l, tag, .mapStatus)
  | .roofReset l tag => some (l, tag, .roofReset)
  | .seqRead l tag => some (l, tag, .seqRead)
  | .iceMode l tag enable suspect confirmed permit => some (l, tag, (.iceMode enable suspect confirmed permit))
  | .heat l tag pan op => some (l, tag, (.heat pan op))
  | .iceWeather l tag op => some (l, tag, (.iceWeather op))
  | .iceRead l tag => some (l, tag, .iceRead)
  | .authRequest l tag => some (l, tag, .authRequest)
  | .authRelease l tag => some (l, tag, .authRelease)
  | .authRead l tag => some (l, tag, .authRead)
  | .lowerAll l tag => some (l, tag, .lowerAll)
  | .configWrite l tag item index value => some (l, tag, (.configWrite item index value))
  | .configRead l tag item index => some (l, tag, (.configRead item index))
  | .configCommit l tag => some (l, tag, .configCommit)
  | .configReopen l tag => some (l, tag, .configReopen)
  | .noticeRead l tag => some (l, tag, .noticeRead)
  | .noticeClear l tag causes => some (l, tag, (.noticeClear causes))
  | .noticeEnable l tag causes => some (l, tag, (.noticeEnable causes))
  | .faultRead l tag => some (l, tag, .faultRead)
  | .faultClear l tag => some (l, tag, .faultClear)
  | .unknownCommand l tag code => some (l, tag, (.unknown code))
  | .powerOn | .frameComplete _ _ | .faultyByte _ _ _ | .frameGapTimeout _ | .receiverIdle _ | .responseSent _
  | .linkReset _ | .breakEnd _ | .holdOffEnd _ | .travelPulse _ _ | .speedIntervalEnd | .lineSample _ | .sampleLoss
  | .contactSenseChange _ _ | .loweredLimitChange _ _ | .pressureSample _ _ | .pressureGap _ | .settleComplete _
  | .raiseTimeout _ | .contactLost _ | .lowerTimeout _ | .disconnectorFeedback _ _ | .discMoveTimeout _
  | .breakerFeedback _ | .breakerCloseTimeout | .breakerOpenTimeout | .lineLostWatchExpiry | .autoReclose
  | .selectorFeedback _ | .selectorMoveTimeout | .earthSwitchFeedback _ | .confirmLimitExpiry | .arcPulse _ _
  | .arcBinEnd | .temperatureWord _ | .tempStale | .tempSubstituteSample | .releaseTimerExpiry | .clearDwellExpiry
  | .heaterOnTimeLimit _ | .heaterRestEnd _ | .supervisionLapse | .byteReceived _ _ => none

end Sys2Proof

namespace Sys2Proof.Machine

/-! ### Links -/

/-- A link whose queue is empty and that neither awaits the sending of a response nor is blocked by a SYNC: it takes a
command at the event that offers it (R181). -/
abbrev State.free (s : State) (l : Link) : Prop := (s.lnk.get l).queue = [] ∧ (s.lnk.get l).canTake = true

/-- A command answered on a link: it is the last command taken, its response is handed to the transmitter, and the link
waits until that has been sent (R181, R182). -/
def State.answered (s : State) (l : Link) (tag code : Byte) (st : Status) (bytes : List Byte) : State :=
  s.modPort l fun q => { q with
    lastTaken := some code, tx := q.tx ++ [.response code tag st bytes], awaiting := true }

/-- A command answered ILLEGAL_SEQUENCE, which leaves the record of the last command taken (R181). -/
def State.answeredOutOfSequence (s : State) (l : Link) (tag code : Byte) : State :=
  s.modPort l fun q => { q with tx := q.tx ++ [.response code tag .illegalSequence []], awaiting := true }

/-- A state whose receive line of a link is at a level from now on, with the link changed by its receiver (R175, R178). -/
def State.hears (s : State) (l : Link) (x : Level) (f : Port → Port) : State :=
  { s.modPort l (fun q => f { q with rxAt := s.clk.time }) with
    lines := { s.lines with rx := s.lines.rx.set l x } }

/-- The pending bits of a list of causes (R198). -/
def causeBits (cs : List Notice) : BitVec 16 := cs.foldr (fun c b => c.bit ||| b) 0#16

/-- The links of `u` are those of `s`, with causes raised on each and nothing else changed (R198). Attention follows at the end of
the event. -/
def State.Raises (s u : State) (cs : Link → List Notice) : Prop :=
  ∀ k, u.lnk.get k = { s.lnk.get k with pend := (s.lnk.get k).pend ||| causeBits (cs k) }

/-- The links of `u` are those of `s` with a command answered on one of them, and with causes raised on each. -/
def State.Answers (s u : State) (l : Link) (tag code : Byte) (st : Status) (bytes : List Byte)
    (cs : Link → List Notice) : Prop :=
  (s.answered l tag code st bytes).Raises u cs

/-- A cause stands in every link's pending set (R198). -/
def State.Noticed (s : State) (c : Notice) : Prop := ∀ l, (s.lnk.get l).pend &&& c.bit = c.bit

/-! ### Checks -/

/-- The reason of the first condition that is not met; none where all are. -/
def FirstUnmet : List (Prop × Status) → Option Status → Prop
  | [], r => r = none
  | x :: rest, r => x.1 ∧ FirstUnmet rest r ∨ ¬ x.1 ∧ r = some x.2

/-- No entry is ACTIVE, else ENTRY_LOCKED (R171). -/
def State.notLocked (s : State) : Prop × Status := (∀ e ∈ s.map.entries, e.state ≠ .active, .entryLocked)

/-- The roof mode is not ROOF_SAFE, else ROOF_SAFE (R139). -/
def State.notSafe (s : State) : Prop × Status := (s.seq.mode ≠ .roofSafe, .roofSafe)

/-- The roof mode is not CONFIG_PENDING, else NOT_CONFIGURED. -/
def State.notPending (s : State) : Prop × Status := (s.seq.mode ≠ .configPending, .notConfigured)

/-! ### The map -/

/-- An entry as a staging leaves it (R106, R107): a SYSTEM_CHANGE takes its preferred pantograph where that one is configured and
eligible, of the class of the system after and LOWERED or raised, else its alternate likewise, else none with NO_TARGET; an
entry of another kind holds none and stands. -/
def State.staged (s : State) (e : Entry) : Entry :=
  match e.sect with
  | .systemChange y _ _ =>
    let eligible := fun p => decide (s.cfg.items.panClass.get p = y.cls ∧ ((s.ch p).state = .lowered ∨ (s.ch p).state.isRaised = true))
    let target :=
      if (s.cfg.items.panPreferred.get y).any eligible then s.cfg.items.panPreferred.get y
      else if (s.cfg.items.panAlternate.get y).any eligible then s.cfg.items.panAlternate.get y
      else none
    { e with target := target, noTarget := target.isNone }
  | .neutral _ | .lowerZone => e

/-- An entry where the front has moved and nothing has overrun it: an ARMED entry that the movement sends back returns to
PENDING without its target (R105), and a PENDING entry within the arm distance of the front arms, in NORMAL and in service,
with the target that a staging takes (R104, R106). -/
def State.moved (s : State) (back : Entry → Bool) (e : Entry) : Entry :=
  let d := if e.state = .armed ∧ back e = true then { e with state := .pending, target := none, noTarget := false } else e
  if d.state = .pending ∧ e.start * 1000 ≤ s.trv.front + s.cfg.items.armDistance * 1000 ∧ s.trv.direction = .normal
      ∧ s.seq.mode = .inService then
    s.staged { d with state := .armed }
  else d

/-- An entry is a system change, PENDING or ARMED, that a front overruns (R112). -/
def State.overrunsChange (s : State) (front : Nat) (e : Entry) : Bool :=
  (match e.sect with
    | .systemChange _ _ _ => true
    | .neutral _ | .lowerZone => false)
    && decide (e.state ≠ .active)
    && decide ((e.start + e.length) * 1000 + largestOffset s.trv.offsets s.usablePans + s.cfg.items.clearMargin * 1000
        ≤ front)

/-- A front overruns an entry (R112). -/
def State.Overruns (s : State) (front : Nat) (e : Entry) : Prop :=
  e.state ≠ .active
    ∧ (e.start + e.length) * 1000 + largestOffset s.trv.offsets s.usablePans + s.cfg.items.clearMargin * 1000 ≤ front

/-- From `s` to `u` the last removal is that of the last entry a front overruns, and stands where it overruns none (R103, R112). -/
def State.RemovedLast (s u : State) (front : Nat) : Prop :=
  (∀ before e after, s.map.entries = before ++ e :: after → s.Overruns front e → (∀ d ∈ after, ¬ s.Overruns front d) →
      u.map.lastRemoval = some ⟨e.id, e.sect, .overrun, s.clk.time, front / 1000⟩)
    ∧ ((∀ e ∈ s.map.entries, ¬ s.Overruns front e) → u.map.lastRemoval = s.map.lastRemoval)

/-- A front that removes overrun entries, where it tests for them, ends CLEARING too (R112, R126). -/
def State.ClearsOver (s : State) (front : Nat) (tests : Prop) : Prop :=
  tests ∧ (∃ e ∈ s.map.entries, s.Overruns front e)
    ∧ ∃ c, s.seq.ctx = some c ∧ c.stage = .clearing
      ∧ (c.entry.start + c.entry.length) * 1000 + c.clearing + s.cfg.items.clearMargin * 1000 ≤ front

/-- The sequence that ends with CLEARING where a front removes overrun entries and the roof is not live (R126, R127, R129, R130);
none where the front does not do both. -/
def State.EndsAtFront (s : State) (front : Nat) (tests : Prop) (gone : Option SeqCtx) : Prop :=
  gone = none ∧ ¬ s.ClearsOver front tests
    ∨ gone = s.seq.ctx ∧ s.ClearsOver front tests ∧ ∀ c, gone = some c → c.roofLive = false

/-- From `s` to `u` a sequence, where there is one, ends DONE, and the sequencer stands where there is none (R130, R141). -/
def State.EndsDone (s u : State) (gone : Option SeqCtx) : Prop :=
  (gone = none → u.seq = s.seq)
    ∧ ∀ c, gone = some c → u.seq.ctx = none ∧ u.seq.mode = s.seq.mode
      ∧ ∃ r, u.seq.last = some r ∧ r.id = c.entry.id ∧ r.result = .done ∧ r.time = s.clk.time ∧ r.retryUsed = c.retryUsed

/-! ### The configuration -/

/-- An item number of Table 11-1, with an index of that item's own set: 1 to 4 for the items of a channel or of a line system, and
0 for those of the roof (R194). -/
def ItemExists (item x : Nat) : Prop :=
  1 ≤ item ∧ item ≤ 30 ∧ if item ∈ [4, 7, 8, 9, 15, 16] then 1 ≤ x ∧ x ≤ 4 else x = 0

/-- The ranges of Table 11-1, from item 1 to item 30: the least and the greatest value (R194). -/
def itemRanges : List (Nat × Nat) :=
  [(10, 2000), (5, 500), (10000, 30000), (0, 30000), (1, 8), (1, 8), (1, 2), (0, 4), (0, 4), (3000, 30000), (2000, 20000),
   (200, 5000), (20, 200), (0, 60), (0, 200), (0, 1023), (100, 600), (1, 100), (200, 5000), (500, 10000), (50, 2000),
   (500, 8000), (0, 500), (0, 200), (500, 10000), (10, 1000), (1, 255), (0, 254), (2778, 55556), (200, 5000)]

/-- The configuration class admits its commands: in CONFIG_PENDING, and of a quiescent roof (R193). -/
def State.Configures (s : State) : Prop := s.seq.mode = .configPending ∨ s.quiescent = true

/-- Check 1 of CONFIG_COMMIT: every point of both force tables lies in 40 to 200 N (R195). -/
def PointsPass (tables : PerClass (List Nat)) : Prop := ∀ f, f ∈ tables.ac ∨ f ∈ tables.dc → 40 ≤ f ∧ f ≤ 200

/-- Check 2 of CONFIG_COMMIT for one channel: its position lies on the car (R195). -/
def PositionPasses (it : Items) (p : Pan) : Prop := it.panPosition.get p ≤ it.carLength

/-- Check 3 of CONFIG_COMMIT for one line system: its preferred and its alternate pantograph are of its class (R195). -/
def TargetsPass (it : Items) (y : LineSys) : Prop :=
  ∀ p, it.panPreferred.get y = some p ∨ it.panAlternate.get y = some p → it.panClass.get p = y.cls

/-- The three checks of CONFIG_COMMIT pass (R195). -/
def ChecksPass (it : Items) (tables : PerClass (List Nat)) : Prop :=
  PointsPass tables ∧ (∀ p, PositionPasses it p) ∧ ∀ y, TargetsPass it y

/-- What the report of a CONFIG_COMMIT that fails records: the first check that fails (R195), and for checks 2 and 3 the failing
channel or line system of the lowest number (log 27). -/
def FirstFailed (it : Items) (tables : PerClass (List Nat)) : CommitReport → Prop
  | .success => False
  | .points => ¬ PointsPass tables
  | .position p => PointsPass tables ∧ ¬ PositionPasses it p ∧ ∀ q : Pan, q.num < p.num → PositionPasses it q
  | .target y =>
    PointsPass tables ∧ (∀ p, PositionPasses it p) ∧ ¬ TargetsPass it y
      ∧ ∀ z, LineSys.num z < LineSys.num y → TargetsPass it z

/-! ### The line detector -/

/-- From `d` to `e` the period tracker takes a sample, and the periods of the window, the least and the greatest become those
given (R22, R23). A rising crossing, a sample at or above the reference by the band with LOW_SEEN set, ends a period where a
count runs and has not reached its limit, and starts the count afresh; every other sample counts, and sets LOW_SEEN where it lies
at or below the reference by the band. -/
def Detector.Tracks (d e : Detector) (x : Int) (periods : Nat) (pMin pMax : Option Nat) : Prop :=
  (d.lowSeen = true ∧ d.mRef + 500 ≤ x →
      e.lastCross = some 0 ∧ e.lowSeen = false
      ∧ (∀ n, d.lastCross = some n → n + 1 ≠ 1023 →
          periods = d.win.periods + 1 ∧ pMin = some (min (d.win.pMin.getD (n + 1)) (n + 1))
          ∧ pMax = some (max (d.win.pMax.getD (n + 1)) (n + 1)))
      ∧ (d.lastCross = none ∨ d.lastCross = some 1022 →
          periods = d.win.periods ∧ pMin = d.win.pMin ∧ pMax = d.win.pMax))
    ∧ (¬ (d.lowSeen = true ∧ d.mRef + 500 ≤ x) →
        e.lastCross = (match d.lastCross with
          | some n => if n + 1 = 1023 then none else some (n + 1)
          | none => none)
        ∧ e.lowSeen = (d.lowSeen || decide (x ≤ d.mRef - 500))
        ∧ periods = d.win.periods ∧ pMin = d.win.pMin ∧ pMax = d.win.pMax)

/-! ### The force regulator -/

/-- A force lies on a profile table at a speed in whole km/h (R71): the last point from 320 km/h up, and below it the point of
the segment that the speed lies in, with its share of the way to the next point, rounded toward it. -/
def OnProfile (t : List Nat) (kmh f : Nat) : Prop :=
  (320 ≤ kmh → f = t.getD 8 0)
    ∧ (kmh < 320 → ∀ i a b, i = kmh / 40 → a = t.getD i 0 → b = t.getD (i + 1) 0 →
        (a ≤ b → f = a + (b - a) * (kmh - 40 * i) / 40) ∧ (b < a → f = a - (a - b) * (kmh - 40 * i) / 40))

/-- The force setpoint of a pantograph in a role at a speed in mm/s (R70 to R72): the speed in km/h is rounded half up, the
scrape bonus is added for role SCRAPE, and the sum is clamped to 40 to 200 N. -/
def State.SetpointAt (s : State) (p : Pan) (role : Option Duty) (v force : Nat) : Prop :=
  ∃ f, OnProfile (s.cfg.tables.get (s.cfg.items.panClass.get p)) ((v * 36 + 5000) / 10000) f
    ∧ force = max 40 (min 200 (if role = some .scrape then f + s.cfg.items.scrapeBonus else f))

/-! ### Raising -/

/-- Table 3-4: the raise conditions of a role in the order of their tests, each with the reason where it is not met (R54). -/
def State.raiseTable (s : State) (p : Pan) (d : Duty) : List (Prop × Status) :=
  [(s.seq.mode ≠ .configPending, .notConfigured),
   (s.seq.mode ≠ .roofSafe, .roofSafe),
   ((s.ch p).state = .lowered, .panUnavailable),
   ((s.ch p).disc = .resting (match d with
      | .collecting => .connected
      | .scrape => .disconnected), .interlock),
   (d = .collecting → ∃ y, s.bsc.selector = .rest (.sys y) ∧ y.cls = s.cfg.items.panClass.get p, .interlock),
   (d = .collecting → ∀ q, ¬ ((s.ch q).state.isRaised = true ∧ (s.ch q).role = some .collecting), .panLimit),
   (d = .scrape → ∃ q, (s.ch q).state = .raised ∧ (s.ch q).role = some .collecting, .interlock),
   ((Pan.all.filter fun q => (s.ch q).state.isRaised).length < 2, .panLimit),
   (s.lines.earthed = false ∧ s.bsc.permit = false, .interlock),
   (∀ e ∈ s.map.entries, e.sect = .lowerZone ∨ e.state = .active →
      ¬ (e.start * 1000 ≤ s.trv.front ∧ s.trv.front < (e.start + e.length) * 1000), .routeInhibit)]

/-- A channel granted a raise in a role (R39, R40). -/
def State.granted (s : State) (p : Pan) (d : Duty) (c : Channel) : Channel :=
  { c with
    state := if s.lines.contact.get p then .settling else .raising
    role := some d, raiseWaiting := false, lowerReq := false
    raiseStart := s.clk.time, raiseLen := s.cfg.items.raiseLimit, settle := none, loss := none, below := 0
    sampleAt := s.clk.time }

/-- From `s` to `u` FREG starts to regulate a pantograph in a role (R69 to R73): its commanded pressure starts from 0 toward the
target of the present speed. -/
def State.StartsForce (s u : State) (p : Pan) (d : Duty) : Prop :=
  (u.freg.get p).pCmd = 0 ∧ s.SetpointAt p (some d) s.trv.speed (u.freg.get p).force
    ∧ (u.freg.get p).target = some (min s.cfg.items.pMax
        (s.cfg.items.calOffset.get p + (u.freg.get p).force * s.cfg.items.calGain.get p / 256))

/-! ### The arbiter and lowering -/

/-- A source has priority over another (R56): SEQUENCER over AUTHORITY and ICE, AUTHORITY over ICE. -/
def Source.Outranks (a b : Source) : Prop := a = .sequencer ∧ b ≠ .sequencer ∨ (∃ l, a = .authority l) ∧ b = .ice

/-- A channel that a request of a source takes, before the request stands in it (R56): the operation in place ends with the
waiting flags, without a result where it is of the request's own source, and else ABORTED. -/
def Channel.freedFor (c : Channel) (src : Source) : Channel :=
  match c.job with
  | none => c
  | some j =>
    { c with
      job := none, raiseWaiting := false, lowerReq := false
      lastResult := if j.source = src then c.lastResult else some ⟨j.source, j.op, .aborted⟩ }

/-- The notice of an operation that a request of a source ends ABORTED (R57). -/
def Channel.preemptedBy (c : Channel) (src : Source) : List Notice :=
  match c.job with
  | none => []
  | some j => if j.source = src then [] else [.pan]

/-- The reports to the originators of an operation that ends with an outcome, which SEQ and ICE receive (R57). -/
def outcomeReports (p : Pan) (j : Job) (out : OpOutcome) : List Report :=
  match j.source with
  | .authority _ => []
  | .sequencer | .ice => [.opEnded p j.source j.op out]

/-- The long operations without those of the operation in place of a channel (R186). -/
def State.longFreed (s : State) (p : Pan) : List LongOp :=
  s.longOps.filter fun o =>
    match (s.ch p).job with
    | none => true
    | some ⟨_, .raise _⟩ => decide (o.kind ≠ .raise p ∧ o.kind ≠ .joined p)
    | some ⟨_, .lower⟩ => decide (o.kind ≠ .lower p)
    | some ⟨_, .discMove _⟩ => decide (o.kind ≠ .disc p)

/-- The long operations where the operation in place of a channel has given way to one of a link (R56, R186). -/
def State.longTaken (s : State) (p : Pan) (l : Link) (k : LongKind) : List LongOp := s.longFreed p ++ [⟨l, k, false⟩]

/-- From `s` to `u` an operation in place of a pantograph ends where a source takes it, with the reports it owes (R56, R57). -/
def State.ReportsPreempted (s u : State) (p : Pan) (src : Source) : Prop :=
  u.reports = s.reports ++ match (s.ch p).job with
    | none => []
    | some j => if j.source = src then [] else outcomeReports p j .aborted

/-- From `s` to `u` no pantograph but one changes. -/
def State.OthersStand (s u : State) (p : Pan) : Prop := ∀ q, q ≠ p → u.ch q = s.ch q ∧ u.freg.get q = s.freg.get q

/-- A channel with the LOWER of a source in place that enters LOWERING, and LOWERED with the LOWER DONE where its lowered limit
is active already (R45). -/
def State.lowers (s : State) (p : Pan) (src : Source) (c : Channel) : Channel :=
  let d := { c with
    settle := none, loss := none, below := 0, lowerReq := false
    lowerStart := s.clk.total, lowerLen := s.cfg.items.lowerLimit, lowerFired := false }
  if s.lines.lowered.get p then
    { d with state := .lowered, role := none, job := none, raiseWaiting := false, lastResult := some ⟨src, .lower, .done⟩ }
  else { d with state := .lowering, job := some ⟨src, .lower⟩ }

/-- From `s` to `u` a pantograph that goes down is regulated no longer (R75), and its arc bins are cleared where it is LOWERED
already (R45, R144). -/
def State.StopsOnLowering (s u : State) (p : Pan) : Prop :=
  u.freg.get p = { s.freg.get p with pCmd := 0, target := none }
    ∧ u.ice = { s.ice with arcs := if s.lines.lowered.get p then s.ice.arcs.set p .empty else s.ice.arcs }

/-- Every pantograph is LOWERED, ISOLATED, or DROPPED with its lowered limit active (R61, R140, R172). -/
def State.StandsDown (s : State) : Prop :=
  ∀ p, (s.ch p).state = .lowered ∨ (s.ch p).state = .isolated ∨ (s.ch p).state = .dropped ∧ s.lines.lowered.get p = true

/-! ### The line, the breaker and the selector -/

/-- The front lies in the protected zone of an entry (R86). -/
def State.InProtectedZone (s : State) (e : Entry) : Prop :=
  ((e.start * 1000 : Nat) : Int)
        - (s.trv.speed * (s.cfg.items.openTime + s.cfg.items.lowerAllowTime) / 1000 : Nat)
        - (s.cfg.items.approachMargin * 1000 : Nat) ≤ s.trv.front
    ∧ s.trv.front < (e.start + e.length) * 1000 + largestOffset s.trv.offsets s.usablePans + s.cfg.items.clearMargin * 1000

/-- A COLLECTING pantograph is RAISED, in service and with no entry ACTIVE (R86, R88). -/
def State.CollectsFreely (s : State) : Prop :=
  (∃ p, (s.ch p).state = .raised ∧ (s.ch p).role = some .collecting) ∧ s.seq.mode = .inService
    ∧ ∀ e ∈ s.map.entries, e.state ≠ .active

/-- The conditions of the line-lost watch (R86). -/
def State.WatchRuns (s : State) : Prop :=
  s.ldet.detected = .raw .dead ∧ s.bsc.traction = true ∧ s.CollectsFreely ∧ ∀ e ∈ s.map.entries, ¬ s.InProtectedZone e

/-- The conditions of the reclose timer (R88). -/
def State.RecloseRuns (s : State) : Prop :=
  s.bsc.reclose = true ∧ s.bsc.traction = true ∧ s.bsc.breaker = .opened ∧ s.CollectsFreely
    ∧ ∃ y, s.bsc.selector = .rest (.sys y) ∧ s.ldet.detected = .raw (.sys y)

/-- A detected system is a mismatch with the selector (R85). -/
def State.Mismatch (s : State) (d : Detected) : Prop :=
  (∀ e ∈ s.map.entries, e.state ≠ .active)
    ∧ ∃ y, s.bsc.selector = .rest (.sys y) ∧ (d = .raw .unclassified ∨ ∃ z, z ≠ y ∧ d = .raw (.sys z))

/-- The conditions of R90 under which a move from one position to another goes on: the breaker reads OPEN, and, unless both are
system positions of one class, every CONNECTED pantograph is LOWERED. -/
def State.MoveGoesOn (s : State) (left : Option SelPos) (sought : SelPos) : Prop :=
  s.bsc.breaker = .opened
    ∧ ((∃ y z, left = some (.sys y) ∧ sought = .sys z ∧ y.cls = z.cls)
      ∨ ∀ p, (s.ch p).disc = .resting .connected → (s.ch p).state = .lowered)

/-! ### Sequences -/

/-- From `s` to `u` the sequence of a context ends: the context is released, its entry leaves the map with a reason, and the
last-sequence record names it with its result (R103, R130, R133, R141). -/
def State.SequenceEnds (s u : State) (c : SeqCtx) (why : RemovalReason) (result : SeqResult) : Prop :=
  u.seq.ctx = none ∧ u.map.entries = s.map.entries.filter (fun d => d.id ≠ c.entry.id)
    ∧ u.map.lastRemoval = some ⟨c.entry.id, c.entry.sect, why, s.clk.time, s.trv.front / 1000⟩
    ∧ (∃ r, u.seq.last = some r ∧ r.id = c.entry.id ∧ r.result = result ∧ r.time = s.clk.time
        ∧ r.retryUsed = c.retryUsed)
    ∧ u.Noticed .entry ∧ u.pch = s.pch ∧ u.bsc = s.bsc ∧ u.seq.mode = s.seq.mode

/-- From `s` to `u` the stage of a context fails: RECOVERING with the failure recorded, SEQ_FAILED in an empty fault record
unless SYSTEM_MISMATCH came before it, an open request that keeps traction-wanted, and a lower of what the sequence raised
(R132). -/
def State.StageFails (s u : State) (c : SeqCtx) (r : Reason) (pan : Option Pan) : Prop :=
  u.seq.ctx = some { c with
      failure := some ⟨r, c.stage, pan⟩, stage := .recovering, stageStart := s.clk.total, step := .start }
    ∧ u.Noticed .entry ∧ u.bsc.traction = s.bsc.traction
    ∧ (s.bsc.breaker = .closed ∨ s.bsc.breaker = .closing → u.bsc.breaker = .opening)
    ∧ (s.fault = none → r ≠ .fault .systemMismatch →
        ∃ f, u.fault = some f ∧ f.kind = .seqFailed ∧ f.pan = pan ∧ f.entry = some c.entry.id)
    ∧ (∀ p, c.raised.get p = true → (s.ch p).state.isRaised = true →
        (u.ch p).lowerReq = true ∨ (u.ch p).state.isRaised = false)
    ∧ (∀ p, c.raised.get p = false → s.seqRaiseWaits p = false → u.ch p = s.ch p)

/-- A pantograph can be raised in place of one that failed (R128). -/
def State.RetryFits (s : State) (y : LineSys) (failed q : Pan) : Prop :=
  q ≠ failed ∧ s.cfg.items.panClass.get q = y.cls
    ∧ ((s.ch q).state = .lowered ∨ (s.ch q).state = .lowering
      ∨ (s.ch q).state.isRaised = true ∧ (s.ch q).role = some .scrape)

/-- The retry pantograph for a system after a failure (R128): PAN_PREFERRED where it fits, and else PAN_ALTERNATE where it does.
Where one of them has failed, that is the other member of the pair. -/
def State.RetriesWith (s : State) (y : LineSys) (failed q : Pan) : Prop :=
  s.RetryFits y failed q
    ∧ (s.cfg.items.panPreferred.get y = some q
      ∨ s.cfg.items.panAlternate.get y = some q ∧ ∀ d, s.cfg.items.panPreferred.get y = some d → ¬ s.RetryFits y failed d)

/-! ### The ice monitor -/

/-- A pantograph has an ice demand (R151); only a SYSTEM_CHANGE entry holds a target (R106). -/
def State.IceDemands (s : State) (p : Pan) : Prop :=
  (s.ice.state = .suspect ∧ s.ice.susResp = .heat
      ∨ s.ice.state = .confirmed ∧ (s.ice.confResp = .heat ∨ s.ice.confResp = .heatAndScrape))
    ∧ ((s.ch p).state.isRaised = true ∧ ((s.ch p).role = some .collecting ∨ (s.ch p).role = some .scrape)
        ∨ ∃ e ∈ s.map.entries, (e.state = .armed ∨ e.state = .active) ∧ e.target = some p)

/-- The collector of R149: role COLLECTING, in SETTLING or RAISED. -/
def State.IceCollects (s : State) (p : Pan) : Prop :=
  ((s.ch p).state = .settling ∨ (s.ch p).state = .raised) ∧ (s.ch p).role = some .collecting

/-- From `s` to `u` the ice state becomes another by Table 8-3 (R148). -/
def State.IceGoes (s u : State) (y : IceState) : Prop :=
  u.ice = { s.ice with
      state := y, clearDwell := none
      noPanReported := if y = .confirmed then false else s.ice.noPanReported
      failedSet := if s.ice.state = .confirmed then .all false else s.ice.failedSet }
    ∧ u.iceEval = true
    ∧ s.Raises u (fun _ => if y ≠ .confirmed ∧ s.ice.state ≠ .confirmed ∧ s.ice.susResp = .nothing then [] else [.ice])
    ∧ { u with ice := s.ice, lnk := s.lnk, iceEval := s.iceEval } = s

/-- Scraping is wanted (R154). -/
def State.ScrapeWanted (s : State) : Prop :=
  s.ice.state = .confirmed ∧ s.ice.confResp = .heatAndScrape ∧ s.ice.permit = true ∧ s.seq.mode = .inService
    ∧ s.ice.block = none

/-- A pantograph stands ahead of another in the ordering of R13. -/
def State.StandsAhead (s : State) (p q : Pan) : Prop :=
  s.trv.offsets.get p < s.trv.offsets.get q ∨ s.trv.offsets.get p = s.trv.offsets.get q ∧ p.num < q.num

/-- The one pantograph that is RAISED with role COLLECTING: C of R154. -/
def State.CollectsAlone (s : State) (c : Pan) : Prop :=
  ∀ d, (s.ch d).state = .raised ∧ (s.ch d).role = some .collecting ↔ d = c

/-- A candidate to scrape ahead of C (R154). -/
def State.ScrapeCandidate (s : State) (c p : Pan) : Prop :=
  s.cfg.items.panClass.get p = s.cfg.items.panClass.get c ∧ s.StandsAhead p c ∧ (s.ch p).state = .lowered
    ∧ s.ice.failedSet.get p = false

/-- The roof has no scrape pantograph (R154): scraping is wanted with C RAISED, and every pantograph of C's class ahead of C is
DROPPED, ISOLATED or in the failed set. -/
def State.NoScraper (s : State) (c : Pan) : Prop :=
  s.ScrapeWanted ∧ ∀ p, s.cfg.items.panClass.get p = s.cfg.items.panClass.get c → s.StandsAhead p c →
    (s.ch p).state = .dropped ∨ (s.ch p).state = .isolated ∨ s.ice.failedSet.get p = true

/-- The front lies inside an exclusion span of a pantograph (R155). -/
def State.InExclusion (s : State) (p : Pan) : Prop :=
  ∃ e ∈ s.map.entries, e.sect.panLimit = some 1
    ∧ ((e.start * 1000 + s.trv.offsets.get p : Nat) : Int) - (s.trv.speed * s.cfg.items.lowerAllowTime / 1000 : Nat)
        - (s.cfg.items.approachMargin * 1000 : Nat) ≤ s.trv.front
    ∧ s.trv.front < (e.start + e.length) * 1000 + s.trv.offsets.get p + s.cfg.items.clearMargin * 1000

/-! ### What reactions leave alone -/

/-- A link without what a block hands it: frames, pending causes and its attention. -/
def Port.still (q : Port) : Port := { q with tx := [], pend := 0, attention := false }

/-- The travel counter without its settings and its direction state. -/
def Travel.still (t : Travel) : Travel :=
  { t with revRun := 0, fwdRun := 0, direction := .normal, fA := 0, fB := 0, offsets := .all 0 }

/-- The temperature and the weather flag of ICE, the rest at its power-on values. -/
def Ice.still (i : Ice) : Ice :=
  { Ice.initial with
    tempState := i.tempState, temp := i.temp, tempAt := i.tempAt, subAt := i.subAt, run := i.run, weather := i.weather }

/-- What no reaction of the blocks changes, the rest at its power-on values: the clocks, the input lines, the
configuration, the odometer and the speed, the line detector, the id counter of the map, the temperature, each link's
receiver, queue, cursor, flags, hold-off and enable set, the count of open choices and the queue of events. -/
def State.still (s : State) : State :=
  { State.reset with
    clk := s.clk
    lines := s.lines
    cfg := s.cfg
    trv := s.trv.still
    ldet := s.ldet
    map := { RouteMap.initial with nextId := s.map.nextId }
    ice := s.ice.still
    lnk := ⟨s.lnk.a.still, s.lnk.b.still, s.lnk.m.still⟩
    freeCount := s.freeCount
    pending := s.pending }

/-- The link of a command is free and holds the roof authority (R169, R181). -/
abbrev State.commands (s : State) (l : Link) : Prop := s.free l ∧ s.auth.holder = some l

/-! ### Invariants -/

/-- Every link's attention is ON exactly while an enabled cause is pending (R198). -/
def State.Attended (s : State) : Prop := ∀ l, (s.lnk.get l).attention = (s.lnk.get l).wantsAttention

/-- No frame waits on a link that could take one (R181), and no queue holds more than four (R180). -/
def State.QueuesServed (s : State) : Prop :=
  ∀ l, (s.lnk.get l).queue.length ≤ Config.queueLength ∧ ((s.lnk.get l).queue ≠ [] → (s.lnk.get l).canTake = false)

/-- An entry's span, as MAP orders it: its id, its start and its length. -/
abbrev Span := Nat × Nat × Nat

/-- The spans of the map, in its order. -/
def State.spans (s : State) : List Span := s.map.entries.map fun e => (e.id, e.start, e.length)

/-- One span ends before, or where, another begins, and it begins before it (R98). -/
def Span.before (a b : Span) : Prop := a.2.1 < b.2.1 ∧ a.2.1 + a.2.2 ≤ b.2.1

/-- The map is in order (R98, R99): at most 64 entries in strictly ascending start, no two overlapping, no id twice, every
id and the id counter in 1 to 65 535, and no span empty (R100). -/
def State.MapOrdered (s : State) : Prop :=
  s.spans.length ≤ Config.mapCapacity ∧ s.spans.Pairwise Span.before ∧ (s.spans.map (·.1)).Nodup
    ∧ (∀ x ∈ s.spans, 1 ≤ x.1 ∧ x.1 ≤ Config.idMax ∧ 1 ≤ x.2.2) ∧ 1 ≤ s.map.nextId ∧ s.map.nextId ≤ Config.idMax

/-- At most two pantographs are raised, and at most one of them with role COLLECTING (Table 3-4, conditions 5 and 7). -/
def State.RaiseLimits (s : State) : Prop :=
  s.raisedPans.length ≤ 2 ∧ (s.raisedPans.filter fun p => (s.ch p).role = some .collecting).length ≤ 1

/-- The odometer, the history, the speed and the two runs of TRV lie in their ranges (R5, R6, R8). -/
def Travel.Bounded (t : Travel) : Prop :=
  t.front ≤ Config.frontMax ∧ t.history.length = 5 ∧ t.speed ≤ Config.speedMax ∧ t.fwdRun ≤ Config.runMax
    ∧ t.revRun ≤ Config.runMax

/-- The samples of a window, the last crossing and the confirmation count of LDET lie in their ranges (R21, R22, R29). -/
def Detector.Bounded (d : Detector) : Prop :=
  d.win.n < Config.windowLength ∧ (∀ c ∈ d.lastCross, c < Config.crossLimit) ∧ d.count ≤ 255

/-- Every item of Table 11-1 lies in its range (R194). -/
def Items.Bounded (i : Items) : Prop :=
  ∀ item x slot, slotOf item x = some slot → slot.lo ≤ slot.read i ∧ slot.read i ≤ slot.hi

/-- A force of a table: 0 where none has been written, else 40 to 200 N (R65, R66). -/
def PointBounded (f : Nat) : Prop := f = 0 ∨ Config.forceMin ≤ f ∧ f ≤ Config.forceMax

/-- The two force tables hold nine points each, every force and every item in its range (R65, R66, R194). -/
def Store.Bounded (c : Store) : Prop :=
  c.items.Bounded ∧ c.tables.ac.length = 9 ∧ c.tables.dc.length = 9
    ∧ (∀ f ∈ c.tables.ac, PointBounded f) ∧ ∀ f ∈ c.tables.dc, PointBounded f

/-- A ring of arc bins holds nine completed bins and a current one of at most 65 535 (R144). -/
def ArcRing.Bounded (r : ArcRing) : Prop := r.completed.length = 9 ∧ r.current ≤ Config.binMax

/-- These values lie in the ranges the rules give them: the odometer, the history, the speed and the runs (R5, R6, R8); the
counts of the detector (R21, R22, R29); the items and the force tables (R65, R66, R194); the force setpoints (R72); the arc bins
(R144); and the in-band run (R146). -/
structure State.Bounded (s : State) : Prop where
  travel : s.trv.Bounded
  detector : s.ldet.Bounded
  tables : s.cfg.Bounded
  forces : ∀ p, Config.forceMin ≤ (s.freg.get p).force ∧ (s.freg.get p).force ≤ Config.forceMax
  rings : ∀ p, (s.ice.arcs.get p).Bounded
  level1 : s.ice.run ≤ Config.runLevel1

end Sys2Proof.Machine
end

