-- ==== Sys2Proof/Certificates/Slice0/Obligations.lean ====
section
/-! DEFINITION. The statements for the provers. `u` is the state that an event leaves before the reactions of the other
blocks at the same event, which `settle` makes; `t` is the state after the event. A frame is written as `u` with the fields
that the event may change put back, which is then the state before. -/

open Sys2Proof Sys2Proof.Machine

/-! ### Steps -/

/-- The command at the front of the queue is taken whole, with the queue's rest. With no event waiting, 1 ms passes: the
clocks advance (R1, R2, R144), the rows that are then due are queued, and nothing else changes; the tick on an empty queue is
the model's choice (log 1). -/
def Obligations.StepTakesTheFront : Prop :=
  ∀ s : State,
    (∀ (c : Instr) (rest : List Instr), s.pending = c :: rest → step s = exec c { s with pending := rest })
    ∧ (s.pending = [] →
        ∃ t, step s = .next t ∧ t.clk.time = s.clk.time + 1 ∧ t.clk.speedClock = s.clk.speedClock + 1
          ∧ t.clk.binClock = s.clk.binClock + 1 ∧ t.pending = dueRows { s with clk := t.clk }
          ∧ { t with clk := s.clk, pending := s.pending } = s)

/-! ### Frames -/

/-- The code and the operand bytes of a command carry that command and no other (R176, R183, R184). -/
def Obligations.OperandBytesCarryTheCommand : Prop :=
  ∀ c : Cmd, c.wf = true → (∀ code, c ≠ .badLength code) → Cmd.ofFrame c.code c.operands = c

/-- The last byte of the frame of a command, after the bytes before it, offers that command with its tag (R176 to R178,
R180). -/
def Obligations.FrameOffersItsCommand : Prop :=
  ∀ (l : Link) (tag : Byte) (c : Cmd) (bytes : List Byte) (last : Byte) (s : State),
    c.wf = true → (∀ code, c ≠ .badLength code) → (s.lnk.get l).inBreak = false →
    (s.lnk.get l).rx = .receiving bytes → commandFrame tag c = 0xC3 :: (bytes ++ [last]) →
    exec (.frameComplete l last) s =
      .next (offer l tag c (s.hears l .mark fun q => { q with rx := .idle }))

/-- Bytes received without error: the header opens a frame, a byte that does not end the frame joins it, SKIPPING passes
over it, and a line held in a recognised break brings none (R178, R190). -/
def Obligations.BytesBuildAFrame : Prop :=
  ∀ (l : Link) (b : Byte) (s : State),
    ((s.lnk.get l).inBreak = true → exec (.byteReceived l b) s = .next s)
    ∧ ((s.lnk.get l).inBreak = false → (s.lnk.get l).rx = .idle → b = 0xC3 →
        exec (.byteReceived l b) s = .next (s.hears l .mark fun q => { q with rx := .receiving [] }))
    ∧ (∀ bytes, (s.lnk.get l).inBreak = false → (s.lnk.get l).rx = .receiving bytes →
        (bytes = [] → 2 ≤ b.toNat ∧ b.toNat ≤ 60) → frameWhole (bytes ++ [b]) = false →
        exec (.byteReceived l b) s = .next (s.hears l .mark fun q => { q with rx := .receiving (bytes ++ [b]) }))
    ∧ ((s.lnk.get l).inBreak = false → (s.lnk.get l).rx = .skipping →
        exec (.byteReceived l b) s = .next (s.hears l .mark fun q => q))

/-- A byte is sent as a start bit at space, its data bits, a parity bit that makes the number of ones even, and a stop bit at
mark, and the receiver reads that byte from these levels without error; the transmit line is at mark where nothing is sent and
after a frame (R175). That a one is carried at mark is the model's (log 34). A received byte whose parity bit breaks the count,
or whose stop bit is at space, sets BYTE_ERROR, or no flag in SKIPPING; a stray byte in IDLE and a length byte out of range
set FORMAT_ERROR; each leaves the receiver in SKIPPING. A whole frame whose CRC fails sets CRC_ERROR and goes to IDLE. Each flag
raises LINK on that link alone (R178, R179). -/
def Obligations.FaultyBytesAreFlagged : Prop :=
  (∀ b : Byte,
    byteLevels b = .space :: (dataBits b).map bitLevel ++ [bitLevel (parityBit b), .mark]
    ∧ (∀ k < 8, (dataBits b)[k]? = some (b.getLsbD k)) ∧ ((dataBits b ++ [parityBit b]).count true) % 2 = 0
    ∧ readByte (byteLevels b) = some (b, ⟨parityBit b, .mark⟩))
  ∧ (∀ (l : Link) (n : Nat) (s : State),
    ((s.lnk.get l).tx = [] → s.txLine l n = .mark)
    ∧ ∀ f rest, (s.lnk.get l).tx = f :: rest → 11 * (txBytes f).length ≤ n → s.txLine l n = .mark)
  ∧ ∀ (l : Link) (b : Byte) (s : State), (s.lnk.get l).inBreak = false →
    (∀ x : ByteTail, x.parity ≠ parityBit b ∨ x.stop = .space →
        ((s.lnk.get l).rx ≠ .skipping →
          exec (.faultyByte l b x) s = .next (attend (s.hears l x.stop fun q =>
            { q with rx := .skipping, flags := { q.flags with byte := true }, pend := q.pend ||| 0x1000#16 })))
        ∧ ((s.lnk.get l).rx = .skipping → exec (.faultyByte l b x) s = .next (s.hears l x.stop fun q => q)))
    ∧ (((s.lnk.get l).rx = .idle ∧ b ≠ 0xC3 ∨ (s.lnk.get l).rx = .receiving [] ∧ ¬ (2 ≤ b.toNat ∧ b.toNat ≤ 60)) →
        exec (.faultyByte l b ⟨parityBit b, .mark⟩) s = .next (attend (s.hears l .mark fun q =>
          { q with rx := .skipping, flags := { q.flags with format := true }, pend := q.pend ||| 0x1000#16 })))
    ∧ (∀ bytes, (s.lnk.get l).rx = .receiving bytes → bytes ≠ [] → frameWhole (bytes ++ [b]) = true →
        crc (bytes ++ [b]) ≠ 0#16 →
        exec (.frameComplete l b) s = .next (attend (s.hears l .mark fun q =>
          { q with rx := .idle, flags := { q.flags with crc := true }, pend := q.pend ||| 0x1000#16 })))

/-- The frame gap and the end of SKIPPING are due 1 ms after the last byte, the latter at mark and not at space, and the end of
the hold-off 20 ms after its start; each acts where it is due. The return of the line from space to mark ends a break in
SKIPPING (R178, R179, R190). A line at mark does not return to it (log 13). -/
def Obligations.LinkTimersAct : Prop :=
  ∀ (l : Link) (s : State),
    (s.gapDue l = true → exec (.frameGapTimeout l) s = .next (attend (s.modPort l fun q =>
        { q with rx := .idle, flags := { q.flags with gap := true }, pend := q.pend ||| 0x1000#16 })))
    ∧ (s.quietDue l = true → exec (.receiverIdle l) s = .next (s.modPort l fun q => { q with rx := .idle }))
    ∧ (s.lines.rx.get l = .space → s.quietDue l = false)
    ∧ (s.holdOffDue l = true → exec (.holdOffEnd l) s = .next (s.modPort l fun q => { q with holdOff := none }))
    ∧ (s.lines.rx.get l = .space →
        exec (.breakEnd l) s = .next (s.hears l .mark fun q => { q with inBreak := false, rx := .skipping }))
    ∧ (s.lines.rx.get l = .mark → exec (.breakEnd l) s = .next s)
    ∧ (s.gapDue l = true ↔ (∃ bytes, (s.lnk.get l).rx = .receiving bytes) ∧ (s.lnk.get l).inBreak = false
        ∧ 1 ≤ (s.clk.time - (s.lnk.get l).rxAt).toNat)
    ∧ (s.quietDue l = true ↔ (s.lnk.get l).rx = .skipping ∧ (s.lnk.get l).inBreak = false ∧ s.lines.rx.get l = .mark
        ∧ 1 ≤ (s.clk.time - (s.lnk.get l).rxAt).toNat)
    ∧ (s.holdOffDue l = true ↔ ∃ b, (s.lnk.get l).holdOff = some b ∧ 20 ≤ (s.clk.time - b).toNat)

/-- A frame being sent leaves the transmitter: a response lets the link take its next frame, the response of a SYNC also ends
the block, so that the next frame is taken, and a BUSY answer or an attention frame does neither; a link that may take takes the
frame at the head of its queue at that event, as a command row on a free link does (R181, R182, R187). -/
def Obligations.SentFramesLeave : Prop :=
  ∀ (l : Link) (s : State),
    ((s.lnk.get l).queue = [] →
      (∀ code tag st bytes rest, (s.lnk.get l).tx = .response code tag st bytes :: rest →
          exec (.responseSent l) s = .next (s.modPort l fun q => { q with tx := rest, awaiting := false }))
      ∧ (∀ tag rest, (s.lnk.get l).tx = .syncDone tag :: rest →
          exec (.responseSent l) s =
            .next (s.modPort l fun q => { q with tx := rest, awaiting := false, blocked := false }))
      ∧ (∀ code tag rest, (s.lnk.get l).tx = .busy code tag :: rest →
          exec (.responseSent l) s = .next (s.modPort l fun q => { q with tx := rest }))
      ∧ (∀ on rest, (s.lnk.get l).tx = .attention on :: rest →
          exec (.responseSent l) s = .next (s.modPort l fun q => { q with tx := rest })))
    ∧ (∀ (f : RxFrame) (rest : List RxFrame) (code tag : Byte) (st : Status) (bytes : List Byte) (out : List TxFrame),
        (s.lnk.get l).queue = f :: rest → (s.lnk.get l).blocked = false →
        (s.lnk.get l).tx = .response code tag st bytes :: out →
        exec (.responseSent l) s =
          .next (takeCmd l f.tag f.cmd (s.modPort l fun q => { q with tx := out, awaiting := false, queue := rest })))
    ∧ (∀ (f : RxFrame) (rest : List RxFrame) (tag : Byte) (out : List TxFrame),
        (s.lnk.get l).queue = f :: rest → (s.lnk.get l).tx = .syncDone tag :: out →
        exec (.responseSent l) s = .next (takeCmd l f.tag f.cmd
          (s.modPort l fun q => { q with tx := out, awaiting := false, blocked := false, queue := rest })))

/-- Every command offered to a link that waits, with room in its queue, joins the tail of the queue and is not taken, and the
frame restarts the supervision of a holder (R164, R180, R181). Offered to a link whose queue is full it is discarded: OVERRUN
is set, LINK is raised on that link alone, and a BUSY answer with its code and tag is handed unless one waits (R180). -/
def Obligations.BusyLinksQueueOrAnswerBusy : Prop :=
  ∀ (i : Instr) (l : Link) (tag : Byte) (c : Cmd) (s : State), i.offered = some (l, tag, c) →
    ((s.lnk.get l).queue.length < 4 → ((s.lnk.get l).awaiting = true ∨ (s.lnk.get l).blocked = true) →
        exec i s = .next ((superviseFrame l s).modPort l fun q => { q with queue := q.queue ++ [⟨tag, c⟩] }))
    ∧ (4 ≤ (s.lnk.get l).queue.length →
        exec i s = .next (attend ((superviseFrame l s).modPort l fun q =>
          { q with
            flags := { q.flags with overrun := true }
            pend := q.pend ||| 0x1000#16
            tx := if (q.tx.drop 1).any (·.isBusy) then q.tx else q.tx ++ [.busy c.code tag] })))

/-- A break is due where the line has rested at space for 2 ms, once in one period at space (R190); that the 2 ms are counted
from the byte that shows the space is the model's choice (log 10). Within the hold-off it is ignored, and the line brings no
byte until it returns to mark (R190): the period at space is spent by it, so that one longer than the hold-off resets nothing
later, which is the model's reading (log 13). Outside it resets the link (R191): the frame being sent is completed, every other
frame, the cursor, the last command taken, the flags and the notices are emptied, attention goes OFF, and the enable set stands;
a SYNC of the link is freed with its marks (R188); a request of the link is withdrawn with its parked command, and a change owed
then made to none where no entry is ACTIVE; a holder's reset owes a change (R165). A change of the authority record raises AUTH
on all three links, and the other links and the roof stand. -/
def Obligations.LinkResetEmptiesTheLink : Prop :=
  ∀ (l : Link) (s : State),
    (s.breakDue l = true ↔ (s.lnk.get l).inBreak = false ∧ s.lines.rx.get l = .space
        ∧ 2 ≤ (s.clk.time - (s.lnk.get l).rxAt).toNat)
    ∧ (s.breakDue l = true → (s.lnk.get l).holdOff ≠ none →
        exec (.linkReset l) s = .next (s.modPort l fun q => { q with inBreak := true }))
    ∧ (s.breakDue l = true → (s.lnk.get l).holdOff = none → ∃ u, exec (.linkReset l) s = .next (settle u)
        ∧ (∀ auth : BitVec 16, auth = (if u.auth = s.auth then 0#16 else 0x0200#16) →
            u.lnk.get l = { s.lnk.get l with
                queue := []
                tx := (s.lnk.get l).tx.take 1
                awaiting := match (s.lnk.get l).tx with
                  | .response _ _ _ _ :: _ | .syncDone _ :: _ => true
                  | .busy _ _ :: _ | .attention _ :: _ | [] => false
                blocked := false, cursor := .none, lastTaken := none, flags := .clear, inBreak := true
                holdOff := some s.clk.time, pend := auth, attention := false }
            ∧ ∀ k, k ≠ l → u.lnk.get k = { s.lnk.get k with pend := (s.lnk.get k).pend ||| auth })
        ∧ (∀ c, s.sync = some c → c.owner = l →
            u.sync = none ∧ u.longOps = s.longOps.map fun o => { o with marked := false })
        ∧ ((∀ c, s.sync = some c → c.owner ≠ l) → u.sync = s.sync ∧ u.longOps = s.longOps)
        ∧ (s.auth.requester = some l → u.auth.requester = none ∧ u.auth.parked = none
            ∧ u.auth.leading = s.auth.leading
            ∧ (∀ k, s.auth.parked = some k → u.auth.parkedResult = some ⟨l, k.cmd.code, k.tag, .discarded⟩)
            ∧ (s.auth.parked = none → u.auth.parkedResult = s.auth.parkedResult)
            ∧ (s.auth.owed = none ∨ s.entryActive = true → u.auth.holder = s.auth.holder ∧ u.auth.owed = s.auth.owed
                ∧ u.auth.supervision = s.auth.supervision ∧ u.auth.lastChange = s.auth.lastChange)
            ∧ (s.auth.owed ≠ none → s.entryActive = false → u.auth.holder = none ∧ u.auth.owed = none
                ∧ u.auth.supervision = none
                ∧ u.auth.lastChange = some ⟨s.clk.time, .withdrawal, s.auth.holder, none⟩))
        ∧ (s.auth.requester ≠ some l → u.auth = if s.auth.holder = some l ∧ s.auth.owed = none then
            { s.auth with owed := some .linkReset, supervision := none } else s.auth)
        ∧ { u with lnk := s.lnk, sync := s.sync, longOps := s.longOps, auth := s.auth } = s)

/-! ### Link commands and queries -/

/-- SYNC with the context held is denied; with no long operation in flight it is answered at once; else every operation is
marked, the link is blocked and no response is handed (R187). NOTICE_CLEAR removes the named causes from its link's pending
set and NOTICE_ENABLE replaces its enable set, the attention following (R198, R199). A code that names no command is answered
UNKNOWN_COMMAND (R181). The response of a waiting SYNC is handed to its link, and the context freed, once no marked operation is
left, and not before (R187). -/
def Obligations.LinkCommands : Prop :=
  ∀ (l : Link) (tag : Byte) (s : State), s.free l →
    (s.sync ≠ none → exec (.sync l tag) s = .next ((superviseFrame l s).answered l tag 0x03 .syncDenied []))
    ∧ (s.sync = none → s.longOps = [] →
        exec (.sync l tag) s = .next ((superviseFrame l s).answered l tag 0x03 .ok []))
    ∧ (s.sync = none → s.longOps ≠ [] → exec (.sync l tag) s = .next
        { (superviseFrame l s).modPort l (fun q => { q with blocked := true, lastTaken := some 0x03 }) with
          sync := some ⟨l, tag⟩
          longOps := s.longOps.map fun o => { o with marked := true } })
    ∧ (∀ k : BitVec 16,
        exec (.noticeClear l tag k) s =
          .next (attend (((superviseFrame l s).modPort l fun q => { q with pend := q.pend &&& ~~~k }).answered l tag 0x2D
            .ok []))
        ∧ exec (.noticeEnable l tag k) s =
          .next (attend (((superviseFrame l s).modPort l fun q => { q with enable := k }).answered l tag 0x2E .ok [])))
    ∧ (∀ code : Byte,
        exec (.unknownCommand l tag code) s = .next ((superviseFrame l s).answered l tag code .unknownCommand []))
    ∧ (∀ c, s.sync = some c →
        ((∃ o ∈ s.longOps, o.marked = true) → watchSync s = none)
        ∧ ((∀ o ∈ s.longOps, o.marked = false) → watchSync s = some
            { s.modPort c.owner (fun q => { q with tx := q.tx ++ [.syncDone c.tag] }) with sync := none }))

/-- The queries of whole blocks, NOP and LINK_STATUS are answered OK with their fields and change nothing else: not the
roof, not the map, not a notice; LINK_STATUS clears the flags it returns (R17, R35, R95, R118, R141, R159, R173, R189, R199,
R201). The layout of result fields that the spec leaves open is the model's (log 9). -/
def Obligations.QueriesReadAndChangeNothing : Prop :=
  ∀ (l : Link) (tag : Byte) (s : State), s.free l →
    exec (.nop l tag) s = .next ((superviseFrame l s).answered l tag 0x01 .ok [])
    ∧ exec (.linkStatus l tag) s = .next (((superviseFrame l s).modPort l fun q => { q with flags := .clear }).answered l
        tag 0x02 .ok ((superviseFrame l s).linkResult l))
    ∧ exec (.travelRead l tag) s =
        .next ((superviseFrame l s).answered l tag 0x04 .ok (superviseFrame l s).travelResult)
    ∧ exec (.lineRead l tag) s = .next ((superviseFrame l s).answered l tag 0x07 .ok (superviseFrame l s).lineResult)
    ∧ exec (.breakerRead l tag) s =
        .next ((superviseFrame l s).answered l tag 0x18 .ok (superviseFrame l s).breakerResult)
    ∧ exec (.mapStatus l tag) s = .next ((superviseFrame l s).answered l tag 0x1D .ok (superviseFrame l s).mapResult)
    ∧ exec (.seqRead l tag) s = .next ((superviseFrame l s).answered l tag 0x1F .ok (superviseFrame l s).seqResult)
    ∧ exec (.iceRead l tag) s = .next ((superviseFrame l s).answered l tag 0x23 .ok (superviseFrame l s).iceResult)
    ∧ exec (.authRead l tag) s =
        .next ((superviseFrame l s).answered l tag 0x26 .ok ((superviseFrame l s).authResult l))
    ∧ exec (.noticeRead l tag) s =
        .next ((superviseFrame l s).answered l tag 0x2C .ok ((superviseFrame l s).noticeResult l))
    ∧ exec (.faultRead l tag) s = .next ((superviseFrame l s).answered l tag 0x2F .ok (superviseFrame l s).faultResult)

/-- PAN_READ and FORCE_READ read the channel of a number 1 to 4, CONFIG_READ the item that the table has at an index or, for
item 0, the store's status; any other number, item or index is refused with BAD_OPERAND, and nothing else changes (R63, R76,
R197). -/
def Obligations.IndexedQueries : Prop :=
  ∀ (l : Link) (tag : Byte) (n x : Nat) (s : State), s.free l →
    (∀ p : Pan, n = p.num →
        exec (.panRead l tag n) s =
          .next ((superviseFrame l s).answered l tag 0x0E .ok ((superviseFrame l s).panResult p))
        ∧ exec (.forceRead l tag n) s =
          .next ((superviseFrame l s).answered l tag 0x13 .ok ((superviseFrame l s).forceResult p)))
    ∧ (n = 0 ∨ 5 ≤ n →
        exec (.panRead l tag n) s = .next ((superviseFrame l s).answered l tag 0x0E .badOperand [])
        ∧ exec (.forceRead l tag n) s = .next ((superviseFrame l s).answered l tag 0x13 .badOperand []))
    ∧ (n = 0 → exec (.configRead l tag n x) s =
        .next ((superviseFrame l s).answered l tag 0x29 .ok ((superviseFrame l s).configResult 0 x 0)))
    ∧ (∀ slot, n ≠ 0 → slotOf n x = some slot → exec (.configRead l tag n x) s =
        .next ((superviseFrame l s).answered l tag 0x29 .ok
          ((superviseFrame l s).configResult n x (slot.read s.cfg.items))))
    ∧ (n ≠ 0 → slotOf n x = none →
        exec (.configRead l tag n x) s = .next ((superviseFrame l s).answered l tag 0x29 .badOperand []))

/-- FORCE_TABLE_READ sets the cursor to the point it returns and FORCE_TABLE_READ_NEXT moves it on by one; past point 8 the
cursor is lost with BAD_OPERAND, and without a cursor of the kind, or after another command, the continuation is
ILLEGAL_SEQUENCE and leaves the cursor. A point is returned as its class, its index, its speed 40 × i and its force (R68). -/
def Obligations.ForceTableReads : Prop :=
  ∀ (l : Link) (tag : Byte) (s : State), s.free l →
    (∀ (c : PClass) (k i : Nat), classOf k = some c → i ≤ 8 →
        exec (.forceTableRead l tag k i) s =
          .next (((superviseFrame l s).modPort l fun q => { q with cursor := .tableRead c i }).answered l tag 0x11 .ok
            (s.tableResult c i)))
    ∧ (∀ k i : Nat, classOf k = none ∨ 9 ≤ i →
        exec (.forceTableRead l tag k i) s =
          .next (((superviseFrame l s).modPort l fun q => { q with cursor := .none }).answered l tag 0x11 .badOperand []))
    ∧ (∀ (c : PClass) (i : Nat), (s.lnk.get l).cursor = .tableRead c i →
        (s.lnk.get l).lastTaken = some 0x11 ∨ (s.lnk.get l).lastTaken = some 0x12 ∨ (s.lnk.get l).lastTaken = some 0x01 →
        (i < 8 → exec (.forceTableReadNext l tag) s =
          .next (((superviseFrame l s).modPort l fun q => { q with cursor := .tableRead c (i + 1) }).answered l tag 0x12 .ok
            (s.tableResult c (i + 1))))
        ∧ (8 ≤ i → exec (.forceTableReadNext l tag) s =
          .next (((superviseFrame l s).modPort l fun q => { q with cursor := .none }).answered l tag 0x12 .badOperand [])))
    ∧ ((∀ c i, (s.lnk.get l).cursor ≠ .tableRead c i) ∨ (s.lnk.get l).lastTaken ≠ some 0x11
          ∧ (s.lnk.get l).lastTaken ≠ some 0x12 ∧ (s.lnk.get l).lastTaken ≠ some 0x01 →
        exec (.forceTableReadNext l tag) s = .next ((superviseFrame l s).answeredOutOfSequence l tag 0x12))
    ∧ (∀ (c : PClass) (i : Nat), s.tableResult c i =
        be 1 (match c with | .ac => 1 | .dc => 2) ++ be 1 i ++ be 2 (40 * i)
          ++ be 1 ((s.cfg.tables.get c)[i]?.getD 0))

/-- MAP_READ returns the entry at an index and sets the cursor to its id; past the last entry it is END_OF_MAP, and above
63 BAD_OPERAND. MAP_READ_NEXT returns the entry behind the one the cursor names and sets the cursor to it; behind the last
entry it is END_OF_MAP, for an id that no entry holds CURSOR_LOST, and without a map cursor, or after another command,
ILLEGAL_SEQUENCE, which leaves the cursor (R116, R117). An entry is returned in the layout of Table 10-2, with its action point
where MAP holds one for it (R184). -/
def Obligations.MapReads : Prop :=
  ∀ (l : Link) (tag : Byte) (s : State), s.free l →
    (∀ (i : Nat) (e : Entry), i ≤ 63 → s.map.entries[i]? = some e →
        exec (.mapRead l tag i) s =
          .next (((superviseFrame l s).modPort l fun q => { q with cursor := .map e.id }).answered l tag 0x1B .ok
            (s.entryResult i e)))
    ∧ (∀ i : Nat, i ≤ 63 → s.map.entries.length ≤ i →
        exec (.mapRead l tag i) s =
          .next (((superviseFrame l s).modPort l fun q => { q with cursor := .none }).answered l tag 0x1B .endOfMap []))
    ∧ (∀ i : Nat, 64 ≤ i →
        exec (.mapRead l tag i) s =
          .next (((superviseFrame l s).modPort l fun q => { q with cursor := .none }).answered l tag 0x1B .badOperand []))
    ∧ (∀ (k : Nat) (d e : Entry), (s.map.entries.map (·.id)).Nodup → s.map.entries[k]? = some d →
        s.map.entries[k + 1]? = some e → (s.lnk.get l).cursor = .map d.id →
        (s.lnk.get l).lastTaken = some 0x1B ∨ (s.lnk.get l).lastTaken = some 0x1C ∨ (s.lnk.get l).lastTaken = some 0x01 →
        exec (.mapReadNext l tag) s =
          .next (((superviseFrame l s).modPort l fun q => { q with cursor := .map e.id }).answered l tag 0x1C .ok
            (s.entryResult (k + 1) e)))
    ∧ (∀ i : Nat, (s.lnk.get l).cursor = .map i → (∀ e ∈ s.map.entries, e.id ≠ i) →
        (s.lnk.get l).lastTaken = some 0x1B ∨ (s.lnk.get l).lastTaken = some 0x1C ∨ (s.lnk.get l).lastTaken = some 0x01 →
        exec (.mapReadNext l tag) s =
          .next (((superviseFrame l s).modPort l fun q => { q with cursor := .none }).answered l tag 0x1C .cursorLost []))
    ∧ (∀ (k : Nat) (d : Entry), (s.map.entries.map (·.id)).Nodup → s.map.entries[k]? = some d →
        s.map.entries.length = k + 1 → (s.lnk.get l).cursor = .map d.id →
        (s.lnk.get l).lastTaken = some 0x1B ∨ (s.lnk.get l).lastTaken = some 0x1C ∨ (s.lnk.get l).lastTaken = some 0x01 →
        exec (.mapReadNext l tag) s =
          .next (((superviseFrame l s).modPort l fun q => { q with cursor := .none }).answered l tag 0x1C .endOfMap []))
    ∧ ((∀ i, (s.lnk.get l).cursor ≠ .map i) ∨ (s.lnk.get l).lastTaken ≠ some 0x1B
          ∧ (s.lnk.get l).lastTaken ≠ some 0x1C ∧ (s.lnk.get l).lastTaken ≠ some 0x01 →
        exec (.mapReadNext l tag) s = .next ((superviseFrame l s).answeredOutOfSequence l tag 0x1C))
    ∧ (∀ (i : Nat) (e : Entry) (fields : List Byte) (flags : Nat),
        fields = be 1 i ++ be 2 e.id ++ be 1 (match e.sect with
            | .neutral _ => 1
            | .systemChange _ _ _ => 2
            | .lowerZone => 3) ++ be 4 e.start ++ be 2 e.length ++ (match e.sect with
            | .neutral n => be 1 0 ++ be 1 2 ++ be 1 n
            | .systemChange y w n => be 1 (match y with
                | .ac25 => 1
                | .ac15 => 2
                | .dc30 => 3
                | .dc15 => 4) ++ be 1 (if w then 1 else 0) ++ be 1 n
            | .lowerZone => be 1 0 ++ be 1 2 ++ be 1 0) ++ be 1 (match e.source with
            | .a => 1
            | .b => 2
            | .m => 3) ++ be 1 (match e.state with
            | .pending => 1
            | .armed => 2
            | .active => 3) ++ be 1 (match e.target with
            | none => 0
            | some p => p.num) →
        flags = (if e.late then 1 else 0) + (if e.noTarget then 2 else 0) →
        (∀ x : Int, s.map.action = some ⟨e.id, x⟩ →
            s.entryResult i e = fields ++ be 1 (flags + 4) ++ be 5 (x % 2 ^ 40).toNat)
        ∧ ((∀ x : Int, s.map.action ≠ some ⟨e.id, x⟩) → s.entryResult i e = fields ++ be 1 flags ++ be 5 0))

/-- The results of every command fit a response frame: at most 57 bytes (R176). The widths of result fields that the spec
leaves open are the model's (log 9). -/
def Obligations.ResultsFitTheFrame : Prop :=
  ∀ (l : Link) (tag : Byte) (c : Cmd) (s u : State) (st : Status) (bytes : List Byte),
    runCmd l tag c s = (u, some (st, bytes)) → bytes.length ≤ 57

/-! ### The authority class -/

/-- A command of the authority class from a link that neither holds the roof authority nor has requested it is answered
AUTH_NOT_HELD (R171); from the pending requester it is parked with its tag and answered QUEUED where none is parked, and
AUTH_NOT_HELD where one is (R169). From the holder, the mode and entry checks of RAISE, BREAKER_CLOSE and SELECT, and those of
LOWER, DISC_SET and BREAKER_OPEN, come before their operands, and a number that names no pantograph, role or position is
BAD_OPERAND (R53, R59, R60, R89, R92). The mode and entry checks are made in this order: NOT_CONFIGURED in CONFIG_PENDING, where
the command is not taken in it, ROOF_SAFE in ROOF_SAFE, and ENTRY_LOCKED with an entry ACTIVE (R59, R60, R89, R92, R171).
SET_FORMATION is refused with ENTRY_LOCKED, then with BAD_OPERAND for an offset above 500 000 mm (R15); ADD_RESET and HEAT with
ROOF_SAFE, then with BAD_OPERAND (R50, R139, R153); ICE_MODE with NOT_CONFIGURED, ROOF_SAFE, then BAD_OPERAND (R139, R150).
Nothing else changes. -/
def Obligations.AuthorityClassCheck : Prop :=
  (∀ (i : Instr) (l : Link) (tag : Byte) (c : Cmd) (s : State), i.offered = some (l, tag, c) → isAuthority c = true →
    s.free l → s.auth.holder ≠ some l →
    (s.auth.requester ≠ some l → exec i s = .next (s.answered l tag c.code .authNotHeld []))
    ∧ (s.auth.requester = some l → s.auth.parked = none →
        exec i s = .next (({ s with auth := { s.auth with parked := some ⟨c, tag⟩ } }).answered l tag c.code .queued []))
    ∧ (s.auth.requester = some l → s.auth.parked ≠ none →
        exec i s = .next (s.answered l tag c.code .authNotHeld [])))
  ∧ (∀ (l : Link) (tag : Byte) (n x : Nat) (s : State), s.commands l →
    (∀ st, s.serviceRefusal = some st →
        exec (.raise l tag n x) s = .next ((superviseFrame l s).answered l tag 0x08 st [])
        ∧ exec (.breakerClose l tag) s = .next ((superviseFrame l s).answered l tag 0x14 st [])
        ∧ exec (.select l tag n) s = .next ((superviseFrame l s).answered l tag 0x16 st []))
    ∧ (∀ st, s.roofRefusal = some st →
        exec (.lower l tag n) s = .next ((superviseFrame l s).answered l tag 0x09 st [])
        ∧ exec (.discSet l tag n x) s = .next ((superviseFrame l s).answered l tag 0x0A st [])
        ∧ exec (.breakerOpen l tag) s = .next ((superviseFrame l s).answered l tag 0x15 st []))
    ∧ (s.serviceRefusal = none → n = 0 ∨ 5 ≤ n ∨ x = 0 ∨ 3 ≤ x →
        exec (.raise l tag n x) s = .next ((superviseFrame l s).answered l tag 0x08 .badOperand []))
    ∧ (s.serviceRefusal = none → n = 0 ∨ 6 ≤ n →
        exec (.select l tag n) s = .next ((superviseFrame l s).answered l tag 0x16 .badOperand []))
    ∧ (s.roofRefusal = none → n = 0 ∨ 5 ≤ n →
        exec (.lower l tag n) s = .next ((superviseFrame l s).answered l tag 0x09 .badOperand []))
    ∧ (s.roofRefusal = none → n = 0 ∨ 5 ≤ n ∨ x = 0 ∨ 3 ≤ x →
        exec (.discSet l tag n x) s = .next ((superviseFrame l s).answered l tag 0x0A .badOperand []))
    ∧ (∀ st, FirstUnmet [s.notLocked, (n ≤ 500000 ∧ x ≤ 500000, .badOperand)] (some st) →
        exec (.setFormation l tag n x) s = .next ((superviseFrame l s).answered l tag 0x06 st []))
    ∧ (∀ st, FirstUnmet [s.notSafe, (1 ≤ n ∧ n ≤ 4, .badOperand)] (some st) →
        exec (.addReset l tag n) s = .next ((superviseFrame l s).answered l tag 0x0B st []))
    ∧ (∀ st, FirstUnmet [s.notSafe, ((1 ≤ n ∧ n ≤ 4) ∧ (x = 1 ∨ x = 2), .badOperand)] (some st) →
        exec (.heat l tag n x) s = .next ((superviseFrame l s).answered l tag 0x21 st []))
    ∧ (∀ (v w : Nat) (st : Status), FirstUnmet [s.notPending, s.notSafe,
          ((n = 1 ∨ n = 2) ∧ (1 ≤ v ∧ v ≤ 3) ∧ (1 ≤ x ∧ x ≤ 3) ∧ (w = 1 ∨ w = 2), .badOperand)] (some st) →
        exec (.iceMode l tag n v x w) s = .next ((superviseFrame l s).answered l tag 0x20 st [])))
  ∧ ∀ s : State, FirstUnmet [s.notPending, s.notSafe, s.notLocked] s.serviceRefusal
    ∧ FirstUnmet [s.notSafe, s.notLocked] s.roofRefusal

/-- SET_FORMATION with both offsets in range and no entry ACTIVE takes the offsets and recomputes the four pantograph
offsets for the leading end; nothing else changes (R12, R14, R15). -/
def Obligations.SetFormationRecomputesOffsets : Prop :=
  ∀ (l : Link) (tag : Byte) (fA fB : Nat) (s : State), s.commands l → fA ≤ 500000 → fB ≤ 500000 → s.entryActive = false →
    ∃ u, exec (.setFormation l tag fA fB) s = .next (settle u) ∧ s.Answers u l tag 0x06 .ok [] (fun _ => [])
      ∧ u.trv.fA = fA ∧ u.trv.fB = fB
      ∧ (∀ p, u.trv.offsets.get p =
          if s.auth.leading = .endA then fA + s.cfg.items.panPosition.get p
          else fB + (s.cfg.items.carLength - s.cfg.items.panPosition.get p))
      ∧ { u.trv with fA := s.trv.fA, fB := s.trv.fB, offsets := s.trv.offsets } = s.trv
      ∧ { u with trv := s.trv, lnk := s.lnk } = superviseFrame l s

/-- RAISE of a pantograph that the arbiter admits and that passes every condition of Table 3-4: RAISING, or SETTLING where
contact is already sensed, in the role, owned by the link, its commanded pressure starting from 0 toward the target of the
present speed; no other pantograph and no other block changes (R39, R40, R54, R59, R69). An operation in place gives way: of the
same link it ends without a result, and of ICE it ends ABORTED as the last result, reported to ICE, with its waiting flags
cleared (R56, R57, R186); that one of another link ends ABORTED with the last result and PAN of a preemption is the model's
reading (log 23). -/
def Obligations.RaiseIsGranted : Prop :=
  ∀ (l : Link) (tag : Byte) (p : Pan) (d : Duty) (s : State), s.commands l → s.entryActive = false →
    s.admits p (.authority l) = true → (∀ x ∈ s.raiseTable p d, x.1) →
    ∃ u, exec (.raise l tag p.num (Duty.num d)) s = .next (settle u) ∧ s.Answers u l tag 0x08 .accepted [] (fun _ => [.pan])
      ∧ u.ch p = s.granted p d { (s.ch p).freedFor (.authority l) with job := some ⟨.authority l, .raise d⟩ }
      ∧ s.StartsForce u p d ∧ s.OthersStand u p ∧ s.ReportsPreempted u p (.authority l)
      ∧ u.longOps = s.longTaken p l (.raise p)
      ∧ { u with pch := s.pch, freg := s.freg, lnk := s.lnk, longOps := s.longOps, reports := s.reports
                 iceEval := s.iceEval } = superviseFrame l s

/-- The raise conditions are those of Table 3-4, tested in its order, the first that fails giving the reason (R54), for every
source. The arbiter admits a source unless the owner has priority over it, SEQUENCER over AUTHORITY over ICE (R56, R57). RAISE
refused by the arbiter or by one of the conditions answers that reason and changes nothing else; a pantograph DROPPED or
ISOLATED, or raised in the other role, is PAN_UNAVAILABLE (R54, R56, R59). A RAISE of a pantograph in LOWERING, or whose
disconnector moves to the position that the role needs, waits as the operation in place (R55); the wait ends where the
pantograph is LOWERED with no move in progress, and not before: with every condition met the raise is granted, and a pantograph
of SEQ joins those its sequence raised (R39, R55, R127); else it ends FAILED with the reason, as the last result, reported to
SEQ or ICE where one of them started it (R55, R57). A RAISE of one RAISED in the same role is DONE at once; of one RAISING or
SETTLING in it the RAISE in place continues, and a LOWER or a DISC_MOVE in place gives way to it with its waiting flags, the
pantograph keeping its state (R57, R186); with no operation in place the request becomes the operation, which is the model's
choice (log 32). An operation in place that gives way ends ABORTED where it is of ICE, and without a result where it is of the
same link (R56); that one of another link ends ABORTED with the last result and PAN of a preemption is the model's reading (log
23). -/
def Obligations.RaiseIsRefusedOrWaits : Prop :=
  (∀ (p : Pan) (d : Duty) (s : State), FirstUnmet (s.raiseTable p d) (s.raiseRefusal p d))
  ∧ (∀ (p : Pan) (src : Source) (s : State),
      s.admits p src = true ↔ ∀ j, (s.ch p).job = some j → ¬ j.source.Outranks src)
  ∧ (∀ (p : Pan) (s : State),
    (∀ src d, (s.ch p).job = some ⟨src, .raise d⟩ → (s.ch p).raiseWaiting = true → (s.ch p).state = .lowered →
        (∀ q, (s.ch p).disc ≠ .moving q) →
        ((∀ x ∈ s.raiseTable p d, x.1) →
          ∃ u, watchRaiseWait p s = some u ∧ u.ch p = s.granted p d (s.ch p) ∧ s.StartsForce u p d ∧ s.OthersStand u p
            ∧ u.seq.ctx = (if src = .sequencer then s.seq.ctx.map fun c => { c with raised := c.raised.set p true }
                else s.seq.ctx)
            ∧ s.Raises u (fun _ => [.pan])
            ∧ { u with pch := s.pch, freg := s.freg, seq := { u.seq with ctx := s.seq.ctx }, lnk := s.lnk
                       iceEval := s.iceEval } = s)
        ∧ (∀ st, FirstUnmet (s.raiseTable p d) (some st) →
          ∃ u, watchRaiseWait p s = some u
            ∧ u.ch p = { s.ch p with
                job := none, raiseWaiting := false, lowerReq := false
                lastResult := some ⟨src, .raise d, .failed (.status st)⟩ }
            ∧ s.OthersStand u p ∧ u.longOps = s.longFreed p
            ∧ u.reports = s.reports ++ outcomeReports p ⟨src, .raise d⟩ (.failed (.status st))
            ∧ s.Raises u (fun _ => [.pan])
            ∧ { u with pch := s.pch, lnk := s.lnk, longOps := s.longOps, reports := s.reports } = s))
    ∧ ((∀ src d, (s.ch p).job ≠ some ⟨src, .raise d⟩) ∨ (s.ch p).raiseWaiting = false ∨ (s.ch p).state ≠ .lowered
          ∨ (∃ q, (s.ch p).disc = .moving q) → watchRaiseWait p s = none))
  ∧ ∀ (l : Link) (tag : Byte) (p : Pan) (d : Duty) (s : State), s.commands l → s.serviceRefusal = none →
    (s.admits p (.authority l) = false →
        exec (.raise l tag p.num (Duty.num d)) s = .next ((superviseFrame l s).answered l tag 0x08 .panBusy []))
    ∧ (s.admits p (.authority l) = true →
      (((s.ch p).state = .dropped ∨ (s.ch p).state = .isolated
          ∨ (s.ch p).state.isRaised = true ∧ (s.ch p).role ≠ some d) →
        exec (.raise l tag p.num (Duty.num d)) s = .next ((superviseFrame l s).answered l tag 0x08 .panUnavailable []))
      ∧ (∀ st, (s.ch p).state = .lowered → (s.ch p).disc ≠ .moving (discNeed d) →
        FirstUnmet (s.raiseTable p d) (some st) →
        exec (.raise l tag p.num (Duty.num d)) s = .next ((superviseFrame l s).answered l tag 0x08 st []))
      ∧ (((s.ch p).state = .lowering ∧ (∀ q, (s.ch p).disc ≠ .moving q)
          ∨ ((s.ch p).state = .lowering ∨ (s.ch p).state = .lowered) ∧ (s.ch p).disc = .moving (discNeed d)) →
        ∃ u, exec (.raise l tag p.num (Duty.num d)) s = .next (settle u)
          ∧ s.Answers u l tag 0x08 .accepted [] (fun _ => (s.ch p).preemptedBy (.authority l))
          ∧ u.ch p = { (s.ch p).freedFor (.authority l) with job := some ⟨.authority l, .raise d⟩, raiseWaiting := true }
          ∧ s.OthersStand u p ∧ s.ReportsPreempted u p (.authority l)
          ∧ u.longOps = s.longTaken p l (.raise p)
          ∧ { u with pch := s.pch, lnk := s.lnk, longOps := s.longOps, reports := s.reports } = superviseFrame l s)
      ∧ ((s.ch p).state = .raised → (s.ch p).role = some d →
        ∃ u, exec (.raise l tag p.num (Duty.num d)) s = .next (settle u) ∧ s.Answers u l tag 0x08 .ok [] (fun _ => [.pan])
          ∧ u.ch p = { s.ch p with
              job := none, raiseWaiting := false, lowerReq := false
              lastResult := some ⟨.authority l, .raise d, .done⟩ }
          ∧ s.OthersStand u p ∧ s.ReportsPreempted u p (.authority l)
          ∧ u.longOps = (s.longFreed p).filter (fun o => o.kind ≠ .raise p ∧ o.kind ≠ .joined p)
          ∧ { u with pch := s.pch, lnk := s.lnk, longOps := s.longOps, reports := s.reports
                     iceEval := s.iceEval } = superviseFrame l s)
      ∧ ((s.ch p).state = .raising ∨ (s.ch p).state = .settling → (s.ch p).role = some d →
        ((∃ src e, (s.ch p).job = some ⟨src, .raise e⟩) →
          ∃ u, exec (.raise l tag p.num (Duty.num d)) s = .next (settle u) ∧ s.Answers u l tag 0x08 .accepted [] (fun _ => [])
            ∧ u.longOps = s.longOps ++ [⟨l, .joined p, false⟩]
            ∧ { u with lnk := s.lnk, longOps := s.longOps } = superviseFrame l s)
        ∧ ((∀ src e, (s.ch p).job ≠ some ⟨src, .raise e⟩) →
          ∃ u, exec (.raise l tag p.num (Duty.num d)) s = .next (settle u)
            ∧ s.Answers u l tag 0x08 .accepted [] (fun _ => (s.ch p).preemptedBy (.authority l))
            ∧ u.ch p = { (s.ch p).freedFor (.authority l) with job := some ⟨.authority l, .raise d⟩ }
            ∧ s.OthersStand u p ∧ s.ReportsPreempted u p (.authority l)
            ∧ u.longOps = s.longTaken p l (.raise p)
            ∧ { u with pch := s.pch, lnk := s.lnk, longOps := s.longOps, reports := s.reports } = superviseFrame l s)))

/-- LOWER of a pantograph that the arbiter admits (R45, R47, R60); refused by the arbiter it is PAN_BUSY (R57). A raised one
with role SCRAPE, or with the breaker OPEN, enters LOWERING at once, and LOWERED where its lowered limit is active; else it
keeps its state with lower requested set until the breaker is OPEN, and the breaker is opened. At the breaker OPEN a pantograph
with lower requested enters LOWERING, or LOWERED with the LOWER DONE, the flag is cleared and FREG regulates it no longer; with
the breaker in another state it waits on (R47, R75). One LOWERED is answered OK, one in LOWERING takes the operation, and one
DROPPED or ISOLATED is PAN_UNAVAILABLE. An operation in place gives way: of the same link it ends without a result, and of ICE
it ends ABORTED as the last result, reported to ICE, with its waiting flags cleared (R56, R57, R186); that one of another link
ends ABORTED with the last result and PAN of a preemption is the model's reading (log 23). No other pantograph changes. -/
def Obligations.LowerWaitsForTheBreaker : Prop :=
  (∀ (p : Pan) (s : State),
    (∀ src, (s.ch p).job = some ⟨src, .lower⟩ → (s.ch p).lowerReq = true → s.bsc.breaker = .opened →
        ∃ u, watchLowerWait p s = some u ∧ u.ch p = s.lowers p src (s.ch p) ∧ s.StopsOnLowering u p ∧ s.OthersStand u p
          ∧ u.longOps = s.longOps.filter (fun o =>
              o.kind ≠ .joined p ∧ (s.lines.lowered.get p = true → o.kind ≠ .lower p))
          ∧ u.reports = s.reports ++ (if s.lines.lowered.get p then outcomeReports p ⟨src, .lower⟩ .done else [])
          ∧ s.Raises u (fun _ => [.pan])
          ∧ { u with pch := s.pch, freg := s.freg, ice := s.ice, lnk := s.lnk, longOps := s.longOps,
                     iceEval := s.iceEval, reports := s.reports } = s)
    ∧ ((s.ch p).lowerReq = false ∨ s.bsc.breaker ≠ .opened → watchLowerWait p s = none))
  ∧ ∀ (l : Link) (tag : Byte) (p : Pan) (s : State), s.commands l → s.roofRefusal = none →
    (s.admits p (.authority l) = false →
        exec (.lower l tag p.num) s = .next ((superviseFrame l s).answered l tag 0x09 .panBusy []))
    ∧ (s.admits p (.authority l) = true →
      ((s.ch p).state.isRaised = true → (s.ch p).role = some .scrape ∨ s.bsc.breaker = .opened →
        ∃ u, exec (.lower l tag p.num) s = .next (settle u) ∧ s.Answers u l tag 0x09 .accepted [] (fun _ => [.pan])
          ∧ u.ch p = s.lowers p (.authority l) ((s.ch p).freedFor (.authority l)) ∧ s.StopsOnLowering u p
          ∧ s.OthersStand u p ∧ s.ReportsPreempted u p (.authority l)
          ∧ u.longOps = (s.longTaken p l (.lower p)).filter (fun o =>
              o.kind ≠ .joined p ∧ (s.lines.lowered.get p = true → o.kind ≠ .lower p))
          ∧ { u with pch := s.pch, freg := s.freg, ice := s.ice, lnk := s.lnk, longOps := s.longOps,
                     iceEval := s.iceEval, reports := s.reports } = superviseFrame l s)
      ∧ ((s.ch p).state.isRaised = true → (s.ch p).role ≠ some .scrape → s.bsc.breaker ≠ .opened →
        ∃ u, exec (.lower l tag p.num) s = .next (settle u)
          ∧ s.Answers u l tag 0x09 .accepted [] (fun _ =>
              (if s.bsc.breaker = .closed ∨ s.bsc.breaker = .closing then [.breaker] else [])
                ++ (s.ch p).preemptedBy (.authority l))
          ∧ u.ch p = { (s.ch p).freedFor (.authority l) with job := some ⟨.authority l, .lower⟩, lowerReq := true }
          ∧ s.OthersStand u p ∧ s.ReportsPreempted u p (.authority l)
          ∧ (s.bsc.breaker = .closed ∨ s.bsc.breaker = .closing →
              u.bsc.breaker = .opening ∧ u.bsc.limitStart = s.clk.time ∧ u.bsc.traction = s.bsc.traction
              ∧ { u with pch := s.pch, bsc := s.bsc, lnk := s.lnk, longOps := s.longOps
                         reports := s.reports } = superviseFrame l s)
          ∧ (s.bsc.breaker = .opening ∨ s.bsc.breaker = .failed →
              u.longOps = s.longTaken p l (.lower p)
              ∧ { u with pch := s.pch, lnk := s.lnk, longOps := s.longOps, reports := s.reports } = superviseFrame l s))
      ∧ ((s.ch p).state = .lowered →
        ∃ u, exec (.lower l tag p.num) s = .next (settle u) ∧ s.Answers u l tag 0x09 .ok [] (fun _ => [.pan])
          ∧ u.ch p = { s.ch p with
              job := none, raiseWaiting := false, lowerReq := false, lastResult := some ⟨.authority l, .lower, .done⟩ }
          ∧ s.OthersStand u p ∧ s.ReportsPreempted u p (.authority l)
          ∧ u.longOps = (s.longFreed p).filter (fun o => o.kind ≠ .lower p)
          ∧ { u with pch := s.pch, lnk := s.lnk, longOps := s.longOps, reports := s.reports
                     iceEval := s.iceEval } = superviseFrame l s)
      ∧ ((s.ch p).state = .lowering →
        ∃ u, exec (.lower l tag p.num) s = .next (settle u)
          ∧ s.Answers u l tag 0x09 .accepted [] (fun _ => (s.ch p).preemptedBy (.authority l))
          ∧ u.ch p = { (s.ch p).freedFor (.authority l) with job := some ⟨.authority l, .lower⟩ }
          ∧ s.OthersStand u p ∧ s.ReportsPreempted u p (.authority l)
          ∧ u.longOps = s.longTaken p l (.lower p)
          ∧ { u with pch := s.pch, lnk := s.lnk, longOps := s.longOps, reports := s.reports } = superviseFrame l s)
      ∧ ((s.ch p).state = .dropped ∨ (s.ch p).state = .isolated →
        exec (.lower l tag p.num) s = .next ((superviseFrame l s).answered l tag 0x09 .panUnavailable [])))

/-- DISC_SET of a pantograph that the arbiter admits (R52, R53); refused by the arbiter it is PAN_BUSY (R57). LOWERED, a
position the disconnector already rests at is answered OK and moves nothing, and another position, or one while the disconnector
is MOVING or FAILED, starts the drive toward it, raises PAN, also where the position is the one it moves to, which is the
model's choice (log 42), and is answered ACCEPTED; a MOVING one takes the new position in every state but DROPPED and ISOLATED,
which are PAN_UNAVAILABLE (R49, R52, R62); with the disconnector not MOVING and the pantograph not LOWERED it is
PAN_UNAVAILABLE. An operation in place gives way: of the same link it ends without a result, and of ICE it ends ABORTED as the
last result, reported to ICE, with its waiting flags cleared (R56, R57, R186); that one of another link ends ABORTED with the
last result and PAN of a preemption is the model's reading (log 23). -/
def Obligations.DiscSetMovesTheDisconnector : Prop :=
  ∀ (l : Link) (tag : Byte) (p : Pan) (q : DiscPos) (s : State), s.commands l → s.roofRefusal = none →
    (s.admits p (.authority l) = false →
        exec (.discSet l tag p.num (DiscPos.num q)) s = .next ((superviseFrame l s).answered l tag 0x0A .panBusy []))
    ∧ (s.admits p (.authority l) = true →
      ((s.ch p).state = .lowered → (s.ch p).disc = .resting q →
        ∃ u, exec (.discSet l tag p.num (DiscPos.num q)) s = .next (settle u) ∧ s.Answers u l tag 0x0A .ok [] (fun _ => [.pan])
          ∧ u.ch p = { s.ch p with
              job := none, raiseWaiting := false, lowerReq := false
              lastResult := some ⟨.authority l, .discMove q, .done⟩ }
          ∧ s.OthersStand u p ∧ s.ReportsPreempted u p (.authority l)
          ∧ u.longOps = (s.longFreed p).filter (fun o => o.kind ≠ .disc p)
          ∧ { u with pch := s.pch, lnk := s.lnk, longOps := s.longOps, reports := s.reports
                     iceEval := s.iceEval } = superviseFrame l s)
      ∧ ((s.ch p).state = .lowered ∧ ((s.ch p).disc = .failed ∨ ∃ r, r ≠ q ∧ (s.ch p).disc = .resting r)
          ∨ (s.ch p).state ≠ .dropped ∧ (s.ch p).state ≠ .isolated ∧ (∃ r, (s.ch p).disc = .moving r) →
        ∃ u, exec (.discSet l tag p.num (DiscPos.num q)) s = .next (settle u)
          ∧ s.Answers u l tag 0x0A .accepted [] (fun _ => [.pan])
          ∧ u.ch p = { (s.ch p).freedFor (.authority l) with
              disc := .moving q, discDrive := some q, discStart := s.clk.time, job := some ⟨.authority l, .discMove q⟩ }
          ∧ s.OthersStand u p ∧ s.ReportsPreempted u p (.authority l)
          ∧ u.longOps = s.longTaken p l (.disc p)
          ∧ { u with pch := s.pch, lnk := s.lnk, longOps := s.longOps, reports := s.reports
                     iceEval := s.iceEval } = superviseFrame l s)
      ∧ ((s.ch p).state = .dropped ∨ (s.ch p).state = .isolated
          ∨ (s.ch p).state ≠ .lowered ∧ (∀ r, (s.ch p).disc ≠ .moving r) →
        exec (.discSet l tag p.num (DiscPos.num q)) s =
          .next ((superviseFrame l s).answered l tag 0x0A .panUnavailable [])))

/-- ADD_RESET of a DROPPED pantograph with its lowered limit active takes it to LOWERED with role NONE, and clears a scrape
block held for it; with the limit not active it is NOT_QUIESCENT, and in any other state PAN_UNAVAILABLE (R50, R158). -/
def Obligations.AddResetReleasesADropped : Prop :=
  ∀ (l : Link) (tag : Byte) (p : Pan) (s : State), s.commands l → s.seq.mode ≠ .roofSafe →
    ((s.ch p).state = .dropped → s.lines.lowered.get p = true →
        ∃ u, exec (.addReset l tag p.num) s = .next (settle u) ∧ s.Answers u l tag 0x0B .ok [] (fun _ => [.pan])
          ∧ u.ch p = { s.ch p with state := .lowered, role := none, below := 0 } ∧ (∀ q, q ≠ p → u.ch q = s.ch q)
          ∧ u.ice.block = (if s.ice.block = some p then none else s.ice.block)
          ∧ { u with pch := s.pch, ice := s.ice, lnk := s.lnk, iceEval := s.iceEval } = superviseFrame l s)
    ∧ ((s.ch p).state = .dropped → s.lines.lowered.get p = false →
        exec (.addReset l tag p.num) s = .next ((superviseFrame l s).answered l tag 0x0B .notQuiescent []))
    ∧ ((s.ch p).state ≠ .dropped →
        exec (.addReset l tag p.num) s = .next ((superviseFrame l s).answered l tag 0x0B .panUnavailable []))

/-- BREAKER_CLOSE with the interlock holding enters CLOSING from OPEN, with traction-wanted set; a breaker CLOSED or CLOSING
stays, with traction-wanted set; without the interlock, and in OPENING and FAILED, it is refused and nothing else changes
(R80, R84, R89). BREAKER_OPEN clears traction-wanted and disarms the auto-reclose; from CLOSING and CLOSED the breaker enters
OPENING, in OPENING it stays, and the answer is ACCEPTED; from OPEN and FAILED it stays and the answer is OK (R79, R84,
R89). -/
def Obligations.BreakerCommands : Prop :=
  ∀ (l : Link) (tag : Byte) (s : State), s.commands l →
    (s.serviceRefusal = none → s.interlock = true → s.bsc.breaker = .opened →
        ∃ u, exec (.breakerClose l tag) s = .next (settle u) ∧ s.Answers u l tag 0x14 .accepted [] (fun _ => [.breaker])
          ∧ u.bsc.breaker = .closing ∧ u.bsc.limitStart = s.clk.time ∧ u.bsc.traction = true
          ∧ { u with bsc := s.bsc, lnk := s.lnk, longOps := s.longOps } = superviseFrame l s)
    ∧ (s.serviceRefusal = none → s.interlock = true → (s.bsc.breaker = .closed ∨ s.bsc.breaker = .closing) →
        ∃ u, exec (.breakerClose l tag) s = .next (settle u)
          ∧ s.Answers u l tag 0x14 (if s.bsc.breaker = .closed then .ok else .accepted) []
                (fun _ => if s.bsc.traction then [] else [.breaker])
          ∧ u.bsc = { s.bsc with traction := true }
          ∧ { u with bsc := s.bsc, lnk := s.lnk, longOps := s.longOps } = superviseFrame l s)
    ∧ (s.serviceRefusal = none → (s.interlock = false ∨ s.bsc.breaker = .opening ∨ s.bsc.breaker = .failed) →
        exec (.breakerClose l tag) s = .next ((superviseFrame l s).answered l tag 0x14 .interlock []))
    ∧ (s.roofRefusal = none → (s.bsc.breaker = .closed ∨ s.bsc.breaker = .closing) →
        ∃ u, exec (.breakerOpen l tag) s = .next (settle u) ∧ s.Answers u l tag 0x15 .accepted [] (fun _ => [.breaker])
          ∧ u.bsc.breaker = .opening ∧ u.bsc.limitStart = s.clk.time ∧ u.bsc.traction = false ∧ u.bsc.reclose = false
          ∧ { u with bsc := s.bsc, lnk := s.lnk, longOps := s.longOps } = superviseFrame l s)
    ∧ (s.roofRefusal = none → s.bsc.breaker = .opening →
        ∃ u, exec (.breakerOpen l tag) s = .next (settle u)
          ∧ s.Answers u l tag 0x15 .accepted [] (fun _ => if s.bsc.traction then [.breaker] else [])
          ∧ u.bsc = { s.bsc with traction := false, reclose := false }
          ∧ { u with bsc := s.bsc, lnk := s.lnk, longOps := s.longOps } = superviseFrame l s)
    ∧ (s.roofRefusal = none → (s.bsc.breaker = .opened ∨ s.bsc.breaker = .failed) →
        ∃ u, exec (.breakerOpen l tag) s = .next (settle u)
          ∧ s.Answers u l tag 0x15 .ok [] (fun _ => if s.bsc.traction then [.breaker] else [])
          ∧ u.bsc = { s.bsc with traction := false, reclose := false }
          ∧ { u with bsc := s.bsc, lnk := s.lnk } = superviseFrame l s)

/-- SELECT (R90, R92): from another position, or from FAILED, with the breaker OPEN, and for a move between classes every
connected pantograph LOWERED, the selector moves, a move from FAILED leaving no position, which is the model's choice (log 43);
at the position already it is OK and the last result stands, which is the model's choice (log 12); while MOVING, with the
breaker not OPEN, and between classes with a connected pantograph not LOWERED it is refused with INTERLOCK. -/
def Obligations.SelectMovesTheSelector : Prop :=
  ∀ (l : Link) (tag : Byte) (q : SelPos) (s : State), s.commands l → s.serviceRefusal = none →
    ((∀ p r, s.bsc.selector ≠ .moving p r) → s.bsc.selector ≠ .rest q → s.bsc.breaker = .opened →
        betweenClasses s.bsc.selector.leaves q = false ∨ s.connectedLowered = true →
        ∃ u, exec (.select l tag (SelPos.num q)) s = .next (settle u) ∧ s.Answers u l tag 0x16 .accepted [] (fun _ => [.selector])
          ∧ u.bsc = { s.bsc with
              selector := .moving s.bsc.selector.leaves q, moveStart := s.clk.time, moveSource := some (.authority l) }
          ∧ u.longOps = s.longOps ++ [⟨l, .select, false⟩]
          ∧ { u with bsc := s.bsc, lnk := s.lnk, longOps := s.longOps } = superviseFrame l s)
    ∧ (s.bsc.selector = .rest q →
        exec (.select l tag (SelPos.num q)) s = .next (settle ((superviseFrame l s).answered l tag 0x16 .ok [])))
    ∧ ((∃ p r, s.bsc.selector = .moving p r) ∨ s.bsc.selector ≠ .rest q ∧ (s.bsc.breaker ≠ .opened
          ∨ betweenClasses s.bsc.selector.leaves q = true ∧ s.connectedLowered = false) →
        exec (.select l tag (SelPos.num q)) s = .next ((superviseFrame l s).answered l tag 0x16 .interlock []))

/-- ICE_MODE in service sets the two responses and the permission, clears the failed set, and enters or leaves ICE_OFF; HEAT
sets or clears one manual demand, and ON is refused for an ISOLATED pantograph (R150, R153). -/
def Obligations.IceModeAndHeat : Prop :=
  ∀ (l : Link) (tag : Byte) (s : State), s.commands l →
    (∀ (e v x w : Nat) (on permit : Bool) (us : SuspectResponse) (cr : ConfirmedResponse), s.seq.mode = .inService →
        pairOf e = some on → suspectOf v = some us → confirmedOf x = some cr → pairOf w = some permit →
        ∃ u, exec (.iceMode l tag e v x w) s = .next (settle u)
          ∧ s.Answers u l tag 0x20 .ok [] (fun _ => if u.ice.state = s.ice.state then [] else [.ice])
          ∧ u.ice.susResp = us ∧ u.ice.confResp = cr ∧ u.ice.permit = permit ∧ u.ice.failedSet = .all false
          ∧ u.ice.state = (if on then (if s.ice.state = .off then .watch else s.ice.state) else .off)
          ∧ { u with ice := s.ice, lnk := s.lnk, iceEval := s.iceEval } = superviseFrame l s)
    ∧ (∀ (p : Pan) (o : Nat) (on : Bool), s.seq.mode ≠ .roofSafe → pairOf o = some on →
        (on = true → (s.ch p).state ≠ .isolated) →
        ∃ u, exec (.heat l tag p.num o) s = .next (settle u) ∧ s.Answers u l tag 0x21 .ok [] (fun _ => [])
          ∧ (u.ice.heaters.get p).manual = on ∧ (u.ice.heaters.get p).out = (s.ice.heaters.get p).out
          ∧ (∀ q, q ≠ p → u.ice.heaters.get q = s.ice.heaters.get q)
          ∧ { u with ice := { u.ice with heaters := s.ice.heaters }, lnk := s.lnk } = superviseFrame l s)
    ∧ (∀ p : Pan, s.seq.mode ≠ .roofSafe → (s.ch p).state = .isolated →
        exec (.heat l tag p.num 1) s = .next ((superviseFrame l s).answered l tag 0x21 .panUnavailable []))

/-! ### Shared commands -/

/-- POSITION_FIX from the holder or Link M sets the odometer to m × 1000 mm; the distance history, the interval in progress and
the speed, the configuration and the detector stand; its refusals change nothing else (R10, R11). A forward fix removes every
entry it overruns, with an open request and OVERRUN for a system change; a backward fix removes none; every ARMED entry it
leaves beyond the arm distance returns to PENDING, and then every PENDING entry within the arm distance arms (R104 to R106, R112
to R114). The last removal is that of the last overrun entry, also where the fix ends CLEARING and with it the sequence, whose
entry leaves before the overruns; with the roof not live that sequence ends DONE, and with it live the effects of its further
stages are not stated here (R103, R122, R126). That an empty fault record is filled with OVERRUN, also where the fix ends
CLEARING of the ACTIVE entry with a failure, is the model's choice, for R200 lets OVERRUN or SEQ_FAILED reach NFU first (log
47). -/
def Obligations.PositionFixSetsTheOdometer : Prop :=
  ∀ (l : Link) (tag : Byte) (m : Nat) (s : State), s.free l →
    (s.holderOrM l = false →
        exec (.positionFix l tag m) s = .next ((superviseFrame l s).answered l tag 0x05 .authNotHeld []))
    ∧ (s.holderOrM l = true → s.seq.mode = .configPending →
        exec (.positionFix l tag m) s = .next ((superviseFrame l s).answered l tag 0x05 .notConfigured []))
    ∧ (s.holderOrM l = true → s.seq.mode ≠ .configPending → 4294967 < m →
        exec (.positionFix l tag m) s = .next ((superviseFrame l s).answered l tag 0x05 .badOperand []))
    ∧ (s.holderOrM l = true → s.seq.mode ≠ .configPending → m ≤ 4294967 →
        ∃ u t, exec (.positionFix l tag m) s = .next t ∧ t = settle u ∧ t.trv.front = m * 1000
          ∧ t.trv.history = s.trv.history ∧ t.trv.acc = s.trv.acc ∧ t.trv.speed = s.trv.speed ∧ t.cfg = s.cfg
          ∧ t.ldet = s.ldet ∧ t.lines = s.lines ∧ t.clk = s.clk ∧ t.map.nextId = s.map.nextId ∧ t.pending = s.pending
          ∧ (s.lnk.get l).tx ++ [.response 0x05 tag .ok []] <+: (t.lnk.get l).tx
          ∧ u.trv = { s.trv with front := m * 1000 }
          ∧ (s.trv.front ≤ m * 1000 → s.RemovedLast u (m * 1000))
          ∧ (m * 1000 < s.trv.front → u.map.lastRemoval = s.map.lastRemoval)
          ∧ (∀ e ∈ s.map.entries, s.trv.front ≤ m * 1000 → s.Overruns (m * 1000) e → ∀ y w k, e.sect = .systemChange y w k →
              s.fault = none → ∃ f, u.fault = some f ∧ f.kind = .overrun)
          ∧ (∀ gone, s.EndsAtFront (m * 1000) (s.trv.front ≤ m * 1000) gone →
              s.EndsDone u gone ∧ u.pch = s.pch ∧ u.freg = s.freg ∧ u.ice = s.ice
              ∧ s.Answers u l tag 0x05 .ok [] (fun _ =>
                  (if u.map.entries = s.map.entries then [] else [.entry])
                    ++ (if u.bsc.breaker = s.bsc.breaker then [] else [.breaker])
                    ++ (if s.trv.front ≤ m * 1000 ∧ s.map.entries.any (s.overrunsChange (m * 1000)) = true then [.fault] else []))
              ∧ { u with trv := s.trv, map := s.map, bsc := s.bsc, seq := s.seq, lnk := s.lnk, longOps := s.longOps
                         fault := s.fault, reports := s.reports, iceEval := s.iceEval } = superviseFrame l s
              ∧ ((s.map.entries.map (·.id)).Nodup →
                  u.map.entries = ((s.map.entries.filter fun e => (e.state = .active ∨ m * 1000 < s.trv.front
                      ∨ m * 1000 < (e.start + e.length) * 1000 + largestOffset s.trv.offsets s.usablePans
                          + s.cfg.items.clearMargin * 1000) ∧ gone.all (fun c => decide (e.id ≠ c.entry.id)) = true).map
                    ({ s with trv := u.trv }.moved fun e =>
                      m * 1000 + s.cfg.items.armDistance * 1000 < e.start * 1000)))
              ∧ (∀ e ∈ s.map.entries, s.trv.front ≤ m * 1000 → s.Overruns (m * 1000) e → ∀ y w k, e.sect = .systemChange y w k →
                  (s.bsc.breaker = .closed → u.bsc.breaker = .opening) ∧ u.bsc.traction = s.bsc.traction)))

/-- EARTH_PERMIT (R94): from a link that is neither the holder nor Link M it is AUTH_NOT_HELD, with another operand
BAD_OPERAND, and GIVE in ROOF_SAFE is ROOF_SAFE; GIVE in the four conditions of R93 gives the permit or leaves it given, and
elsewhere is INTERLOCK; WITHDRAW with the switch not EARTHED withdraws it or leaves it withdrawn, and with the switch EARTHED
is INTERLOCK. Nothing else changes. -/
def Obligations.EarthPermitFollowsItsConditions : Prop :=
  ∀ (l : Link) (tag : Byte) (s : State), s.free l →
    (∀ n : Nat, s.holderOrM l = false →
        exec (.earthPermit l tag n) s = .next ((superviseFrame l s).answered l tag 0x17 .authNotHeld []))
    ∧ (s.holderOrM l = true →
    (∀ n : Nat, n ≠ 1 → n ≠ 2 →
        exec (.earthPermit l tag n) s = .next ((superviseFrame l s).answered l tag 0x17 .badOperand []))
    ∧ (s.seq.mode = .roofSafe →
        exec (.earthPermit l tag 1) s = .next ((superviseFrame l s).answered l tag 0x17 .roofSafe []))
    ∧ (s.seq.mode ≠ .roofSafe → s.permitHolds = true →
        ∃ u, exec (.earthPermit l tag 1) s = .next (settle u)
          ∧ s.Answers u l tag 0x17 .ok [] (fun _ => if s.bsc.permit then [] else [.earth])
          ∧ u.bsc = { s.bsc with permit := true } ∧ { u with bsc := s.bsc, lnk := s.lnk } = superviseFrame l s)
    ∧ (s.seq.mode ≠ .roofSafe → s.permitHolds = false →
        exec (.earthPermit l tag 1) s = .next ((superviseFrame l s).answered l tag 0x17 .interlock []))
    ∧ (s.lines.earthed = false →
        ∃ u, exec (.earthPermit l tag 2) s = .next (settle u)
          ∧ s.Answers u l tag 0x17 .ok [] (fun _ => if s.bsc.permit then [.earth] else [])
          ∧ u.bsc = { s.bsc with permit := false } ∧ { u with bsc := s.bsc, lnk := s.lnk } = superviseFrame l s)
    ∧ (s.lines.earthed = true →
        exec (.earthPermit l tag 2) s = .next ((superviseFrame l s).answered l tag 0x17 .interlock [])))

/-- A MAP_INSERT into a map of at most 64 entries (R98) that passes the checks of R100, in a ROOF_SAFE before the commit too,
which is the model's choice (log 45), is taken: it places one entry with the id the counter offers, which no entry holds before,
with the sender as its source, and answers that id; the new entry stands between the entries of a smaller and of a larger start,
each of which stays whole as it is; every span already in the map stands, the counter moves to the value after the id, and the
pantographs, the breaker, the odometer and the configuration stand (R98, R99, R101). -/
def Obligations.MapInsertPlacesAnEntry : Prop :=
  ∀ (l : Link) (tag : Byte) (kind start length after swap limit : Nat) (sect : Section) (s : State), s.free l →
    s.map.entries.length ≤ 64 → s.seq.mode ≠ .configPending → start ≤ 4294967 → 1 ≤ length → length ≤ 2000 →
    sectionOf kind after swap limit = some sect → s.insertRefusal start length = none →
    ∃ u, exec (.mapInsert l tag kind start length after swap limit) s = .next (settle u)
      ∧ (∃ e ∈ u.map.entries,
          e = s.moved (fun _ => false) ⟨s.offeredId, sect, start, length, l, .pending, none, false, false⟩
          ∧ e.id = s.offeredId ∧ e.sect = sect ∧ e.start = start ∧ e.length = length ∧ e.source = l ∧ e.late = false
          ∧ s.Answers u l tag 0x19 .ok (be 2 s.offeredId) (fun k =>
              (if k = l then [] else [.map]) ++ (if e.state = .armed then [.entry] else [])))
      ∧ (∀ d ∈ s.map.entries, d.id ≠ s.offeredId)
      ∧ (∃ before after, s.map.entries = before ++ after
          ∧ u.map.entries = before
              ++ s.moved (fun _ => false) ⟨s.offeredId, sect, start, length, l, .pending, none, false, false⟩ :: after
          ∧ (∀ d ∈ before, d.start ≤ start) ∧ ∀ d ∈ after.head?, start < d.start)
      ∧ (∀ x, x ∈ u.spans ↔ x = (s.offeredId, start, length) ∨ x ∈ s.spans)
      ∧ u.map.nextId = (if s.offeredId = 65535 then 1 else s.offeredId + 1)
      ∧ u.map.lastRemoval = s.map.lastRemoval
      ∧ { u with map := s.map, lnk := s.lnk, iceEval := s.iceEval } = superviseFrame l s

/-- The refusals of MAP_INSERT after its mode and operand checks, in their order, change nothing else (R100). -/
def Obligations.MapInsertIsRefused : Prop :=
  ∀ (l : Link) (tag : Byte) (kind start length after swap limit : Nat) (s : State), s.free l →
    (s.seq.mode = .configPending → exec (.mapInsert l tag kind start length after swap limit) s =
        .next ((superviseFrame l s).answered l tag 0x19 .notConfigured []))
    ∧ (s.seq.mode ≠ .configPending →
        (4294967 < start ∨ length = 0 ∨ 2000 < length ∨ sectionOf kind after swap limit = none) →
        exec (.mapInsert l tag kind start length after swap limit) s =
          .next ((superviseFrame l s).answered l tag 0x19 .badOperand []))
    ∧ (s.seq.mode ≠ .configPending → start ≤ 4294967 → 1 ≤ length → length ≤ 2000 →
        sectionOf kind after swap limit ≠ none →
        exec (.mapInsert l tag kind start length after swap limit) s = .next
          (if s.map.entries.length = 64 then (superviseFrame l s).answered l tag 0x19 .mapFull []
          else if start * 1000 < s.trv.front then (superviseFrame l s).answered l tag 0x19 .mapBehind []
          else if s.map.entries.any (fun e => e.state = .active && start < e.start) then
            (superviseFrame l s).answered l tag 0x19 .entryLocked []
          else if s.map.entries.any (fun e => start < e.start + e.length && e.start < start + length) then
            (superviseFrame l s).answered l tag 0x19 .mapOverlap []
          else takeCmd l tag (.mapInsert kind start length after swap limit) (superviseFrame l s)))

/-- MAP_DELETE (R102, R103): id 0 is BAD_OPERAND, an id no entry holds NO_ENTRY, another link's entry NOT_OWNER, and the
ACTIVE entry ENTRY_LOCKED; otherwise the entry leaves the map, the last removal records it, and every other entry stands. -/
def Obligations.MapDeleteRemovesTheEntry : Prop :=
  ∀ (l : Link) (tag : Byte) (s : State), s.free l →
    exec (.mapDelete l tag 0) s = .next ((superviseFrame l s).answered l tag 0x1A .badOperand [])
    ∧ (∀ i : Nat, i ≠ 0 → (∀ e ∈ s.map.entries, e.id ≠ i) →
        exec (.mapDelete l tag i) s = .next ((superviseFrame l s).answered l tag 0x1A .noEntry []))
    ∧ (∀ e ∈ s.map.entries, e.id ≠ 0 → (s.map.entries.map (·.id)).Nodup →
        (e.source ≠ l → s.holderOrM l = false →
          exec (.mapDelete l tag e.id) s = .next ((superviseFrame l s).answered l tag 0x1A .notOwner []))
        ∧ (e.source = l ∨ s.holderOrM l = true →
          (e.state = .active →
            exec (.mapDelete l tag e.id) s = .next ((superviseFrame l s).answered l tag 0x1A .entryLocked []))
          ∧ (e.state ≠ .active →
            ∃ u, exec (.mapDelete l tag e.id) s = .next (settle u)
              ∧ s.Answers u l tag 0x1A .ok [] (fun k => if k = l then [] else [.map])
              ∧ u.map.entries = s.map.entries.filter (fun d => d.id ≠ e.id) ∧ u.map.nextId = s.map.nextId
              ∧ u.map.lastRemoval = some ⟨e.id, e.sect, .deleted, s.clk.time, s.trv.front / 1000⟩
              ∧ { u with map := s.map, lnk := s.lnk, iceEval := s.iceEval } = superviseFrame l s)))

/-- ROOF_RESET (R51, R91, R96, R140): from a link that is neither the holder nor Link M it is AUTH_NOT_HELD, then in ROOF_SAFE
with the switch EARTHED and no permit INTERLOCK, then, unless every pantograph is LOWERED, ISOLATED, or DROPPED with its lowered
limit active, NOT_QUIESCENT, and nothing else changes; taken, it leaves ROOF_SAFE for the mode of the commit state, a DROPPED
pantograph goes to LOWERED, a FAILED disconnector or selector takes what its feedback reads, a FAILED breaker is OPEN or opens;
the notices are those of these changes, and that a selector taken out of FAILED raises no SELECTOR is the model's reading (log
20); a sequence ends CANCELLED with its entry removed, and every ARMED entry is PENDING, before any test for activation, which
is the model's choice (log 44), and arms again where the mode becomes IN_SERVICE (R105, R134); the configuration, the odometer,
the detector and the fault record stand. -/
def Obligations.RoofResetRestoresTheRoof : Prop :=
  ∀ (l : Link) (tag : Byte) (s : State), s.free l →
    (∀ st, FirstUnmet [(s.auth.holder = some l ∨ l = .m, .authNotHeld),
          (¬ (s.seq.mode = .roofSafe ∧ s.lines.earthed = true ∧ s.bsc.permit = false), .interlock),
          (s.StandsDown, .notQuiescent)] (some st) →
        exec (.roofReset l tag) s = .next ((superviseFrame l s).answered l tag 0x1E st []))
    ∧ (s.auth.holder = some l ∨ l = .m → ¬ (s.seq.mode = .roofSafe ∧ s.lines.earthed = true ∧ s.bsc.permit = false) →
      s.StandsDown → ∃ u, exec (.roofReset l tag) s = .next (settle u) ∧ s.Answers u l tag 0x1E .ok [] (fun _ =>
        (if s.seq.ctx.isSome ∨ (∃ e ∈ s.map.entries, e.state = .armed) ∨ ∃ e ∈ u.map.entries, e.state = .armed
          then [.entry] else [])
          ++ (if u.pch = s.pch then [] else [.pan]) ++ (if u.bsc.breaker = s.bsc.breaker then [] else [.breaker])
          ++ (if s.seq.mode = .roofSafe then [.roofSafe] else []))
      ∧ u.seq.mode =
          (if s.seq.mode = .roofSafe then (if s.cfg.committed then .inService else .configPending) else s.seq.mode)
      ∧ u.seq.ctx = none
      ∧ (∀ p, (u.ch p).state = (if (s.ch p).state = .dropped then .lowered else (s.ch p).state)
          ∧ (u.ch p).job = (s.ch p).job
          ∧ (u.ch p).disc = (match (s.ch p).disc, s.lines.discFb.get p with
              | .failed, some q => .resting q
              | d, _ => d))
      ∧ u.bsc.breaker = (if s.bsc.breaker = .failed then (if s.lines.breakerFb = .opened then .opened else .opening)
          else s.bsc.breaker)
      ∧ u.bsc.selector = (match s.bsc.selector, s.lines.selectorFb with
          | .failed _, some p => .rest p
          | d, _ => d)
      ∧ u.bsc.traction = s.bsc.traction ∧ u.bsc.permit = s.bsc.permit
      ∧ (∀ c, s.seq.ctx = some c →
          u.map.lastRemoval = some ⟨c.entry.id, c.entry.sect, .cancelled, s.clk.time, s.trv.front / 1000⟩
          ∧ ∃ x, u.seq.last = some x ∧ x.id = c.entry.id ∧ x.result = .cancelled .roofReset ∧ x.time = s.clk.time
            ∧ (∀ f, c.failure = some f → x.reason = some f.reason ∧ x.stage = some f.stage ∧ x.pan = f.pan)
            ∧ (c.failure = none → x.reason = none ∧ x.stage = some c.stage ∧ x.pan = none))
      ∧ (s.seq.ctx = none → u.seq.last = s.seq.last ∧ u.map.lastRemoval = s.map.lastRemoval)
      ∧ u.map.nextId = s.map.nextId
      ∧ u.map.entries = (s.map.entries.filter fun e => s.seq.ctx.all fun c => decide (e.id ≠ c.entry.id)).map (fun e =>
          if s.seq.mode = .roofSafe then u.moved (fun _ => true) e
          else if e.state = .armed then { e with state := .pending, target := none, noTarget := false } else e)
      ∧ { u with pch := s.pch, bsc := s.bsc, map := s.map, seq := s.seq, ice := s.ice, lnk := s.lnk,
                 iceEval := s.iceEval, longOps := s.longOps } = superviseFrame l s)

/-- ICE_WEATHER from Link M sets or clears the weather flag; from another link it is AUTH_NOT_HELD, in ROOF_SAFE ROOF_SAFE,
and with another operand BAD_OPERAND. FAULT_CLEAR from the holder or Link M empties the capture record, and from another link
is AUTH_NOT_HELD (R147, R201). -/
def Obligations.WeatherAndFaultClear : Prop :=
  ∀ (l : Link) (tag : Byte) (s : State), s.free l →
    (∀ (o : Nat) (on : Bool), l = .m → s.seq.mode ≠ .roofSafe → pairOf o = some on →
        ∃ u t, exec (.iceWeather l tag o) s = .next t ∧ t = settle u ∧ t.ice.weather = on ∧ t.ice.run = s.ice.run
          ∧ t.ice.temp = s.ice.temp ∧ t.cfg = s.cfg ∧ t.lines = s.lines ∧ t.ldet = s.ldet
          ∧ t.trv.front = s.trv.front ∧ (s.lnk.get l).tx ++ [.response 0x22 tag .ok []] <+: (t.lnk.get l).tx
          ∧ s.Answers u l tag 0x22 .ok [] (fun _ => [])
          ∧ u.ice = { s.ice with
              weather := on
              releaseStart := if (s.ice.run = 60 ∨ s.ice.weather = true) ∧ s.ice.run ≠ 60 ∧ on = false then s.clk.time
                else s.ice.releaseStart
              releaseReached := if s.ice.run = 60 ∨ s.ice.weather = true ∨ on = true then false
                else s.ice.releaseReached }
          ∧ { u with ice := s.ice, lnk := s.lnk } = superviseFrame l s)
    ∧ (∀ o : Nat, l ≠ .m →
        exec (.iceWeather l tag o) s = .next ((superviseFrame l s).answered l tag 0x22 .authNotHeld []))
    ∧ (∀ o : Nat, l = .m → s.seq.mode = .roofSafe →
        exec (.iceWeather l tag o) s = .next ((superviseFrame l s).answered l tag 0x22 .roofSafe []))
    ∧ (∀ o : Nat, l = .m → s.seq.mode ≠ .roofSafe → o ≠ 1 → o ≠ 2 →
        exec (.iceWeather l tag o) s = .next ((superviseFrame l s).answered l tag 0x22 .badOperand []))
    ∧ (s.holderOrM l = true →
        ∃ u, exec (.faultClear l tag) s = .next (settle u) ∧ s.Answers u l tag 0x30 .ok [] (fun _ => []) ∧ u.fault = none
          ∧ { u with fault := s.fault, lnk := s.lnk } = superviseFrame l s)
    ∧ (s.holderOrM l = false →
        exec (.faultClear l tag) s = .next ((superviseFrame l s).answered l tag 0x30 .authNotHeld []))

/-- LOWER_ALL from any link in any mode (R61, R134, R160, R172): every raised pantograph enters LOWERING or LOWERED, the others
but ISOLATED ones keep their state, no pantograph but an ISOLATED one keeps an owner, a closed breaker opens, traction-wanted is
cleared, the sequence ends CANCELLED with its entry removed and the scrape procedure is idle. It is a long operation unless the
roof is down already, every pantograph LOWERED, ISOLATED, or DROPPED with its lowered limit active, and every LOWER_ALL in
flight ends where the roof is down, and not before (R61, R172, R186); that this is judged of the roof as the other reactions of
an event leave it is the model's choice (log 52). The authority record is that of any frame received (R164). -/
def Obligations.LowerAllLowersTheRoof : Prop :=
  (∀ s : State,
    (s.StandsDown → (∃ o ∈ s.longOps, o.kind = .lowerAll) →
        watchLowerAll s = some { s with longOps := s.longOps.filter fun o => o.kind ≠ .lowerAll })
    ∧ (¬ s.StandsDown ∨ (∀ o ∈ s.longOps, o.kind ≠ .lowerAll) → watchLowerAll s = none)
    ∧ (s.roofDown = true ↔ s.StandsDown))
  ∧ ∀ (l : Link) (tag : Byte) (s : State), s.free l →
    ∃ u, exec (.lowerAll l tag) s = .next (settle u)
      ∧ (s.roofDown = false → ⟨l, .lowerAll, false⟩ ∈ u.longOps)
      ∧ (s.roofDown = true → ∀ o ∈ u.longOps, o ∈ s.longOps)
      ∧ s.Answers u l tag 0x27 (if s.roofDown then .ok else .accepted) [] (fun _ =>
          (if u.pch = s.pch then [] else [.pan])
            ++ (if u.bsc.breaker = s.bsc.breaker ∧ s.bsc.traction = false then [] else [.breaker])
            ++ (if s.seq.ctx.isSome then [.entry] else []))
      ∧ (∀ p, (u.ch p).state =
            (if (s.ch p).state.isRaised then (if s.lines.lowered.get p then .lowered else .lowering) else (s.ch p).state)
          ∧ ((s.ch p).state ≠ .isolated → (u.ch p).job = none)
          ∧ ((s.ch p).state = .isolated → u.ch p = s.ch p))
      ∧ u.bsc.breaker = (if s.bsc.breaker = .closed ∨ s.bsc.breaker = .closing then .opening else s.bsc.breaker)
      ∧ u.bsc.traction = false ∧ u.bsc.reclose = false ∧ u.bsc.selector = s.bsc.selector ∧ u.seq.ctx = none
      ∧ u.seq.mode = s.seq.mode ∧ u.ice.proc = .idle ∧ u.ice.state = s.ice.state
      ∧ (∀ c, s.seq.ctx = some c →
          u.map.lastRemoval = some ⟨c.entry.id, c.entry.sect, .cancelled, s.clk.time, s.trv.front / 1000⟩
          ∧ ∃ x, u.seq.last = some x ∧ x.id = c.entry.id ∧ x.result = .cancelled .lowerAll ∧ x.time = s.clk.time
            ∧ (∀ f, c.failure = some f → x.reason = some f.reason ∧ x.stage = some f.stage ∧ x.pan = f.pan)
            ∧ (c.failure = none → x.reason = none ∧ x.stage = some c.stage ∧ x.pan = none))
      ∧ (s.seq.ctx = none → u.seq.last = s.seq.last ∧ u.map.lastRemoval = s.map.lastRemoval)
      ∧ u.map.nextId = s.map.nextId
      ∧ u.map.entries = s.map.entries.filter (fun e => s.seq.ctx.all fun c => decide (e.id ≠ c.entry.id))
      ∧ { u with pch := s.pch, freg := s.freg, bsc := s.bsc, map := s.map, seq := s.seq, ice := s.ice, lnk := s.lnk,
                 longOps := s.longOps, reports := s.reports, iceEval := s.iceEval } = superviseFrame l s

/-! ### The roof authority -/

/-- AUTH_REQUEST (R162, R166, R167): the holder is OK, the pending requester PENDING, another link while one waits
AUTH_BUSY, each changing nothing else; a request that finds another holder waits as PENDING; a request that finds no holder
and no deferral is granted at once, with the leading end of its cab and the supervision timer started; one that changes the
leading end raises MAP, also where the map is empty already, which is the model's reading (log 19), and a scrape that it stops
raises the notices of its lower request. -/
def Obligations.AuthRequestGrantsOrWaits : Prop :=
  ∀ (l : Link) (tag : Byte) (s : State), s.free l →
    (s.auth.holder = some l →
        exec (.authRequest l tag) s = .next (settle ((superviseFrame l s).answered l tag 0x24 .ok [])))
    ∧ (s.auth.holder ≠ some l → s.auth.requester = some l →
        exec (.authRequest l tag) s = .next (settle (s.answered l tag 0x24 .pending [])))
    ∧ (∀ k, s.auth.holder ≠ some l → s.auth.requester = some k → k ≠ l →
        exec (.authRequest l tag) s = .next (s.answered l tag 0x24 .authBusy []))
    ∧ (s.auth.requester = none → (s.auth.holder = none ∧ s.deferred (some l) = true
          ∨ ∃ k, s.auth.holder = some k ∧ k ≠ l) →
        ∃ u, exec (.authRequest l tag) s = .next (settle u) ∧ s.Answers u l tag 0x24 .pending [] (fun _ => [.auth])
          ∧ u.auth = { s.auth with requester := some l } ∧ { u with lnk := s.lnk, auth := s.auth } = s)
    ∧ (s.auth.holder = none → s.auth.requester = none → s.deferred (some l) = false →
        ∃ u stop, exec (.authRequest l tag) s = .next (settle u)
          ∧ s.Answers u l tag 0x24 .ok [] (fun _ => .auth :: if s.endChanges l = true then .map :: stop else [])
          ∧ (∀ c ∈ stop, c = .pan ∨ c = .breaker)
          ∧ ((∀ p b, s.ice.proc ≠ .raise p b ∧ s.ice.proc ≠ .on p) → stop = [] ∧ u.pch = s.pch ∧ u.bsc = s.bsc)
          ∧ ((∃ p, (u.ch p).state ≠ (s.ch p).state) → s.endChanges l = true ∧ .pan ∈ stop)
          ∧ (u.bsc.breaker ≠ s.bsc.breaker → s.endChanges l = true ∧ .breaker ∈ stop)
          ∧ u.auth = { s.auth with
              holder := some l, requester := none, owed := none
              supervision := some ⟨s.clk.time, s.cfg.items.authSupervision⟩
              lastChange := some ⟨s.clk.time, .grantFree, none, some l⟩
              leading := match l with | .a => .endA | .b => .endB | .m => s.auth.leading }
          ∧ u.bsc.traction = s.bsc.traction ∧ u.cfg = s.cfg ∧ u.trv.front = s.trv.front)

/-- A grant that changes the leading end empties the map, raising MAP also where it is empty already, which is the model's
choice (log 19), clears the run counters and the direction state, and recomputes
the four offsets for the new end; a grant that changes none leaves all of them (R9, R16, R115, R168). -/
def Obligations.LeadingEndChangeClearsTheMap : Prop :=
  ∀ (l : Link) (tag : Byte) (s : State), s.free l → s.auth.holder = none → s.auth.requester = none →
    s.deferred (some l) = false →
    (s.endChanges l = true →
        ∃ u, exec (.authRequest l tag) s = .next (settle u) ∧ u.map.entries = [] ∧ u.map.nextId = s.map.nextId
          ∧ u.trv.fwdRun = 0 ∧ u.trv.revRun = 0 ∧ u.trv.direction = .normal ∧ u.Noticed .map
          ∧ ∀ p, u.trv.offsets.get p =
              if l = .a then s.trv.fA + s.cfg.items.panPosition.get p
              else s.trv.fB + (s.cfg.items.carLength - s.cfg.items.panPosition.get p))
    ∧ (s.endChanges l = false →
        ∃ u, exec (.authRequest l tag) s = .next (settle u) ∧ u.map = s.map ∧ u.trv = s.trv ∧ u.pch = s.pch
          ∧ u.bsc = s.bsc)

/-- AUTH_RELEASE and the lapse of the supervision (R163, R164): from the holder a change is owed with its cause and the
supervision stops, or, where one is owed already, nothing changes; from the pending requester the request is withdrawn, a
parked command is recorded as discarded, and an owed change that no deferral holds back is made, to no holder; from another
link it is AUTH_NOT_HELD. A lapse that is due owes a change with cause LAPSE. A change owed, or a request with no holder,
is made at the first event with no entry ACTIVE and, where it changes the leading end, at standstill (R166, R167): the pending
requester, or none, is the holder, the record and the supervision are those of R166, and a change of the leading end empties the
map and recomputes the offsets (R168). A parked command is then taken as a command of the new holder, which a command row of that
holder is too; its status is the parked result, and notice AUTH is raised (R170). -/
def Obligations.ReleaseAndLapseOweAChange : Prop :=
  (∀ s : State,
    (¬ ((s.auth.owed ≠ none ∨ s.auth.holder = none ∧ s.auth.requester ≠ none) ∧ (∀ e ∈ s.map.entries, e.state ≠ .active)
        ∧ ∀ k, s.auth.requester = some k → s.endChanges k = true → s.trv.speed = 0) → watchAuthority s = none)
    ∧ ((s.auth.owed ≠ none ∨ s.auth.holder = none ∧ s.auth.requester ≠ none) → (∀ e ∈ s.map.entries, e.state ≠ .active) →
        (∀ k, s.auth.requester = some k → s.endChanges k = true → s.trv.speed = 0) →
        ∃ v, watchAuthority s = some (runParked v) ∧ v.Noticed .auth ∧ v.still = s.still
          ∧ v.auth = { s.auth with
              holder := s.auth.requester, requester := none, owed := none
              supervision := s.auth.requester.map fun _ => ⟨s.clk.time, s.cfg.items.authSupervision⟩
              lastChange := some ⟨s.clk.time, match s.auth.holder, s.auth.owed with
                | some _, some c => .owed c
                | some _, none | none, _ => .grantFree, s.auth.holder, s.auth.requester⟩
              leading := match s.auth.requester with
                | some .a => .endA
                | some .b => .endB
                | some .m | none => s.auth.leading }
          ∧ ∀ k, s.auth.requester = some k → s.endChanges k = true →
              v.map.entries = [] ∧ v.trv.fwdRun = 0 ∧ v.trv.revRun = 0 ∧ v.trv.direction = .normal ∧ v.Noticed .map
              ∧ ∀ p, v.trv.offsets.get p =
                  if k = .a then s.trv.fA + s.cfg.items.panPosition.get p
                  else s.trv.fB + (s.cfg.items.carLength - s.cfg.items.panPosition.get p))
    ∧ (∀ k, s.endChanges k = true ↔ k = .a ∧ s.auth.leading = .endB ∨ k = .b ∧ s.auth.leading = .endA)
    ∧ (s.auth.parked = none ∨ s.auth.holder = none → runParked s = s)
    ∧ (∀ c k, s.auth.parked = some c → s.auth.holder = some k →
        ∃ w st, runAuthority k c.cmd { s with auth := { s.auth with parked := none } } = (w, st)
          ∧ (runParked s).auth = { w.auth with parkedResult := some ⟨k, c.cmd.code, c.tag, .status st⟩ }
          ∧ w.auth.parked = none ∧ (runParked s).Noticed .auth
          ∧ { runParked s with auth := w.auth, lnk := w.lnk } = w)
    ∧ ∀ i k tag c, i.offered = some (k, tag, c) → isAuthority c = true → s.commands k →
        ∃ w st, runAuthority k c (superviseFrame k s) = (w, st)
          ∧ exec i s = .next (if st = .ok ∨ st = .accepted then settle (w.answered k tag c.code st [])
              else w.answered k tag c.code st []))
  ∧ ∀ (l : Link) (tag : Byte) (s : State), s.free l →
    (s.auth.holder = some l → s.auth.owed = none →
        ∃ u, exec (.authRelease l tag) s = .next (settle u) ∧ s.Answers u l tag 0x25 .ok [] (fun _ => [.auth])
          ∧ u.auth = { s.auth with owed := some .release, supervision := none } ∧ { u with lnk := s.lnk, auth := s.auth } = s)
    ∧ (s.auth.holder = some l → s.auth.owed ≠ none →
        exec (.authRelease l tag) s = .next (settle ((superviseFrame l s).answered l tag 0x25 .ok [])))
    ∧ (s.auth.holder ≠ some l → s.auth.requester = some l →
        ∃ u, exec (.authRelease l tag) s = .next (settle u)
          ∧ s.Answers u l tag 0x25 .ok [] (fun _ => [.auth]) ∧ u.auth.requester = none
          ∧ u.auth.parked = none ∧ u.auth.leading = s.auth.leading
          ∧ (s.auth.owed = none ∨ s.deferred none = true →
              u.auth.holder = s.auth.holder ∧ u.auth.owed = s.auth.owed ∧ u.auth.supervision = s.auth.supervision
              ∧ u.auth.lastChange = s.auth.lastChange)
          ∧ (s.auth.owed ≠ none → s.deferred none = false → u.auth.holder = none ∧ u.auth.owed = none
              ∧ u.auth.supervision = none ∧ u.auth.lastChange = some ⟨s.clk.time, .withdrawal, s.auth.holder, none⟩)
          ∧ (∀ k, s.auth.parked = some k →
              u.auth.parkedResult = some ⟨l, k.cmd.code, k.tag, .discarded⟩)
          ∧ (s.auth.parked = none → u.auth.parkedResult = s.auth.parkedResult)
          ∧ { u with lnk := s.lnk, auth := s.auth } = s)
    ∧ (s.auth.holder ≠ some l → s.auth.requester ≠ some l →
        exec (.authRelease l tag) s = .next (s.answered l tag 0x25 .authNotHeld []))
    ∧ (s.lapseDue = true →
        ∃ u, exec .supervisionLapse s = .next (settle u)
          ∧ u.auth = { s.auth with owed := some .lapse, supervision := none } ∧ s.Raises u (fun _ => [.auth])
          ∧ { u with lnk := s.lnk, auth := s.auth } = s)

/-! ### Configuration -/

/-- CONFIG_WRITE (R171, R193, R194): from a link other than M it is AUTH_NOT_HELD; in ROOF_SAFE, and in IN_SERVICE where the
roof is not quiescent, NOT_QUIESCENT; for an item or an index that Table 11-1 does not have, a value out of the item's range
there, and ARC_SET and ARC_CLEAR that meet or cross, BAD_OPERAND; in IN_SERVICE for a value that fails a check of CONFIG_COMMIT,
CONFIG_INVALID; each changes nothing else. Otherwise the item takes the value, reads back as it (R197), and the answer is OK; a
write of the car length or of a position recomputes the four offsets, a position beyond the car length counting as the car
length (R12, R14), and no other write moves them. -/
def Obligations.ConfigWriteWritesTheItem : Prop :=
  ∀ (l : Link) (tag : Byte) (item x v : Nat) (s : State), s.free l →
    (l ≠ .m →
        exec (.configWrite l tag item x v) s = .next ((superviseFrame l s).answered l tag 0x28 .authNotHeld []))
    ∧ (l = .m → s.seq.mode ≠ .configPending → s.quiescent = false →
        exec (.configWrite l tag item x v) s = .next ((superviseFrame l s).answered l tag 0x28 .notQuiescent []))
    ∧ (l = .m → s.Configures →
        (ItemExists item x → (slotOf item x).isSome = true)
        ∧ (¬ ItemExists item x →
            exec (.configWrite l tag item x v) s = .next ((superviseFrame l s).answered l tag 0x28 .badOperand []))
        ∧ ∀ slot, slotOf item x = some slot → itemRanges[item - 1]? = some (slot.lo, slot.hi) ∧
          (v < slot.lo ∨ slot.hi < v ∨ item = 27 ∧ v ≤ s.cfg.items.arcClear ∨ item = 28 ∧ s.cfg.items.arcSet ≤ v →
            exec (.configWrite l tag item x v) s = .next ((superviseFrame l s).answered l tag 0x28 .badOperand []))
          ∧ (slot.lo ≤ v → v ≤ slot.hi → s.cfg.items.arcClear < s.cfg.items.arcSet →
              (item = 27 → s.cfg.items.arcClear < v) → (item = 28 → v < s.cfg.items.arcSet) →
            (s.seq.mode = .inService → ¬ ChecksPass (slot.write v s.cfg.items) s.cfg.tables →
              exec (.configWrite l tag item x v) s = .next ((superviseFrame l s).answered l tag 0x28 .configInvalid []))
            ∧ (s.seq.mode = .configPending ∨ ChecksPass (slot.write v s.cfg.items) s.cfg.tables →
              ∃ u, exec (.configWrite l tag item x v) s = .next (settle u)
                ∧ s.Answers u l tag 0x28 .ok [] (fun _ => [])
                ∧ u.cfg = { s.cfg with items := slot.write v s.cfg.items } ∧ slot.read u.cfg.items = v
                ∧ { u.trv with offsets := s.trv.offsets } = s.trv
                ∧ (item = 3 ∨ item = 4 → ∀ q, u.trv.offsets.get q =
                    match s.auth.leading with
                    | .endA => s.trv.fA + u.cfg.items.panPosition.get q
                    | .endB => s.trv.fB + (u.cfg.items.carLength - u.cfg.items.panPosition.get q))
                ∧ (item ≠ 3 → item ≠ 4 → u.trv = s.trv)
                ∧ { u with cfg := s.cfg, trv := s.trv, lnk := s.lnk } = superviseFrame l s)))

/-- CONFIG_COMMIT and CONFIG_REOPEN (R193, R195, R196): from a link other than M each is AUTH_NOT_HELD. CONFIG_COMMIT from Link M
puts a roof in CONFIG_PENDING in service where its three checks pass, and elsewhere records the first check that failed and answers
CONFIG_INVALID; where several channels or line systems fail it, the report names the one of the lowest number, which is the model's
reading (log 27). In IN_SERVICE it is OK without an effect where the roof is quiescent, and NOT_QUIESCENT where it is not, as in
ROOF_SAFE. CONFIG_REOPEN of a quiescent roof empties the map, its entries removed as CANCELLED, with notice MAP also where it is
empty already, which is the model's reading (log 19), and leaves service; of another roof it is NOT_QUIESCENT. -/
def Obligations.CommitAndReopen : Prop :=
  ∀ (l : Link) (tag : Byte) (s : State), s.free l →
    (s.quiescent = true ↔ s.seq.mode = .inService ∧ (∀ p, (s.ch p).state = .lowered ∨ (s.ch p).state = .isolated)
        ∧ s.bsc.breaker = .opened ∧ s.trv.speed = 0 ∧ ∀ e ∈ s.map.entries, e.state ≠ .active)
    ∧ (l ≠ .m →
        exec (.configCommit l tag) s = .next ((superviseFrame l s).answered l tag 0x2A .authNotHeld [])
        ∧ exec (.configReopen l tag) s = .next ((superviseFrame l s).answered l tag 0x2B .authNotHeld []))
    ∧ (l = .m →
        (s.seq.mode = .configPending → ChecksPass s.cfg.items s.cfg.tables →
          ∃ u, exec (.configCommit l tag) s = .next (settle u)
            ∧ s.Answers u l tag 0x2A .ok [] (fun _ => .config :: if u.map.entries = s.map.entries then [] else [.entry])
            ∧ u.seq = { s.seq with mode := .inService } ∧ u.cfg = { s.cfg with committed := true, report := some .success }
            ∧ u.spans = s.spans
            ∧ { u with cfg := s.cfg, seq := s.seq, map := s.map, lnk := s.lnk, iceEval := s.iceEval } = superviseFrame l s)
        ∧ (∀ r, s.seq.mode = .configPending → FirstFailed s.cfg.items s.cfg.tables r →
          exec (.configCommit l tag) s = .next
            (({ superviseFrame l s with cfg := { s.cfg with report := some r } }).answered l tag 0x2A .configInvalid []))
        ∧ (s.quiescent = true →
          exec (.configCommit l tag) s = .next (settle ((superviseFrame l s).answered l tag 0x2A .ok [])))
        ∧ (s.seq.mode ≠ .configPending → s.quiescent = false →
          exec (.configCommit l tag) s = .next ((superviseFrame l s).answered l tag 0x2A .notQuiescent []))
        ∧ (s.quiescent = true →
          ∃ u, exec (.configReopen l tag) s = .next (settle u) ∧ s.Answers u l tag 0x2B .ok [] (fun _ => [.config, .map])
            ∧ u.seq = { s.seq with mode := .configPending } ∧ u.cfg = { s.cfg with committed := false }
            ∧ u.map.entries = [] ∧ u.map.nextId = s.map.nextId
            ∧ u.map.lastRemoval = (match s.map.entries.getLast? with
                | some e => some ⟨e.id, e.sect, .cancelled, s.clk.time, s.trv.front / 1000⟩
                | none => s.map.lastRemoval)
            ∧ { u with cfg := s.cfg, seq := s.seq, map := s.map, lnk := s.lnk, iceEval := s.iceEval } = superviseFrame l s)
        ∧ (s.quiescent = false →
          exec (.configReopen l tag) s = .next ((superviseFrame l s).answered l tag 0x2B .notQuiescent [])))

/-- ISOLATE, RESTORE and the writes of a force point, in CONFIG_PENDING and of a quiescent roof in service alike: from a link other
than M each is AUTH_NOT_HELD, and where the mode and quiescence do not admit it NOT_QUIESCENT; a number out of 1 to 4, a class other
than AC and DC, a point above 8 and a force out of 40 to 200 N are BAD_OPERAND (R62, R66, R67, R193). ISOLATE of a LOWERED
pantograph with no owner isolates it, and of another is PAN_UNAVAILABLE; RESTORE of an ISOLATED one takes it to LOWERED, or to
LOWERING where its lowered limit is not active, and of another is PAN_UNAVAILABLE (R45, R62). A write sets its point and the cursor
to it; a refusal clears the cursor, but for a force, which leaves it at the point before the one refused; the continuation without
its cursor, or after another command, is ILLEGAL_SEQUENCE and leaves the cursor, and past point 8 BAD_OPERAND (R66, R67, R185). -/
def Obligations.ConfigurationActs : Prop :=
  ∀ (l : Link) (tag : Byte) (s : State), s.free l →
    (∀ n k i f : Nat, l ≠ .m →
        exec (.isolate l tag n) s = .next ((superviseFrame l s).answered l tag 0x0C .authNotHeld [])
        ∧ exec (.restore l tag n) s = .next ((superviseFrame l s).answered l tag 0x0D .authNotHeld [])
        ∧ exec (.forceTableWrite l tag k i f) s = .next ((superviseFrame l s).answered l tag 0x0F .authNotHeld [])
        ∧ exec (.forceTableWriteNext l tag f) s = .next ((superviseFrame l s).answered l tag 0x10 .authNotHeld []))
    ∧ (∀ n k i f : Nat, l = .m → s.seq.mode ≠ .configPending → s.quiescent = false →
        exec (.isolate l tag n) s = .next ((superviseFrame l s).answered l tag 0x0C .notQuiescent [])
        ∧ exec (.restore l tag n) s = .next ((superviseFrame l s).answered l tag 0x0D .notQuiescent [])
        ∧ exec (.forceTableWrite l tag k i f) s = .next ((superviseFrame l s).answered l tag 0x0F .notQuiescent [])
        ∧ exec (.forceTableWriteNext l tag f) s = .next ((superviseFrame l s).answered l tag 0x10 .notQuiescent []))
    ∧ (l = .m → s.Configures →
      (∀ n : Nat, n = 0 ∨ 5 ≤ n →
          exec (.isolate l tag n) s = .next ((superviseFrame l s).answered l tag 0x0C .badOperand [])
          ∧ exec (.restore l tag n) s = .next ((superviseFrame l s).answered l tag 0x0D .badOperand []))
      ∧ (∀ p : Pan, (s.ch p).state ≠ .lowered ∨ (s.ch p).job ≠ none →
          exec (.isolate l tag p.num) s = .next ((superviseFrame l s).answered l tag 0x0C .panUnavailable []))
      ∧ (∀ p : Pan, (s.ch p).state = .lowered → (s.ch p).job = none →
          ∃ u, exec (.isolate l tag p.num) s = .next (settle u) ∧ s.Answers u l tag 0x0C .ok [] (fun _ => [.pan])
            ∧ u.ch p = { s.ch p with state := .isolated } ∧ (∀ q, q ≠ p → u.ch q = s.ch q)
            ∧ (u.ice.heaters.get p).manual = false ∧ (∀ h, (u.ice.heaters.get p).out ≠ .on h)
            ∧ (∀ q, q ≠ p → u.ice.heaters.get q = s.ice.heaters.get q)
            ∧ { u with pch := s.pch, ice := s.ice, lnk := s.lnk, iceEval := s.iceEval } = superviseFrame l s)
      ∧ (∀ p : Pan, (s.ch p).state ≠ .isolated →
          exec (.restore l tag p.num) s = .next ((superviseFrame l s).answered l tag 0x0D .panUnavailable []))
      ∧ (∀ p : Pan, (s.ch p).state = .isolated →
          ∃ u, exec (.restore l tag p.num) s = .next (settle u) ∧ s.Answers u l tag 0x0D .ok [] (fun _ => [.pan])
            ∧ (∀ q, q ≠ p → u.ch q = s.ch q ∧ u.freg.get q = s.freg.get q)
            ∧ (s.lines.lowered.get p = true → u.ch p = { s.ch p with state := .lowered } ∧ u.freg = s.freg
              ∧ u.longOps = s.longOps)
            ∧ (s.lines.lowered.get p = false →
              u.ch p = { s.ch p with
                state := .lowering, settle := none, loss := none, below := 0, lowerReq := false
                lowerStart := s.clk.total, lowerLen := s.cfg.items.lowerLimit, lowerFired := false }
              ∧ u.freg.get p = { s.freg.get p with pCmd := 0, target := none })
            ∧ { u with pch := s.pch, freg := s.freg, longOps := s.longOps, lnk := s.lnk
                       iceEval := s.iceEval } = superviseFrame l s)
      ∧ (∀ k i f : Nat, classOf k = none ∨ 9 ≤ i →
          exec (.forceTableWrite l tag k i f) s =
            .next (((superviseFrame l s).modPort l fun q => { q with cursor := .none }).answered l tag 0x0F .badOperand []))
      ∧ (∀ (c : PClass) (k i f : Nat), classOf k = some c → i ≤ 8 → f < 40 ∨ 200 < f →
          exec (.forceTableWrite l tag k i f) s =
            .next (((superviseFrame l s).modPort l fun q =>
              { q with cursor := if i = 0 then .none else .tableWrite c (i - 1) }).answered l tag 0x0F .badOperand []))
      ∧ (∀ (c : PClass) (k i f : Nat), classOf k = some c → i ≤ 8 → 40 ≤ f → f ≤ 200 →
          ∃ u, exec (.forceTableWrite l tag k i f) s = .next (settle u)
            ∧ (s.modPort l fun q => { q with cursor := .tableWrite c i }).Answers u l tag 0x0F .ok [] (fun _ => [])
            ∧ u.cfg.tables = s.cfg.tables.set c ((s.cfg.tables.get c).set i f)
            ∧ { u with cfg := { u.cfg with tables := s.cfg.tables }, lnk := s.lnk } = superviseFrame l s)
      ∧ (∀ f : Nat, (∀ c i, (s.lnk.get l).cursor ≠ .tableWrite c i) ∨ (s.lnk.get l).lastTaken ≠ some 0x0F
            ∧ (s.lnk.get l).lastTaken ≠ some 0x10 ∧ (s.lnk.get l).lastTaken ≠ some 0x01 →
          exec (.forceTableWriteNext l tag f) s = .next ((superviseFrame l s).answeredOutOfSequence l tag 0x10))
      ∧ (∀ (c : PClass) (i f : Nat), (s.lnk.get l).cursor = .tableWrite c i →
          (s.lnk.get l).lastTaken = some 0x0F ∨ (s.lnk.get l).lastTaken = some 0x10 ∨ (s.lnk.get l).lastTaken = some 0x01 →
          (8 ≤ i → exec (.forceTableWriteNext l tag f) s =
            .next (((superviseFrame l s).modPort l fun q => { q with cursor := .none }).answered l tag 0x10 .badOperand []))
          ∧ (i < 8 → f < 40 ∨ 200 < f →
            exec (.forceTableWriteNext l tag f) s = .next ((superviseFrame l s).answered l tag 0x10 .badOperand []))
          ∧ (i < 8 → 40 ≤ f → f ≤ 200 →
            ∃ u, exec (.forceTableWriteNext l tag f) s = .next (settle u)
              ∧ (s.modPort l fun q => { q with cursor := .tableWrite c (i + 1) }).Answers u l tag 0x10 .ok [] (fun _ => [])
              ∧ u.cfg.tables = s.cfg.tables.set c ((s.cfg.tables.get c).set (i + 1) f)
              ∧ { u with cfg := { u.cfg with tables := s.cfg.tables }, lnk := s.lnk } = superviseFrame l s)))

/-! ### Power-on -/

/-- POWER_ON from any state keeps the levels of the input lines and the queue of events; a travel pulse line found active went
active then, under the default width (R19), and so did an arc pulse input, which is the model's choice (log 3). It sets the time
base, the store, the odometer, the detector, the id counter and every link's queue, cursor, flags and enable set to their
power-on values. Where the lines show no fault, every other block is at its power-on values too, with each pantograph LOWERED or
LOWERING, each disconnector and the selector at rest where their feedback reads, and the breaker OPEN or opening (R1, R19, R36,
R64, R77, R96, R119, R142, R160, R174, R192, R197, R199, R201). Recorded starts that nothing has set yet are the model's values
(log 4), and so is that no notice is pending then (log 21). -/
def Obligations.PowerOnSetsEveryBlock : Prop :=
  ∀ s : State,
    (∃ t, exec .powerOn s = .next t ∧ t.clk = ⟨0, 0, 0, 0⟩ ∧ t.pending = s.pending ∧ t.cfg = .initial
      ∧ { t.lines with travelPulse := s.lines.travelPulse, arcPulse := s.lines.arcPulse } = s.lines
      ∧ t.lines.travelPulse = (if s.lines.travelPulse = .inactive then .inactive else .active 20)
      ∧ (∀ p, t.lines.arcPulse.get p = if s.lines.arcPulse.get p = .inactive then .inactive else .active 50)
      ∧ t.trv.front = 0 ∧ t.trv.speed = 0 ∧ t.trv.history = [0, 0, 0, 0, 0] ∧ t.ldet = .initial ∧ t.map.nextId = 1
      ∧ ∀ l, (t.lnk.get l).still = Port.initial.still)
    ∧ ((∀ p, (s.lines.discFb.get p).isSome = true) → s.lines.selectorFb.isSome = true → s.lines.earthed = false →
        ∃ t, exec .powerOn s = .next t ∧ t.trv = .initial ∧ t.map = .initial ∧ t.seq = .initial ∧ t.ice = .initial
          ∧ t.auth = .initial ∧ t.lnk = .all .initial ∧ t.freg = .all .initial ∧ t.longOps = [] ∧ t.sync = none
          ∧ t.fault = none
          ∧ (∀ p, t.ch p = { Channel.initial with
              state := if s.lines.lowered.get p then .lowered else .lowering
              disc := match s.lines.discFb.get p with
                | some q => .resting q
                | none => .failed })
          ∧ t.bsc = { Power.initial with
              breaker := if s.lines.breakerFb = .opened then .opened else .opening
              selector := match s.lines.selectorFb with
                | some q => .rest q
                | none => .failed .opened })

/-! ### Travel -/

/-- The travel pulse line (R3, R18): a pulse is judged by the width in force when the line went active, one that has not been
active for it changes nothing, and after an accepted one the line must go inactive before another is accepted. An accepted pulse
moves the front by the pulse length, forward or in reverse as the direction line and the leading end say, within the odometer's
range; the accumulator takes the length whatever the direction; the run of its direction grows to 2000 mm at most and the other
is cleared; no pantograph, no setting and no clock changes (R4, R5, R6, R8). Of the map, every overrun entry leaves, with an
open request and OVERRUN for a system change; entering REVERSING every ARMED entry returns to PENDING; a PENDING entry within
the arm distance arms (R8, R104 to R106, R112); that these come in this order, before any activation, is the model's choice (log
40). That an empty fault record is filled with OVERRUN, also where the pulse ends CLEARING of the ACTIVE entry with a failure,
is the model's choice, for R200 lets OVERRUN or SEQ_FAILED reach NFU first (log 47). The last removal is that of the last
overrun entry, also where the pulse ends CLEARING and with it the sequence, whose entry leaves before the overruns; with the
roof not live that sequence ends DONE, and with it live the effects of its further stages are not stated here (R103, R122,
R126). The row carries the microseconds the line has been active (log 10). -/
def Obligations.TravelPulseMovesTheFront : Prop :=
  ∀ (dir : TravelDir) (us : Nat) (s : State),
    exec (.travelPulse dir .goesInactive) s = .next { s with lines := { s.lines with travelPulse := .inactive } }
    ∧ (s.lines.travelPulse = .accepted →
        exec (.travelPulse dir .goesActive) s = .next s ∧ exec (.travelPulse dir (.activeFor us)) s = .next s)
    ∧ (s.lines.travelPulse = .inactive → exec (.travelPulse dir .goesActive) s =
        .next { s with lines := { s.lines with travelPulse := .active s.cfg.items.pulseMinWidth } })
    ∧ (∀ w, s.lines.travelPulse = .active w → exec (.travelPulse dir .goesActive) s = .next s)
    ∧ (∀ w, s.lines.travelPulse = .active w ∨ s.lines.travelPulse = .inactive ∧ w = s.cfg.items.pulseMinWidth → us < w →
        exec (.travelPulse dir (.activeFor us)) s =
          .next { s with lines := { s.lines with travelPulse := .active w } })
    ∧ (∀ w, s.lines.travelPulse = .active w ∨ s.lines.travelPulse = .inactive ∧ w = s.cfg.items.pulseMinWidth → w ≤ us →
      ∀ forward : Bool,
        (forward = true ↔ (s.auth.leading = .endA ∧ dir = .aForward ∨ s.auth.leading = .endB ∧ dir = .bForward)) →
        ∃ u, exec (.travelPulse dir (.activeFor us)) s = .next (settle u)
          ∧ u.lines = { s.lines with travelPulse := .accepted }
          ∧ u.trv.front = (if forward then min 4294967295 (s.trv.front + s.cfg.items.pulseLength)
              else s.trv.front - s.cfg.items.pulseLength)
          ∧ u.trv.acc = s.trv.acc + s.cfg.items.pulseLength
          ∧ u.trv.fwdRun = (if forward then min 2000 (s.trv.fwdRun + s.cfg.items.pulseLength) else 0)
          ∧ u.trv.revRun = (if forward then 0 else min 2000 (s.trv.revRun + s.cfg.items.pulseLength))
          ∧ u.trv.direction = (match s.trv.direction with
              | .normal => if u.trv.revRun = 2000 then .reversing else .normal
              | .reversing => if u.trv.fwdRun = 2000 then .normal else .reversing)
          ∧ { u.trv with front := s.trv.front, acc := s.trv.acc, fwdRun := s.trv.fwdRun, revRun := s.trv.revRun,
                         direction := s.trv.direction } = s.trv
          ∧ u.map.nextId = s.map.nextId ∧ s.RemovedLast u u.trv.front
          ∧ (∀ e ∈ s.map.entries, s.Overruns u.trv.front e → ∀ y w k, e.sect = .systemChange y w k →
              s.fault = none → ∃ f, u.fault = some f ∧ f.kind = .overrun)
          ∧ (∀ gone, s.EndsAtFront u.trv.front True gone →
              s.EndsDone u gone
              ∧ s.Raises u (fun _ =>
                  (if u.trv.direction = s.trv.direction then [] else [.map])
                    ++ (if u.map.entries = s.map.entries then [] else [.entry])
                    ++ (if u.bsc.breaker = s.bsc.breaker then [] else [.breaker])
                    ++ (if s.map.entries.any (s.overrunsChange u.trv.front) = true then [.fault] else []))
              ∧ ((s.map.entries.map (·.id)).Nodup →
                  u.map.entries = ((s.map.entries.filter fun e => (e.state = .active
                      ∨ u.trv.front < (e.start + e.length) * 1000 + largestOffset s.trv.offsets s.usablePans
                          + s.cfg.items.clearMargin * 1000) ∧ gone.all (fun c => decide (e.id ≠ c.entry.id)) = true).map
                    ({ s with trv := u.trv }.moved fun _ =>
                      decide (s.trv.direction = Direction.normal ∧ u.trv.direction = Direction.reversing))))
              ∧ (∀ e ∈ s.map.entries, s.Overruns u.trv.front e → ∀ y w k, e.sect = .systemChange y w k →
                  (s.bsc.breaker = .closed → u.bsc.breaker = .opening) ∧ u.bsc.traction = s.bsc.traction)
              ∧ { u with lines := s.lines, trv := s.trv, map := s.map, bsc := s.bsc, seq := s.seq, lnk := s.lnk
                         longOps := s.longOps, fault := s.fault, reports := s.reports, iceEval := s.iceEval } = s))

/-- The end of a speed interval (R2, R6, R69 to R74, R104, R109), before the choice that R167 leaves open: the accumulator
enters the history and the speed is twice the sum of the last five, at most 125 000 mm/s; the setpoint and the target of a
raised pantograph are those that its profile table gives at the new speed, and its commanded pressure is the target where it
lies within the slew of it, else the slew nearer to it; the others' pressures stand. PENDING entries within the arm distance
arm, and the first ARMED entry's action point is computed from the new speed. The choice is an opaque of Config (log 5), and
that an interval end offered early ends the interval early is the model's (log 7). -/
def Obligations.SpeedIntervalEnds : Prop :=
  ∀ s : State, ∃ u, exec .speedIntervalEnd s = .next (settle (raceAtInterval u))
    ∧ u.trv.history = s.trv.history.drop 1 ++ [s.trv.acc] ∧ u.trv.acc = 0
    ∧ u.trv.speed = min 125000 (2 * (s.trv.history.drop 1 ++ [s.trv.acc]).sum)
    ∧ { u.trv with history := s.trv.history, acc := s.trv.acc, speed := s.trv.speed } = s.trv
    ∧ u.clk = { s.clk with speedClock := 0 }
    ∧ (∀ p, (s.ch p).state.isRaised = true →
        ∃ force target, 40 ≤ force ∧ force ≤ 200
          ∧ s.SetpointAt p (s.ch p).role u.trv.speed force
          ∧ target = min s.cfg.items.pMax
              (s.cfg.items.calOffset.get p + force * s.cfg.items.calGain.get p / 256)
          ∧ (u.freg.get p).force = force ∧ (u.freg.get p).target = some target
          ∧ (u.freg.get p).pCmd =
              (if (s.freg.get p).pCmd + s.cfg.items.pressureSlew < target then
                (s.freg.get p).pCmd + s.cfg.items.pressureSlew
              else if target + s.cfg.items.pressureSlew < (s.freg.get p).pCmd then
                (s.freg.get p).pCmd - s.cfg.items.pressureSlew
              else target)
          ∧ ((u.freg.get p).pCmd ≠ target → (u.ch p).settle = none)
          ∧ { u.ch p with settle := (s.ch p).settle } = s.ch p)
    ∧ (∀ p, (s.ch p).state.isRaised = false → u.freg.get p = s.freg.get p ∧ u.ch p = s.ch p)
    ∧ u.map.entries = s.map.entries.map ({ s with trv := u.trv }.moved fun _ => false)
    ∧ u.map.action = (u.map.entries.find? fun e => e.state = .armed).map (fun e =>
        ⟨e.id, ((e.start * 1000 : Nat) : Int) + s.firstOffset
          - ((u.trv.speed * (if s.ridesThrough e.sect then s.cfg.items.openTime
              else s.cfg.items.openTime + s.cfg.items.lowerAllowTime) / 1000 : Nat) : Int)
          - ((s.cfg.items.approachMargin * 1000 : Nat) : Int)⟩)
    ∧ s.Raises u (fun _ => if u.map.entries = s.map.entries then [] else [.entry])
    ∧ u.map.nextId = s.map.nextId ∧ u.map.lastRemoval = s.map.lastRemoval
    ∧ { u with clk := s.clk, trv := s.trv, pch := s.pch, freg := s.freg, map := s.map, lnk := s.lnk,
               iceEval := s.iceEval } = s

/-! ### Line detection -/

/-- A sample that does not end the window joins its sums; a rising crossing of the reference by the band ends a period, which
the window records unless its count was lost (R20 to R23). The 480th sample ends the window: its record gives the mean, the
total and the AC RMS, and the periods that ended in the window, with the one that this sample may end, while the tracker goes on
across the end; and the class: NONE below 400 V; with a period and at least 5000 V of AC, AC25, AC15 or UNCLASSIFIED; elsewhere
DC15, DC30 or UNCLASSIFIED; the reference takes the mean, and a fresh window begins (R24 to R31). Sample loss leaves the
detected system UNKNOWN, with no candidate and no count, and keeps the record (R32, R33). A change of the detected system, and a
selector that comes to rest, is a fault SYSTEM_MISMATCH with notice MISMATCH where a resting selector differs from a detected
line system or from UNCLASSIFIED, with no entry ACTIVE, and no fault elsewhere; traction-wanted stands (R85). That this fault
fills the record before an EARTH_UNEXPECTED of the same change is the model's choice (log 38). -/
def Obligations.SamplesFillTheWindow : Prop :=
  ∀ s : State,
    (∀ x : BitVec 16, s.ldet.stream = .running → s.ldet.win.n + 1 < 480 →
        ∃ t, exec (.lineSample x) s = .next t ∧ t.ldet.stream = .running ∧ t.ldet.sampleAt = s.clk.time
          ∧ t.ldet.win.n = s.ldet.win.n + 1 ∧ t.ldet.win.sum = s.ldet.win.sum + x.toInt
          ∧ t.ldet.win.sq = s.ldet.win.sq + (x.toInt * x.toInt).toNat ∧ t.ldet.detected = s.ldet.detected
          ∧ t.ldet.candidate = s.ldet.candidate ∧ t.ldet.count = s.ldet.count ∧ t.ldet.windows = s.ldet.windows
          ∧ t.ldet.last = s.ldet.last ∧ t.ldet.mRef = s.ldet.mRef ∧ t.cfg = s.cfg ∧ t.trv.front = s.trv.front
          ∧ s.ldet.Tracks t.ldet x.toInt t.ldet.win.periods t.ldet.win.pMin t.ldet.win.pMax)
    ∧ (∀ x : BitVec 16, s.ldet.stream ≠ .running →
        ∃ t, exec (.lineSample x) s = .next t ∧ t.ldet.stream = .running ∧ t.ldet.win.n = 1
          ∧ t.ldet.sampleAt = s.clk.time ∧ t.ldet.win.sum = x.toInt ∧ t.ldet.win.sq = (x.toInt * x.toInt).toNat
          ∧ t.ldet.win.periods = 0 ∧ t.ldet.win.pMin = none ∧ t.ldet.win.pMax = none ∧ t.ldet.mRef = 0
          ∧ t.ldet.lastCross = none ∧ t.ldet.lowSeen = decide (x.toInt ≤ -500) ∧ t.ldet.windows = s.ldet.windows
          ∧ t.ldet.candidate = s.ldet.candidate ∧ t.ldet.count = s.ldet.count
          ∧ t.ldet.detected = s.ldet.detected ∧ t.ldet.last = s.ldet.last)
    ∧ (∀ x : BitVec 16, s.ldet.stream = .running → s.ldet.win.n + 1 = 480 →
        ∃ t w, exec (.lineSample x) s = .next t ∧ t.ldet.last = some w ∧ t.ldet.windows = s.ldet.windows + 1
          ∧ t.ldet.win = .fresh ∧ t.ldet.stream = .running ∧ t.ldet.sampleAt = s.clk.time
          ∧ s.ldet.Tracks t.ldet x.toInt w.periods w.pMin w.pMax
          ∧ w.mean = Int.tdiv (s.ldet.win.sum + x.toInt) 480 ∧ t.ldet.mRef = w.mean
          ∧ w.totalRms = isqrt ((s.ldet.win.sq + (x.toInt * x.toInt).toNat) / 480)
          ∧ w.acRms = isqrt (((((s.ldet.win.sq + (x.toInt * x.toInt).toNat) / 480 : Nat) : Int) - w.mean * w.mean).toNat)
          ∧ (w.raw = .dead ↔ w.totalRms * 2 < 400)
          ∧ (400 ≤ w.totalRms * 2 → 1 ≤ w.periods → 5000 ≤ w.acRms * 2 → ∀ lo hi, w.pMin = some lo → w.pMax = some hi →
              w.raw =
                if 86 ≤ lo ∧ hi ≤ 106 ∧ 17500 ≤ w.acRms * 2 ∧ w.acRms * 2 ≤ 29000 ∧ w.mean.natAbs * 2 ≤ 1000 then .sys .ac25
                else if 250 ≤ lo ∧ hi ≤ 330 ∧ 11000 ≤ w.acRms * 2 ∧ w.acRms * 2 ≤ 18000 ∧ w.mean.natAbs * 2 ≤ 1000 then
                  .sys .ac15
                else .unclassified)
          ∧ (400 ≤ w.totalRms * 2 → w.periods = 0 ∨ w.acRms * 2 < 5000 →
              w.raw =
                if 0 < w.mean ∧ (w.acRms : Int) * 8 ≤ w.mean ∧ 1000 ≤ w.mean * 2 ∧ w.mean * 2 ≤ 1950 then .sys .dc15
                else if 0 < w.mean ∧ (w.acRms : Int) * 8 ≤ w.mean ∧ 2000 ≤ w.mean * 2 ∧ w.mean * 2 ≤ 3900 then .sys .dc30
                else .unclassified)
          ∧ t.ldet.candidate = some w.raw
          ∧ t.ldet.count = (if s.ldet.candidate = some w.raw then min 255 (s.ldet.count + 1) else 1)
          ∧ t.ldet.detected = (if (if w.raw = .dead then s.cfg.items.noneConfirm else s.cfg.items.lineConfirm)
                ≤ t.ldet.count then .raw w.raw else s.ldet.detected)
          ∧ t.ldet.since = (if t.ldet.detected = s.ldet.detected then s.ldet.since else s.clk.time)
          ∧ (t.ldet.detected ≠ s.ldet.detected → s.Mismatch t.ldet.detected → s.fault = none →
              ∃ f, t.fault = some f ∧ f.kind = .systemMismatch ∧ f.detected = t.ldet.detected))
    ∧ (∀ d, d ≠ s.ldet.detected →
        (s.Mismatch d → (setDetected d s).Noticed .mismatch ∧ (setDetected d s).Noticed .line
          ∧ Report.fault .systemMismatch none ∈ (setDetected d s).reports
          ∧ (s.fault = none → ∃ f, (setDetected d s).fault = some f ∧ f.kind = .systemMismatch))
        ∧ (¬ s.Mismatch d → (setDetected d s).fault = s.fault ∧ (setDetected d s).reports = s.reports
          ∧ (setDetected d s).Noticed .line)
        ∧ (setDetected d s).bsc.traction = s.bsc.traction ∧ (setDetected d s).bsc.reclose = s.bsc.reclose)
    ∧ (∀ y, (let t := { s with bsc := { s.bsc with selector := .rest (.sys y) } }
        (t.Mismatch s.ldet.detected → (selectorRests (.sys y) s).Noticed .mismatch
          ∧ Report.fault .systemMismatch none ∈ (selectorRests (.sys y) s).reports
          ∧ (s.fault = none → ∃ f, (selectorRests (.sys y) s).fault = some f ∧ f.kind = .systemMismatch))
        ∧ (¬ t.Mismatch s.ldet.detected → (selectorRests (.sys y) s).fault = s.fault
          ∧ (selectorRests (.sys y) s).reports = s.reports)))
    ∧ (s.lossDue = true →
        ∃ t, exec .sampleLoss s = .next t ∧ t.ldet.stream = .lost ∧ t.ldet.detected = .unknown
          ∧ t.ldet.candidate = none ∧ t.ldet.count = 0 ∧ t.ldet.win = .fresh ∧ t.ldet.windows = s.ldet.windows
          ∧ t.ldet.last = s.ldet.last ∧ t.ldet.mRef = 0 ∧ t.ldet.lowSeen = false ∧ t.ldet.lastCross = none
          ∧ t.ldet.since = (if s.ldet.detected = .unknown then s.ldet.since else s.clk.time))

/-- The integer square root that the RMS values take is the square root rounded down, for every value a window can have
(R25). -/
def Obligations.SquareRootsRoundDown : Prop :=
  ∀ n : Nat, n < 2 ^ 48 → isqrt n * isqrt n ≤ n ∧ n < (isqrt n + 1) * (isqrt n + 1)

/-! ### Pantograph events -/

/-- The contact-sense and lowered-limit inputs (R40, R43 to R45): contact moves RAISING to SETTLING and its loss moves it back
with the settle timer stopped; in RAISED its loss starts the contact-loss timer and its return stops it; the lowered limit takes
LOWERING to LOWERED with role NONE, and its loss takes LOWERED to LOWERING; in every other state the line alone takes its level.
Each ARMED entry is staged for the roof as it stands: a SYSTEM_CHANGE takes its preferred pantograph where that one is of the
class of the system after and LOWERED or raised, else its alternate likewise, else none with NO_TARGET; a target or NO_TARGET
that changes raises ENTRY on all three links, and where none changes nothing is done (R106, R107). That a pantograph that passes
two states at one event is staged for once, as the event leaves it, is the model's choice (log 41). -/
def Obligations.InputsMoveTheirPantograph : Prop :=
  (∀ (s : State) (entries : List Entry),
    entries = s.map.entries.map (fun e => if e.state = .armed then s.staged e else e) →
    (entries ≠ s.map.entries →
        ∃ u, watchStaging s = some u ∧ u.map = { s.map with entries := entries } ∧ s.Raises u (fun _ => [.entry])
          ∧ { u with map := s.map, lnk := s.lnk } = s)
    ∧ (entries = s.map.entries → watchStaging s = none))
  ∧ ∀ (p : Pan) (on : Bool) (s : State),
    (∃ u, exec (.contactSenseChange p on) s = .next (settle u)
      ∧ u.lines = { s.lines with contact := s.lines.contact.set p on }
      ∧ ((s.ch p).state = .raising → on = true → u.ch p = { s.ch p with state := .settling })
      ∧ ((s.ch p).state = .settling → on = false → u.ch p = { s.ch p with state := .raising, settle := none })
      ∧ ((s.ch p).state = .raised → on = true → u.ch p = { s.ch p with loss := none })
      ∧ ((s.ch p).state = .raised → on = false → (s.ch p).loss = none → u.ch p = { s.ch p with loss := some s.clk.time })
      ∧ ((s.ch p).state.isRaised = false → u.ch p = s.ch p)
      ∧ (∀ q, q ≠ p → u.ch q = s.ch q)
      ∧ s.Raises u (fun _ => if (u.ch p).state = (s.ch p).state then [] else [.pan])
      ∧ { u with lines := s.lines, pch := s.pch, lnk := s.lnk, iceEval := s.iceEval } = s)
    ∧ (∃ u, exec (.loweredLimitChange p on) s = .next (settle u)
      ∧ u.lines = { s.lines with lowered := s.lines.lowered.set p on }
      ∧ ((s.ch p).state = .lowering → on = true → (u.ch p).state = .lowered ∧ (u.ch p).role = none)
      ∧ ((s.ch p).state = .lowered → on = false →
          (u.ch p).state = .lowering ∧ (u.ch p).role = (s.ch p).role ∧ (u.ch p).lowerStart = s.clk.total)
      ∧ ((s.ch p).state ≠ .lowering → (s.ch p).state ≠ .lowered → u.ch p = s.ch p)
      ∧ (∀ q, q ≠ p → u.ch q = s.ch q ∧ u.freg.get q = s.freg.get q)
      ∧ s.Raises u (fun _ => if (u.ch p).state = (s.ch p).state then [] else [.pan])
      ∧ { u with lines := s.lines, pch := s.pch, freg := s.freg, ice := s.ice, longOps := s.longOps, reports := s.reports,
                 lnk := s.lnk, iceEval := s.iceEval } = s)

/-- A pressure sample (R41, R48, R49): outside −20 to 700 kPa it trips a raised pantograph and raises SENSOR; a valid one
becomes the measured pressure, and the second in a row below the commanded pressure by more than the threshold trips it; one at
or above the threshold clears the count. A pantograph that is not raised is only measured. A gap of 20 ms trips. A valid sample
that trips nothing, in SETTLING, starts the settle timer, or leaves it running, where the commanded pressure is the target and
the sample lies within 15 kPa of it, and stops it elsewhere; in the other raised states the timer stands. -/
def Obligations.PressureSamplesGuardTheHead : Prop :=
  ∀ (p : Pan) (x : Int) (s : State),
    ((s.ch p).state.isRaised = false →
        ∃ u, exec (.pressureSample p x) s = .next (settle u)
          ∧ u.ch p = { s.ch p with
              measured := if -20 ≤ x ∧ x ≤ 700 then x else (s.ch p).measured, sampleAt := s.clk.time }
          ∧ (∀ q, q ≠ p → u.ch q = s.ch q) ∧ { u with pch := s.pch } = s)
    ∧ ((s.ch p).state.isRaised = true → -20 ≤ x → x ≤ 700 →
        ∃ u, exec (.pressureSample p x) s = .next (settle u) ∧ (u.ch p).measured = x ∧ (u.ch p).sampleAt = s.clk.time
          ∧ (((s.freg.get p).pCmd : Int) - s.cfg.items.dropThreshold ≤ x →
              (u.ch p).state = (s.ch p).state ∧ (u.ch p).below = 0 ∧ { u with pch := s.pch } = s)
          ∧ (x < ((s.freg.get p).pCmd : Int) - s.cfg.items.dropThreshold → (s.ch p).below = 0 →
              (u.ch p).state = (s.ch p).state ∧ (u.ch p).below = 1 ∧ { u with pch := s.pch } = s)
          ∧ (x < ((s.freg.get p).pCmd : Int) - s.cfg.items.dropThreshold → 1 ≤ (s.ch p).below →
              (u.ch p).state = .dropped ∧ (u.ch p).role = (s.ch p).role ∧ (u.ch p).job = none
              ∧ (u.freg.get p).pCmd = 0 ∧ (u.freg.get p).target = none ∧ u.Noticed .fault
              ∧ ((s.ch p).role = some .collecting → s.bsc.breaker = .closed → u.bsc.breaker = .opening))
          ∧ ((u.ch p).state ≠ .dropped →
              ((s.ch p).state ≠ .settling →
                (u.ch p).settle = (s.ch p).settle ∧ (u.ch p).settleLen = (s.ch p).settleLen)
              ∧ ((s.ch p).state = .settling → (s.freg.get p).target = some (s.freg.get p).pCmd →
                  ((s.freg.get p).pCmd : Int) - 15 ≤ x → x ≤ ((s.freg.get p).pCmd : Int) + 15 →
                  ((s.ch p).settle = none →
                    (u.ch p).settle = some s.clk.time ∧ (u.ch p).settleLen = s.cfg.items.settleTime)
                  ∧ (∀ b, (s.ch p).settle = some b →
                    (u.ch p).settle = some b ∧ (u.ch p).settleLen = (s.ch p).settleLen))
              ∧ ((s.ch p).state = .settling →
                  ((s.freg.get p).target ≠ some (s.freg.get p).pCmd ∨ x < ((s.freg.get p).pCmd : Int) - 15
                    ∨ ((s.freg.get p).pCmd : Int) + 15 < x) →
                  (u.ch p).settle = none ∧ (u.ch p).settleLen = (s.ch p).settleLen))
          ∧ (∀ q, q ≠ p → u.ch q = s.ch q ∧ u.freg.get q = s.freg.get q))
    ∧ ((s.ch p).state.isRaised = true → (x < -20 ∨ 700 < x) →
        ∃ u, exec (.pressureSample p x) s = .next (settle u) ∧ (u.ch p).state = .dropped
          ∧ (u.ch p).measured = (s.ch p).measured ∧ u.Noticed .sensor ∧ ∀ q, q ≠ p → u.ch q = s.ch q)
    ∧ (s.pressureDue p = true →
        ∃ u, exec (.pressureGap p) s = .next (settle u) ∧ (u.ch p).state = .dropped ∧ u.Noticed .sensor
          ∧ (u.freg.get p).pCmd = 0 ∧ ∀ q, q ≠ p → u.ch q = s.ch q)

/-- The time limits of a pantograph where they are due (R41, R42, R43, R46): the settle time ends in RAISED with a RAISE in
place DONE; the raise limit lowers it at once, with a RAISE in place FAILED with reason RAISE_TIMEOUT and a LOWER left in place;
the contact-loss limit lowers it with the operation in place ABORTED; the lower limit leaves it LOWERING with the operation in
place FAILED with reason LOWER_TIMEOUT; each of the last three fills an empty fault record with its kind and the pantograph. No
other pantograph changes. -/
def Obligations.PantographLimitsAct : Prop :=
  ∀ (p : Pan) (s : State),
    (s.settleDue p = true →
        ∃ u, exec (.settleComplete p) s = .next (settle u) ∧ (u.ch p).state = .raised ∧ (u.ch p).role = (s.ch p).role
          ∧ (∀ src d, (s.ch p).job = some ⟨src, .raise d⟩ →
              (u.ch p).job = none ∧ (u.ch p).lastResult = some ⟨src, .raise d, .done⟩)
          ∧ (∀ q, q ≠ p → u.ch q = s.ch q)
          ∧ s.Raises u (fun _ => [.pan])
          ∧ { u with pch := s.pch, lnk := s.lnk, longOps := s.longOps, reports := s.reports, iceEval := s.iceEval } = s)
    ∧ (s.raiseDue p = true →
        ∃ u, exec (.raiseTimeout p) s = .next (settle u)
          ∧ (u.ch p).state = (if s.lines.lowered.get p then .lowered else .lowering) ∧ (u.freg.get p).pCmd = 0
          ∧ (∀ src d, (s.ch p).job = some ⟨src, .raise d⟩ →
              (u.ch p).job = none ∧ (u.ch p).lastResult = some ⟨src, .raise d, .failed (.fault .raiseTimeout)⟩)
          ∧ (∀ src, (s.ch p).job = some ⟨src, .lower⟩ → s.lines.lowered.get p = false →
              (u.ch p).job = some ⟨src, .lower⟩ ∧ (u.ch p).lowerReq = false ∧ (u.ch p).lastResult = (s.ch p).lastResult)
          ∧ (s.fault = none → ∃ r, u.fault = some r ∧ r.kind = .raiseTimeout ∧ r.pan = some p ∧ r.time = s.clk.time
              ∧ r.front = s.trv.front / 1000 ∧ r.speed = s.trv.speed)
          ∧ (∀ q, q ≠ p → u.ch q = s.ch q) ∧ u.bsc = s.bsc ∧ u.map = s.map ∧ u.seq = s.seq ∧ u.cfg = s.cfg)
    ∧ (s.contactDue p = true →
        ∃ u, exec (.contactLost p) s = .next (settle u)
          ∧ (u.ch p).state = (if s.lines.lowered.get p then .lowered else .lowering) ∧ (u.ch p).job = none
          ∧ (∀ src op, (s.ch p).job = some ⟨src, op⟩ → (u.ch p).lastResult = some ⟨src, op, .aborted⟩)
          ∧ (s.fault = none → ∃ r, u.fault = some r ∧ r.kind = .contactLost ∧ r.pan = some p ∧ r.time = s.clk.time)
          ∧ ((s.ch p).role = some .collecting → s.bsc.breaker = .closed → u.bsc.breaker = .opening)
          ∧ (∀ q, q ≠ p → u.ch q = s.ch q) ∧ u.map = s.map ∧ u.seq = s.seq ∧ u.cfg = s.cfg)
    ∧ (s.lowerDue p = true →
        ∃ u, exec (.lowerTimeout p) s = .next (settle u) ∧ (u.ch p).state = .lowering ∧ (u.ch p).job = none
          ∧ (u.ch p).role = (s.ch p).role
          ∧ (∀ src op, (s.ch p).job = some ⟨src, op⟩ →
              (u.ch p).lastResult = some ⟨src, op, .failed (.fault .lowerTimeout)⟩)
          ∧ ((s.ch p).job = none → (u.ch p).lastResult = (s.ch p).lastResult)
          ∧ (s.fault = none → ∃ r, u.fault = some r ∧ r.kind = .lowerTimeout ∧ r.pan = some p ∧ r.time = s.clk.time)
          ∧ (∀ q, q ≠ p → u.ch q = s.ch q) ∧ u.bsc = s.bsc ∧ u.map = s.map ∧ u.seq = s.seq ∧ u.cfg = s.cfg)

/-- The disconnector (R52): a reading of the position sought ends the move; a reading that leaves a position at rest is a
fault with notice PAN and moves nothing; a move that has run 2000 ms without its position is FAILED with a fault, and its
operation ends FAILED with DISCONNECTOR_FAIL. -/
def Obligations.DisconnectorEvents : Prop :=
  ∀ (p : Pan) (s : State),
    (∀ q, (s.ch p).disc = .moving q →
        ∃ u, exec (.disconnectorFeedback p (some q)) s = .next (settle u) ∧ (u.ch p).disc = .resting q
          ∧ (u.ch p).state = (s.ch p).state ∧ u.lines = { s.lines with discFb := s.lines.discFb.set p (some q) }
          ∧ (∀ src, (s.ch p).job = some ⟨src, .discMove q⟩ →
              (u.ch p).job = none ∧ (u.ch p).lastResult = some ⟨src, .discMove q, .done⟩)
          ∧ s.Raises u (fun _ => [.pan]) ∧ (∀ r, r ≠ p → u.ch r = s.ch r) ∧ u.fault = s.fault ∧ u.bsc = s.bsc)
    ∧ (∀ q r, (s.ch p).disc = .resting q → r ≠ some q →
        ∃ u, exec (.disconnectorFeedback p r) s = .next (settle u) ∧ u.pch = s.pch ∧ s.Raises u (fun _ => [.fault, .pan])
          ∧ (s.fault = none → ∃ f, u.fault = some f ∧ f.kind = .disconnectorFail ∧ f.pan = some p) ∧ u.bsc = s.bsc)
    ∧ (∀ q, (s.ch p).disc = .moving q → s.discDue p = true → s.lines.discFb.get p ≠ some q →
        ∃ u, exec (.discMoveTimeout p) s = .next (settle u) ∧ (u.ch p).disc = .failed
          ∧ (u.ch p).state = (s.ch p).state
          ∧ (∀ src r, (s.ch p).job = some ⟨src, .discMove r⟩ →
              (u.ch p).job = none ∧ (u.ch p).lastResult = some ⟨src, .discMove r, .failed (.fault .disconnectorFail)⟩)
          ∧ ((∀ src r, (s.ch p).job ≠ some ⟨src, .discMove r⟩) →
              (u.ch p).job = (s.ch p).job ∧ (u.ch p).lastResult = (s.ch p).lastResult)
          ∧ s.Raises u (fun _ => [.fault, .pan])
          ∧ (s.fault = none → ∃ f, u.fault = some f ∧ f.kind = .disconnectorFail ∧ f.pan = some p)
          ∧ (∀ r, r ≠ p → u.ch r = s.ch r) ∧ u.bsc = s.bsc)

/-! ### Breaker, selector and earthing switch -/

/-- The breaker (R78, R82, R83): the feedback it waits for ends CLOSING in CLOSED and OPENING in OPEN; OPEN read in CLOSED is an
external trip that clears traction-wanted without a fault; a reading that is neither, in CLOSED, or that is not OPEN, in OPEN,
opens it; a close that does not come is BREAKER_FAIL_CLOSE, an open that does not come FAILED and then BREAKER_FAIL_OPEN. Each limit
that leaves the breaker in FAILED reports that to SEQ, and the same event puts the roof in ROOF_SAFE (R82, R137). The BREAKER that
each record shows, CLOSING and FAILED, follows the order in which R82 names its effects, which is the model's
reading (log 28). The close interlock holds while a COLLECTING pantograph is RAISED, the selector rests at the detected system,
the mode is not ROOF_SAFE and the switch does not read EARTHED; where it does not hold while the demand is CLOSE, the breaker
opens and keeps traction-wanted (R80, R81). -/
def Obligations.BreakerEvents : Prop :=
  ∀ s : State,
    (s.bsc.breaker = .closing →
        ∃ u, exec (.breakerFeedback .closed) s = .next (settle u) ∧ u.bsc.breaker = .closed ∧ u.bsc.reclose = false
          ∧ u.bsc.traction = s.bsc.traction ∧ s.Raises u (fun _ => [.breaker])
          ∧ { u with lines := s.lines, bsc := s.bsc, lnk := s.lnk, longOps := s.longOps } = s)
    ∧ (s.bsc.breaker = .opening →
        ∃ u, exec (.breakerFeedback .opened) s = .next (settle u) ∧ u.bsc.breaker = .opened
          ∧ u.bsc.traction = s.bsc.traction ∧ s.Raises u (fun _ => [.breaker])
          ∧ { u with lines := s.lines, bsc := s.bsc, lnk := s.lnk, longOps := s.longOps } = s)
    ∧ (s.bsc.breaker = .closed →
        (∃ u, exec (.breakerFeedback .opened) s = .next (settle u) ∧ u.bsc.breaker = .opened ∧ u.bsc.traction = false
          ∧ u.bsc.reclose = false ∧ s.Raises u (fun _ => [.breaker])
          ∧ { u with lines := s.lines, bsc := s.bsc, lnk := s.lnk, longOps := s.longOps } = s)
        ∧ (∃ u, exec (.breakerFeedback .invalid) s = .next (settle u) ∧ u.bsc.breaker = .opening
          ∧ u.bsc.traction = s.bsc.traction ∧ u.bsc.limitStart = s.clk.time ∧ u.fault = s.fault))
    ∧ (∀ r, s.bsc.breaker = .opened → r ≠ .opened →
        ∃ u, exec (.breakerFeedback r) s = .next (settle u) ∧ u.bsc.breaker = .opening
          ∧ u.bsc.limitStart = s.clk.time ∧ u.fault = s.fault)
    ∧ (s.closeDue = true → s.lines.breakerFb ≠ .closed →
        ∃ u, exec .breakerCloseTimeout s = .next (settle u)
          ∧ u.bsc.breaker = (if s.lines.breakerFb = .opened then .opened else .failed)
          ∧ (s.fault = none → ∃ f, u.fault = some f ∧ f.kind = .breakerFailClose ∧ f.breaker = .closing)
          ∧ u.pch = s.pch ∧ u.seq = s.seq
          ∧ u.reports = s.reports ++ (if s.lines.breakerFb = .opened then [.fault .breakerFailClose none]
              else [.fault .breakerFailClose none, .breakerFailed])
          ∧ (s.reports = [] → s.lines.breakerFb ≠ .opened → (settle u).seq.mode = .roofSafe))
    ∧ (s.openDue = true → s.lines.breakerFb ≠ .opened →
        ∃ u, exec .breakerOpenTimeout s = .next (settle u) ∧ u.bsc.breaker = .failed
          ∧ (s.fault = none → ∃ f, u.fault = some f ∧ f.kind = .breakerFailOpen ∧ f.breaker = .failed)
          ∧ u.pch = s.pch ∧ u.seq = s.seq
          ∧ u.reports = s.reports ++ [.breakerFailed, .fault .breakerFailOpen none]
          ∧ (s.reports = [] → (settle u).seq.mode = .roofSafe))
    ∧ (s.interlock = true ↔ (∃ p, (s.ch p).state = .raised ∧ (s.ch p).role = some .collecting)
        ∧ (∃ y, s.bsc.selector = .rest (.sys y) ∧ s.ldet.detected = .raw (.sys y)) ∧ s.seq.mode ≠ .roofSafe
        ∧ s.lines.earthed = false)
    ∧ ((s.bsc.breaker = .closed ∨ s.bsc.breaker = .closing) → s.interlock = false →
        ∃ u, watchDemand s = some u ∧ u.bsc.breaker = .opening ∧ u.bsc.limitStart = s.clk.time ∧ s.Raises u (fun _ => [.breaker])
          ∧ u.bsc.traction = s.bsc.traction ∧ u.bsc.reclose = s.bsc.reclose ∧ u.bsc.selector = s.bsc.selector
          ∧ { u with bsc := s.bsc, lnk := s.lnk, longOps := s.longOps } = s)
    ∧ (s.interlock = true ∨ (s.bsc.breaker ≠ .closed ∧ s.bsc.breaker ≠ .closing) → watchDemand s = none)

/-- The selector and the earthing switch (R91, R93, R137): the feedback of the position sought ends a move DONE; a resting
selector that reads anything else, and a move that has run its limit elsewhere, are FAILED with a fault; that the former is
FAILED with the position it left as the position last sought is the model's choice (log 12). A move goes on while the breaker
reads OPEN and, between classes, every CONNECTED pantograph is LOWERED; where that ceases it ends FAILED with SELECTOR_FAIL, and
SEQ is told (R90); that a move from FAILED counts as one between classes follows from R92. A switch that reads EARTHED with no
permit given is EARTH_UNEXPECTED and puts the roof in ROOF_SAFE; with the permit given it is no fault. The permit is withdrawn,
with notice EARTH, at an event that ends one of its four conditions, and EARTH_UNEXPECTED is reported then where the switch
reads EARTHED (R93). At the entry into ROOF_SAFE, by a breaker that fails, by EARTH_UNEXPECTED, by a LOWER_TIMEOUT of a
COLLECTING pantograph with the breaker not OPEN, or by a second fault in RECOVERING (a failing selector, any LOWER_TIMEOUT, the
trip of a pantograph other than the one whose trip failed the sequence; R133, R137): the breaker opens with traction-wanted
cleared, every pantograph but ISOLATED ones is lowered and loses its owner, every heater in ON goes off, every manual demand is
cleared, scraping stops, a sequence is cancelled with its entry removed, and every ARMED entry is PENDING again (R138, R160). In
ROOF_SAFE nothing is entered again. -/
def Obligations.SelectorAndEarthEvents : Prop :=
  ∀ s : State,
    (∀ o q, s.bsc.selector = .moving o q →
        ∃ u, exec (.selectorFeedback (some q)) s = .next (settle u) ∧ u.bsc.selector = .rest q ∧ u.bsc.moveSource = none
          ∧ (∀ src, s.bsc.moveSource = some src → u.bsc.selectorResult = some ⟨src, true⟩)
          ∧ u.lines = { s.lines with selectorFb := some q } ∧ u.pch = s.pch ∧ u.bsc.breaker = s.bsc.breaker)
    ∧ (∀ q r, s.bsc.selector = .rest q → r ≠ some q →
        ∃ u, exec (.selectorFeedback r) s = .next (settle u) ∧ u.bsc.selector = .failed q
          ∧ (s.fault = none → ∃ f, u.fault = some f ∧ f.kind = .selectorFail) ∧ u.pch = s.pch)
    ∧ (∀ o q, s.bsc.selector = .moving o q → s.moveDue = true → s.lines.selectorFb ≠ some q →
        ∃ u, exec .selectorMoveTimeout s = .next (settle u) ∧ u.bsc.selector = .failed q
          ∧ (∀ src, s.bsc.moveSource = some src → u.bsc.selectorResult = some ⟨src, false⟩)
          ∧ (s.fault = none → ∃ f, u.fault = some f ∧ f.kind = .selectorFail) ∧ u.pch = s.pch)
    ∧ (∀ left sought, s.bsc.selector = .moving left sought →
        (s.MoveGoesOn left sought → watchMove s = none)
        ∧ (¬ s.MoveGoesOn left sought →
          ∃ u, watchMove s = some u ∧ u.bsc.selector = .failed sought ∧ u.bsc.moveSource = none
            ∧ (∀ src, s.bsc.moveSource = some src → u.bsc.selectorResult = some ⟨src, false⟩)
            ∧ (s.fault = none → ∃ f, u.fault = some f ∧ f.kind = .selectorFail) ∧ (∀ f, s.fault = some f → u.fault = some f)
            ∧ s.Raises u (fun _ => [.fault, .selector])
            ∧ (∀ x, x ∈ u.reports ↔ x ∈ s.reports ∨ x = .fault .selectorFail none ∨ x = .selectorFailed)
            ∧ { u.bsc with selector := s.bsc.selector, moveSource := s.bsc.moveSource
                           selectorResult := s.bsc.selectorResult } = s.bsc
            ∧ { u with bsc := s.bsc, lnk := s.lnk, longOps := s.longOps, fault := s.fault, reports := s.reports } = s))
    ∧ ((∀ left sought, s.bsc.selector ≠ .moving left sought) → watchMove s = none)
    ∧ (s.lines.earthed = false → s.bsc.permit = false → s.reports = [] →
        ∃ t, exec (.earthSwitchFeedback true) s = .next t ∧ t.seq.mode = .roofSafe ∧ t.lines.earthed = true
          ∧ (s.fault = none → ∃ f, t.fault = some f ∧ f.kind = .earthUnexpected))
    ∧ (s.lines.earthed = false → s.bsc.permit = true →
        ∃ u, exec (.earthSwitchFeedback true) s = .next (settle u) ∧ s.Raises u (fun _ => [.earth])
          ∧ u.lines.earthed = true ∧ { u with lines := { u.lines with earthed := false }, lnk := s.lnk } = s)
    ∧ (s.bsc.permit = true →
        ((∃ p, (s.ch p).state ≠ .lowered ∧ (s.ch p).state ≠ .isolated) ∨ s.bsc.breaker ≠ .opened
            ∨ s.ldet.detected ≠ .raw .dead ∨ s.trv.speed ≠ 0) →
        ∃ u, watchPermit s = some u ∧ u.bsc = { s.bsc with permit := false }
          ∧ s.Raises u (fun _ => if s.lines.earthed then [.earth, .fault] else [.earth])
          ∧ (s.lines.earthed = false → { u with bsc := s.bsc, lnk := s.lnk } = s)
          ∧ (s.lines.earthed = true → u.reports = s.reports ++ [.fault .earthUnexpected none]
              ∧ (s.fault = none → ∃ f, u.fault = some f ∧ f.kind = .earthUnexpected)
              ∧ { u with bsc := s.bsc, lnk := s.lnk, fault := s.fault, reports := s.reports } = s))
    ∧ ((s.bsc.permit = false ∨ (∀ p, (s.ch p).state = .lowered ∨ (s.ch p).state = .isolated) ∧ s.bsc.breaker = .opened
          ∧ s.ldet.detected = .raw .dead ∧ s.trv.speed = 0) → watchPermit s = none)
    ∧ (∀ r, r = .breakerFailed ∨ r = .fault .earthUnexpected none
          ∨ (∃ p b, r = .lowerTimeout p (some .collecting) b ∧ s.bsc.breaker ≠ .opened)
          ∨ (∃ c, s.seq.ctx = some c ∧ c.stage = .recovering ∧ (r = .selectorFailed ∨ (∃ p role b, r = .lowerTimeout p role b)
              ∨ ∃ p, r = .fault .addTrip (some p) ∧ c.failure.all (fun f => f.reason ≠ .fault .addTrip ∨ f.pan ≠ some p))) →
        (s.seq.mode = .roofSafe → seqReport r s = s)
        ∧ (s.seq.mode ≠ .roofSafe → ∃ u, seqReport r s = u ∧ u.seq.mode = .roofSafe ∧ u.Noticed .roofSafe
          ∧ (s.fault = none → ∃ f, u.fault = some f ∧ f.kind = .roofSafeEntry
              ∧ f.entry = (s.map.entries.find? fun e => e.state = .active).map (·.id))
          ∧ (∀ f, s.fault = some f → u.fault = some f)
          ∧ u.bsc.breaker = (if s.bsc.breaker = .closed ∨ s.bsc.breaker = .closing then .opening else s.bsc.breaker)
          ∧ u.bsc.traction = false ∧ u.bsc.reclose = false ∧ u.bsc.selector = s.bsc.selector
          ∧ (∀ p, (u.ch p).state = (if (s.ch p).state.isRaised then
                (if s.lines.lowered.get p then .lowered else .lowering) else (s.ch p).state)
              ∧ ((s.ch p).state ≠ .isolated → (u.ch p).job = none)
              ∧ ((s.ch p).state = .isolated → u.ch p = s.ch p))
          ∧ (∀ p, u.ice.heaters.get p = ⟨match (s.ice.heaters.get p).out with
              | .on _ | .off => .off
              | .rest b => .rest b, false⟩)
          ∧ u.ice.proc = .idle ∧ u.ice.state = s.ice.state ∧ u.ice.block = s.ice.block ∧ u.seq.ctx = none
          ∧ (∀ c, s.seq.ctx = some c →
              u.map.lastRemoval = some ⟨c.entry.id, c.entry.sect, .cancelled, s.clk.time, s.trv.front / 1000⟩
              ∧ ∃ x, u.seq.last = some x ∧ x.id = c.entry.id ∧ x.result = .cancelled .roofSafe ∧ x.time = s.clk.time
                ∧ (∀ f, c.failure = some f → x.reason = some f.reason ∧ x.stage = some f.stage ∧ x.pan = f.pan)
                ∧ (c.failure = none → x.reason = none ∧ x.stage = some c.stage ∧ x.pan = none))
          ∧ (s.seq.ctx = none → u.seq.last = s.seq.last ∧ u.map.lastRemoval = s.map.lastRemoval)
          ∧ u.map.entries = ((s.map.entries.filter fun e => s.seq.ctx.all fun c => decide (e.id ≠ c.entry.id)).map fun e =>
              if e.state = .armed then { e with state := .pending, target := none, noTarget := false } else e)
          ∧ u.trv = s.trv ∧ u.ldet = s.ldet ∧ u.auth = s.auth ∧ u.cfg = s.cfg ∧ u.lines = s.lines ∧ u.clk = s.clk))
    ∧ (∀ c f p, s.seq.ctx = some c → c.stage = .recovering → c.failure = some f → f.reason = .fault .addTrip →
        f.pan = some p → seqReport (.fault .addTrip (some p)) s = s)

/-- The line-lost watch starts where its conditions hold, once, and stops where one ceases (R86, R87), at SET_FORMATION too by
log 49; so does the reclose timer (R88). At the limits (R87, R88, R129, R132), a lost line opens the breaker, is a fault, and
arms the reclose, or clears traction-wanted where a reclose lies less than 60 s back; a reclose disarms itself and closes where
the interlock holds; a confirmation without a line ends the sequence LINE_ABSENT, and one on a system other than the expected
fails the stage with SYSTEM_MISMATCH, naming no pantograph (log 26). The first entry, ARMED, becomes ACTIVE where no entry is
and the front has reached its action point, its sequence starting with OPENING (R110, R111, R121, R123). As the roof stands:
OPENING ends with the breaker OPEN, and LOWERING lowers every raised pantograph, or, in the forms that ride through, each
scraping one where the section passes one alone, and ends with those down (R124); SELECTING starts its move, waits for
another's, fails where the move is refused, or is skipped (R125); CLEARING ends at its threshold, by the offset of R126; RAISING
lowers a scraping candidate, connects it and raises it, fails without one, and ends at RAISED (R127); CONFIRMING ends at the
expected system, and CLOSING sends its close request, which closes the breaker, finds it closing or closed, or fails the stage
with INTERLOCK (R129, R130); a stage not to be performed is skipped and the last ends the sequence DONE (R122, R130). A failure
of the candidate, its trip and its contact loss among them, leads back to CLEARING once with PAN_PREFERRED, else with
PAN_ALTERNATE, where that one has not failed, also where both are one (log 17), and fits, and else fails the stage (R128, R132).
Trip and contact loss of the collecting pantograph, which a joined raise makes so too (log 32), a LOWER_TIMEOUT (logs 15 and 36)
and a FAILED selector fail a running stage (R131), SELECTING also while it waits for the move of another source (log 31).
RECOVERING ends with the breaker OPEN and all it raised down (R133). The logs named are the model's choices. -/
def Obligations.LineAndSequenceLimits : Prop :=
  ∀ s : State,
    (s.watchDue = true →
        ∃ u, exec .lineLostWatchExpiry s = .next (settle u) ∧ u.Noticed .lineLost ∧ u.bsc.watch = .spent
          ∧ u.bsc.breaker = (if s.bsc.breaker = .closed ∨ s.bsc.breaker = .closing then .opening else s.bsc.breaker)
          ∧ (s.bsc.lastReclose = none → u.bsc.reclose = true ∧ u.bsc.traction = s.bsc.traction)
          ∧ (∀ r, s.bsc.lastReclose = some r → (s.clk.time - r).toNat < 60000 →
              u.bsc.reclose = false ∧ u.bsc.traction = false)
          ∧ (∀ r, s.bsc.lastReclose = some r → 60000 ≤ (s.clk.time - r).toNat →
              u.bsc.reclose = true ∧ u.bsc.traction = s.bsc.traction)
          ∧ (s.fault = none → ∃ f, u.fault = some f ∧ f.kind = .lineLost) ∧ u.pch = s.pch ∧ u.map = s.map)
    ∧ (s.WatchRuns →
        (s.bsc.watch = .stopped → watchLineLost s = some { s with bsc := { s.bsc with watch := .running s.clk.time } })
        ∧ (s.bsc.watch ≠ .stopped → watchLineLost s = none))
    ∧ (¬ s.WatchRuns →
        (s.bsc.watch = .stopped → watchLineLost s = none)
        ∧ (s.bsc.watch ≠ .stopped → watchLineLost s = some { s with bsc := { s.bsc with watch := .stopped } }))
    ∧ (s.RecloseRuns →
        (s.bsc.recloseTimer = none → watchReclose s = some { s with bsc := { s.bsc with recloseTimer := some s.clk.time } })
        ∧ (s.bsc.recloseTimer ≠ none → watchReclose s = none))
    ∧ (¬ s.RecloseRuns →
        (s.bsc.recloseTimer = none → watchReclose s = none)
        ∧ (s.bsc.recloseTimer ≠ none → watchReclose s = some { s with bsc := { s.bsc with recloseTimer := none } }))
    ∧ (s.recloseDue = true →
        ∃ u, exec .autoReclose s = .next (settle u) ∧ u.bsc.lastReclose = some s.clk.time ∧ u.bsc.reclose = false
          ∧ u.bsc.recloseTimer = none
          ∧ (s.interlock = true → s.bsc.breaker = .opened → u.bsc.breaker = .closing)
          ∧ (s.interlock = false → u.bsc.breaker = s.bsc.breaker)
          ∧ s.Raises u (fun _ => if u.bsc.breaker = s.bsc.breaker then [] else [.breaker])
          ∧ { u with bsc := s.bsc, lnk := s.lnk, longOps := s.longOps } = s)
    ∧ (∀ c, s.seq.ctx = some c → s.confirmDue = true →
        (s.ldet.detected = .raw .dead ∨ s.ldet.detected = .unknown →
          ∃ u, exec .confirmLimitExpiry s = .next (settle u) ∧ u.seq.ctx = none
            ∧ (∃ r, u.seq.last = some r ∧ r.result = .lineAbsent ∧ r.id = c.entry.id ∧ r.time = s.clk.time)
            ∧ u.bsc.reclose = (s.bsc.reclose || s.bsc.traction)
            ∧ u.map.lastRemoval = some ⟨c.entry.id, c.entry.sect, .done, s.clk.time, s.trv.front / 1000⟩
            ∧ u.pch = s.pch ∧ u.seq.mode = s.seq.mode)
        ∧ (s.ldet.detected ≠ .raw .dead → s.ldet.detected ≠ .unknown →
          (c.expected = none ∨ s.ldet.detected.lineSys ≠ c.expected) →
          ∃ u d, exec .confirmLimitExpiry s = .next (settle u) ∧ u.seq.ctx = some d ∧ d.stage = .recovering
            ∧ d.failure = some ⟨.fault .systemMismatch, .confirming, none⟩ ∧ u.Noticed .mismatch ∧ u.Noticed .entry
            ∧ (s.bsc.breaker = .closed → u.bsc.breaker = .opening)))
    ∧ (∀ (e : Entry) (rest : List Entry) (a : ActionPoint), s.map.entries = e :: rest → s.map.action = some a →
        (∀ d ∈ rest, d.id ≠ e.id) →
        (e.state = .armed ∧ s.entryActive = false ∧ a.id = e.id ∧ a.point ≤ (s.trv.front : Int) →
          ∃ u c, watchActivation s = some u ∧ u.seq.ctx = some c ∧ c.stage = .opening ∧ c.stageStart = s.clk.total
            ∧ c.entry = { e with state := .active, late := s.isLate e } ∧ u.map.entries = c.entry :: rest
            ∧ c.form = (match e.sect with
                | .neutral _ => .neutral
                | .lowerZone => .lowerZone
                | .systemChange y swap _ => if swap = false ∧ s.selectorOfClass y = true then .rideThrough else .lowering)
            ∧ c.expected = (match e.sect with
                | .systemChange y _ _ => some y
                | .neutral _ | .lowerZone => s.systemPosition)
            ∧ c.roofLive = s.collectorRaised.isSome ∧ c.traction = s.bsc.traction ∧ c.collector = s.collectorRaised
            ∧ c.candidate = (match c.form with
                | .lowering => e.target
                | .lowerZone => s.collectorRaised
                | .neutral | .rideThrough => none)
            ∧ (∀ p, c.raisedAt.get p = if (s.ch p).state.isRaised then (s.ch p).role else none)
            ∧ c.retryUsed = false ∧ c.raised = .all false ∧ c.failure = none ∧ u.Noticed .entry
            ∧ u.bsc.breaker = (if s.bsc.breaker = .closed ∨ s.bsc.breaker = .closing then .opening else s.bsc.breaker)
            ∧ u.bsc.traction = s.bsc.traction ∧ u.pch = s.pch)
        ∧ (¬ (e.state = .armed ∧ s.entryActive = false ∧ a.id = e.id ∧ a.point ≤ (s.trv.front : Int)) →
            watchActivation s = none))
    ∧ (∀ c, s.seq.ctx = some c →
        (c.stage = .opening → s.bsc.breaker ≠ .opened → watchStage s = none)
        ∧ (c.stage = .opening → s.bsc.breaker = .opened → c.form = .lowering ∨ c.form = .lowerZone →
            ∃ u, watchStage s = some u ∧ u.Noticed .entry
              ∧ u.seq.ctx = some { c with stage := .lowering, stageStart := s.clk.total, step := .start }
              ∧ ∀ p, (u.ch p).state = (if (s.ch p).state.isRaised then
                  (if s.lines.lowered.get p then .lowered else .lowering) else (s.ch p).state))
        ∧ (c.stage = .lowering → c.form = .lowering ∨ c.form = .lowerZone → (∃ p, s.up p = true) → watchStage s = none)
        ∧ (∀ y, c.stage = .lowering → c.form = .lowering → (∀ p, s.up p = false) → c.expected = some y →
            s.systemPosition ≠ some y → (∀ o q, s.bsc.selector ≠ .moving o q) → s.bsc.breaker = .opened →
            (betweenClasses s.bsc.selector.leaves (.sys y) = false ∨ s.connectedLowered = true) →
            ∃ u, watchStage s = some u ∧ u.bsc.selector = .moving s.bsc.selector.leaves (.sys y)
              ∧ u.bsc.moveSource = some .sequencer ∧ u.pch = s.pch
              ∧ u.seq.ctx = some { c with stage := .selecting, stageStart := s.clk.total, step := .ownMove })
        ∧ (∀ y, c.expected = some y → s.systemPosition ≠ some y →
            (c.stage = .lowering → c.form = .lowering → (∀ p, s.up p = false) →
              ((∃ o q, s.bsc.selector = .moving o q) →
                ∃ u, watchStage s = some u ∧ u.Noticed .entry ∧ u.pch = s.pch ∧ u.bsc = s.bsc
                  ∧ u.seq.ctx = some { c with stage := .selecting, stageStart := s.clk.total, step := .awaitMove })
              ∧ ((∀ o q, s.bsc.selector ≠ .moving o q) → (s.bsc.breaker ≠ .opened
                    ∨ betweenClasses s.bsc.selector.leaves (.sys y) = true ∧ s.connectedLowered = false) →
                  ∃ u, watchStage s = some u ∧ s.StageFails u
                    { c with stage := .selecting, stageStart := s.clk.total, step := .start } (.status .interlock) none))
            ∧ (c.stage = .selecting → c.step = .awaitMove →
              ((∃ o q, s.bsc.selector = .moving o q) → watchStage s = none)
              ∧ ((∀ o q, s.bsc.selector ≠ .moving o q) →
                (s.bsc.breaker ≠ .opened
                    ∨ betweenClasses s.bsc.selector.leaves (.sys y) = true ∧ s.connectedLowered = false →
                  ∃ u, watchStage s = some u ∧ s.StageFails u c (.status .interlock) none)
                ∧ (s.bsc.breaker = .opened →
                  betweenClasses s.bsc.selector.leaves (.sys y) = false ∨ s.connectedLowered = true →
                  ∃ u, watchStage s = some u ∧ u.bsc.selector = .moving s.bsc.selector.leaves (.sys y)
                    ∧ u.bsc.moveSource = some .sequencer ∧ u.pch = s.pch
                    ∧ u.seq.ctx = some { c with step := .ownMove }))))
        ∧ ((c.stage = .lowering ∧ (∀ p, s.up p = false)
              ∧ (c.form = .lowerZone ∨ c.form = .lowering ∧ s.systemPosition = c.expected)
            ∨ c.stage = .selecting ∧ (c.form = .lowering ∨ c.form = .rideThrough) ∧ c.expected.isSome = true
              ∧ s.systemPosition = c.expected) →
            ∃ u, watchStage s = some u ∧ u.Noticed .entry ∧ u.pch = s.pch ∧ u.bsc = s.bsc
              ∧ u.seq.ctx = some { c with
                  stage := .clearing, stageStart := s.clk.total, step := .start, clearing := s.clearingOffset c })
        ∧ (c.stage = .clearing →
            s.trv.front < (c.entry.start + c.entry.length) * 1000 + c.clearing + s.cfg.items.clearMargin * 1000 →
            watchStage s = none)
        ∧ (c.form = .neutral ∨ c.form = .rideThrough →
            (c.stage = .opening → s.bsc.breaker = .opened → c.entry.sect.panLimit = some 1 →
              (∃ p, (s.ch p).state.isRaised = true ∧ (s.ch p).role = some .scrape) →
              ∃ u d, watchStage s = some u ∧ u.Noticed .entry ∧ u.bsc = s.bsc
                ∧ u.seq.ctx = some { c with
                    stage := .lowering, stageStart := s.clk.total, step := .start, scrapers := d }
                ∧ ∀ p, (d.get p = true ↔ (s.ch p).state.isRaised = true ∧ (s.ch p).role = some .scrape)
                  ∧ (d.get p = true → (u.ch p).state = if s.lines.lowered.get p then .lowered else .lowering)
                  ∧ (d.get p = false → u.ch p = s.ch p))
            ∧ (c.stage = .lowering → (∃ p, c.scrapers.get p = true ∧ s.up p = true) → watchStage s = none)
            ∧ ((c.stage = .opening ∧ s.bsc.breaker = .opened
                  ∧ (c.entry.sect.panLimit ≠ some 1 ∨ ∀ p, (s.ch p).state.isRaised = false ∨ (s.ch p).role ≠ some .scrape)
                ∨ c.stage = .lowering ∧ ∀ p, c.scrapers.get p = true → s.up p = false) →
              (c.form = .neutral ∨ s.systemPosition = c.expected →
                ∃ u, watchStage s = some u ∧ u.Noticed .entry ∧ u.pch = s.pch ∧ u.bsc = s.bsc
                  ∧ u.seq.ctx = some { c with
                      stage := .clearing, stageStart := s.clk.total, step := .start, clearing := s.clearingOffset c })
              ∧ (∀ y z, c.form = .rideThrough → c.expected = some y → s.bsc.selector = .rest (.sys z) → z ≠ y →
                  z.cls = y.cls → s.bsc.breaker = .opened →
                  ∃ u, watchStage s = some u ∧ u.Noticed .entry ∧ u.pch = s.pch
                    ∧ u.bsc.selector = .moving (some (.sys z)) (.sys y) ∧ u.bsc.moveSource = some .sequencer
                    ∧ u.seq.ctx = some { c with stage := .selecting, stageStart := s.clk.total, step := .ownMove })))
        ∧ (∀ o, s.clearingOffset c = o →
            (∀ p, c.candidate = some p → c.roofLive = true → o = s.trv.offsets.get p)
            ∧ (c.candidate = none ∨ c.roofLive = false →
                ((∃ p, (c.raisedAt.get p).isSome = true) →
                  (∀ p, (c.raisedAt.get p).isSome = true → s.trv.offsets.get p ≤ o)
                  ∧ ∃ p, (c.raisedAt.get p).isSome = true ∧ s.trv.offsets.get p = o)
                ∧ ((∀ p, c.raisedAt.get p = none) →
                  (∀ p, (s.ch p).state ≠ .isolated ∨ (∀ q, (s.ch q).state = .isolated) → s.trv.offsets.get p ≤ o)
                  ∧ ∃ p, ((s.ch p).state ≠ .isolated ∨ ∀ q, (s.ch q).state = .isolated) ∧ s.trv.offsets.get p = o)))
        ∧ (c.stage = .clearing →
            (c.entry.start + c.entry.length) * 1000 + c.clearing + s.cfg.items.clearMargin * 1000 ≤ s.trv.front →
            (c.roofLive = false → ∃ u, watchStage s = some u ∧ s.SequenceEnds u c .done .done)
            ∧ (c.roofLive = true → c.form = .lowering ∨ c.form = .lowerZone → c.candidate = none →
                ∃ u, watchStage s = some u
                  ∧ s.StageFails u { c with stage := .raising, stageStart := s.clk.total, step := .start } .noTarget none)
            ∧ (∀ p, c.roofLive = true → c.form = .lowering ∨ c.form = .lowerZone → c.candidate = some p →
                (s.ch p).state = .lowered → (s.ch p).job = none → s.raiseRefusal p .collecting = none →
                ∃ u, watchStage s = some u ∧ (u.ch p).role = some .collecting
                  ∧ (u.ch p).state = (if s.lines.contact.get p then .settling else .raising)
                  ∧ (u.ch p).job = some ⟨.sequencer, .raise .collecting⟩ ∧ (∀ q, q ≠ p → u.ch q = s.ch q)
                  ∧ u.seq.ctx = some { c with stage := .raising, stageStart := s.clk.total, step := .lift
                                              raised := c.raised.set p true }))
        ∧ (∀ p, c.candidate = some p →
            (c.stage = .clearing → c.roofLive = true → c.form = .lowering ∨ c.form = .lowerZone →
              (c.entry.start + c.entry.length) * 1000 + c.clearing + s.cfg.items.clearMargin * 1000 ≤ s.trv.front →
              ((s.ch p).state.isRaised = true → (s.ch p).role = some .scrape →
                ∃ u, watchStage s = some u ∧ (u.ch p).state = (if s.lines.lowered.get p then .lowered else .lowering)
                  ∧ (s.lines.lowered.get p = false → (u.ch p).job = some ⟨.sequencer, .lower⟩)
                  ∧ (∀ q, q ≠ p → u.ch q = s.ch q)
                  ∧ u.seq.ctx = some { c with stage := .raising, stageStart := s.clk.total, step := .lowerFirst })
              ∧ (∀ st, (s.ch p).state = .lowered ∧ (s.ch p).disc = .resting .connected
                    ∧ s.raiseRefusal p .collecting = some st
                  ∨ ((s.ch p).state = .dropped ∨ (s.ch p).state = .isolated) ∧ st = .panUnavailable →
                ∃ v, watchStage s = some (candidateFails (.status st) p v) ∧ { v with seq := s.seq, lnk := s.lnk } = s
                  ∧ v.seq.ctx = some { c with stage := .raising, stageStart := s.clk.total, step := .start }))
            ∧ (∀ d, (c.stage = .clearing ∧ c.roofLive = true ∧ (c.form = .lowering ∨ c.form = .lowerZone)
                    ∧ (c.entry.start + c.entry.length) * 1000 + c.clearing + s.cfg.items.clearMargin * 1000 ≤ s.trv.front
                    ∧ d = { c with stage := .raising, stageStart := s.clk.total, step := .connect }
                  ∨ c.stage = .raising ∧ c.step = .lowerFirst ∧ d = { c with step := .connect }) →
                (s.ch p).state = .lowered → (s.ch p).job = none →
                ((s.ch p).disc = .resting .disconnected ∨ (s.ch p).disc = .failed) →
                ∃ u, watchStage s = some u ∧ (u.ch p).disc = .moving .connected ∧ (u.ch p).state = .lowered
                  ∧ (u.ch p).job = some ⟨.sequencer, .discMove .connected⟩ ∧ (∀ q, q ≠ p → u.ch q = s.ch q)
                  ∧ u.seq.ctx = some d)
            ∧ (c.stage = .raising →
              (c.step = .lowerFirst → (s.ch p).state ≠ .lowered → watchStage s = none)
              ∧ (c.step = .connect → (s.ch p).disc ≠ .resting .connected → watchStage s = none)
              ∧ (c.step = .lift → (s.ch p).state ≠ .raised → watchStage s = none)
              ∧ (c.step = .lowerFirst ∨ c.step = .connect → (s.ch p).state = .lowered → (s.ch p).job = none →
                  (s.ch p).disc = .resting .connected → s.raiseRefusal p .collecting = none →
                  ∃ u, watchStage s = some u ∧ (u.ch p).role = some .collecting
                    ∧ (u.ch p).state = (if s.lines.contact.get p then .settling else .raising)
                    ∧ (u.ch p).job = some ⟨.sequencer, .raise .collecting⟩ ∧ (∀ q, q ≠ p → u.ch q = s.ch q)
                    ∧ u.seq.ctx = some { c with step := .lift, raised := c.raised.set p true })
              ∧ (∀ r, r ≠ .fault .lowerTimeout →
                  (∀ d, seqReport (.opEnded p .sequencer (.raise d) (.failed r)) s = candidateFails r p s)
                  ∧ ∀ q, seqReport (.opEnded p .sequencer (.discMove q) (.failed r)) s = candidateFails r p s)))
        ∧ (∀ p op out, (∀ r, out ≠ .failed r) → seqReport (.opEnded p .sequencer op out) s = s)
        ∧ (∀ p, c.collecting = some p ↔ (c.form = .neutral ∨ c.form = .rideThrough) ∧ c.collector = some p
            ∨ (c.form = .lowering ∨ c.form = .lowerZone) ∧ c.candidate = some p
              ∧ (c.raised.get p = true ∨ c.joined = true))
        ∧ (c.stage ≠ .recovering →
            (∀ k p, k = .contactLost ∨ k = .addTrip →
              (c.collecting = some p → (c.form = .lowering ∨ c.form = .lowerZone) ∧ (c.stage = .raising ∨ c.stage = .confirming) →
                seqReport (.fault k (some p)) s = candidateFails (.fault k) p s)
              ∧ (c.collecting = some p → c.form = .neutral ∨ c.form = .rideThrough ∨ c.stage ≠ .raising ∧ c.stage ≠ .confirming →
                s.StageFails (seqReport (.fault k (some p)) s) c (.fault k) (some p))
              ∧ (c.collecting ≠ some p → seqReport (.fault k (some p)) s = s))
            ∧ (∀ p role bySeq, role ≠ some .collecting ∨ s.bsc.breaker = .opened →
              (bySeq = true ∨ c.stage = .lowering ∧ (c.form = .lowering ∨ c.form = .lowerZone) →
                s.StageFails (seqReport (.lowerTimeout p role bySeq) s) c (.fault .lowerTimeout) (some p))
              ∧ (bySeq = false → c.stage ≠ .lowering ∨ c.form = .neutral ∨ c.form = .rideThrough →
                seqReport (.lowerTimeout p role bySeq) s = s))
            ∧ s.StageFails (seqReport .selectorFailed s) c (.fault .selectorFail) none)
        ∧ ((c.stage = .clearing ∧ (c.form = .neutral ∨ c.form = .rideThrough)
                ∧ (c.entry.start + c.entry.length) * 1000 + c.clearing + s.cfg.items.clearMargin * 1000 ≤ s.trv.front
              ∨ c.stage = .raising ∧ c.step = .lift ∧ (c.form = .lowering ∨ c.form = .lowerZone)
                ∧ ∃ p, c.candidate = some p ∧ (s.ch p).state = .raised) →
            c.roofLive = true →
            ∃ u, watchStage s = some u ∧ u.Noticed .entry ∧ u.pch = s.pch ∧ u.bsc = s.bsc
              ∧ u.seq.ctx = some { c with stage := .confirming, stageStart := s.clk.total, step := .start
                                          confirmLen := s.cfg.items.confirmLimit })
        ∧ (c.stage = .confirming → c.expected.isSome = true → s.ldet.detected.lineSys = c.expected →
            (c.traction = false → ∃ u, watchStage s = some u ∧ s.SequenceEnds u c .done .done)
            ∧ (c.traction = true → c.roofLive = true → s.interlock = true → s.bsc.breaker = .opened →
                ∃ u, watchStage s = some u ∧ u.bsc.breaker = .closing ∧ u.bsc.limitStart = s.clk.time ∧ u.pch = s.pch
                  ∧ u.seq.ctx = some { c with stage := .closing, stageStart := s.clk.total, step := .start
                                              closeFailed := false })
            ∧ (c.traction = true → c.roofLive = true → s.interlock = true →
                s.bsc.breaker = .closing ∨ s.bsc.breaker = .closed →
                ∃ u, watchStage s = some u ∧ u.bsc = s.bsc ∧ u.pch = s.pch
                  ∧ u.seq.ctx = some { c with stage := .closing, stageStart := s.clk.total, step := .start
                                              closeFailed := false })
            ∧ (c.traction = true → c.roofLive = true →
                s.interlock = false ∨ s.bsc.breaker = .opening ∨ s.bsc.breaker = .failed →
                ∃ u, watchStage s = some u
                  ∧ s.StageFails u { c with stage := .closing, stageStart := s.clk.total, step := .start
                                            closeFailed := false } (.status .interlock) none))
        ∧ (c.stage = .closing →
            (s.bsc.breaker = .closed → ∃ u, watchStage s = some u ∧ s.SequenceEnds u c .done .done)
            ∧ (s.bsc.breaker = .opened → ∃ u, watchStage s = some u
                ∧ s.StageFails u c (if c.closeFailed then .fault .breakerFailClose else .status .interlock) none))
        ∧ (∀ r p q y, c.retryUsed = false → c.expected = some y → s.RetriesWith y p q →
            (∀ op, (s.ch p).job ≠ some ⟨.sequencer, op⟩) →
            (candidateFails r p s).pch = s.pch ∧ (candidateFails r p s).fault = s.fault
              ∧ (candidateFails r p s).seq.ctx = some { c with
                  retryUsed := true, candidate := some q, joined := false, stage := .clearing
                  stageStart := s.clk.total, step := .start, clearing := s.clearingOffset { c with candidate := some q } })
        ∧ (∀ r p, c.retryUsed = true ∨ (∀ y, c.expected = some y → ∀ q, ¬ s.RetriesWith y p q) →
            s.StageFails (candidateFails r p s) c r (some p))
        ∧ (c.stage = .recovering →
            (s.bsc.breaker = .opened → (∀ p, c.raised.get p = true →
                (s.ch p).state = .lowered ∨ (s.ch p).state = .dropped ∨ (s.ch p).state = .isolated) →
              ∃ u, watchStage s = some u ∧ s.SequenceEnds u c .failed .failed
                ∧ ∀ f, c.failure = some f → ∀ r, u.seq.last = some r →
                    r.reason = some f.reason ∧ r.stage = some f.stage ∧ r.pan = f.pan)
            ∧ (s.bsc.breaker ≠ .opened ∨ (∃ p, c.raised.get p = true ∧ s.up p = true) → watchStage s = none)))

/-! ### The ice monitor -/

/-- Arc pulses and bins (R143, R144): a pulse is judged by the width in force when its input went active, and one that has not
been active for it is not counted; an accepted one counts for a pantograph in SETTLING or RAISED alone, and the input must go
inactive before another is accepted; a bin end moves the current bin behind the nine and empties it. The row carries the
microseconds the input has been active (log 10), and a bin end offered early ends the bin early (log 7). Temperature samples
(R145, R146): a valid word is kept and is in band from −10.0 to +2.0 °C; an invalid word, a stale line and a substitute sample
count as in band and keep the last valid temperature. The run counts in-band samples to 60 and an out-of-band one clears it. -/
def Obligations.ArcsAndTemperaturesCount : Prop :=
  ∀ s : State,
    (∀ (p : Pan) (us : Nat),
        exec (.arcPulse p .goesInactive) s =
          .next { s with lines := { s.lines with arcPulse := s.lines.arcPulse.set p .inactive } }
        ∧ (s.lines.arcPulse.get p = .accepted →
            exec (.arcPulse p .goesActive) s = .next s ∧ exec (.arcPulse p (.activeFor us)) s = .next s)
        ∧ (s.lines.arcPulse.get p = .inactive → exec (.arcPulse p .goesActive) s =
            .next { s with lines := { s.lines with arcPulse := s.lines.arcPulse.set p (.active s.cfg.items.arcMinWidth) } })
        ∧ (∀ w, s.lines.arcPulse.get p = .active w → exec (.arcPulse p .goesActive) s = .next s)
        ∧ (∀ w, s.lines.arcPulse.get p = .active w ∨ s.lines.arcPulse.get p = .inactive ∧ w = s.cfg.items.arcMinWidth →
          (us < w → exec (.arcPulse p (.activeFor us)) s =
            .next { s with lines := { s.lines with arcPulse := s.lines.arcPulse.set p (.active w) } })
          ∧ (w ≤ us → ((s.ch p).state = .settling ∨ (s.ch p).state = .raised) →
              ∃ u, exec (.arcPulse p (.activeFor us)) s = .next (settle u)
                ∧ u.lines = { s.lines with arcPulse := s.lines.arcPulse.set p .accepted }
                ∧ (u.ice.arcs.get p).current = min 65535 ((s.ice.arcs.get p).current + 1)
                ∧ (u.ice.arcs.get p).completed = (s.ice.arcs.get p).completed
                ∧ (∀ q, q ≠ p → u.ice.arcs.get q = s.ice.arcs.get q)
                ∧ { u with lines := s.lines, ice := { u.ice with arcs := s.ice.arcs } } = s)
          ∧ (w ≤ us → (s.ch p).state ≠ .settling → (s.ch p).state ≠ .raised →
              exec (.arcPulse p (.activeFor us)) s =
                .next (settle { s with lines := { s.lines with arcPulse := s.lines.arcPulse.set p .accepted } }))))
    ∧ (∃ u, exec .arcBinEnd s = .next (settle u) ∧ u.clk = { s.clk with binClock := 0 }
        ∧ (∀ p, (u.ice.arcs.get p).current = 0
            ∧ (u.ice.arcs.get p).completed = (s.ice.arcs.get p).completed.drop 1 ++ [(s.ice.arcs.get p).current])
        ∧ { u with clk := s.clk, ice := { u.ice with arcs := s.ice.arcs } } = s)
    ∧ (∀ x : Int, -500 ≤ x → x ≤ 800 →
        ∃ t, exec (.temperatureWord x) s = .next t ∧ t.ice.tempState = .valid ∧ t.ice.temp = some x
          ∧ t.ice.tempAt = s.clk.time
          ∧ t.ice.run = (if -100 ≤ x ∧ x ≤ 20 then min 60 (s.ice.run + 1) else 0) ∧ t.ice.weather = s.ice.weather)
    ∧ (∀ x : Int, (x < -500 ∨ 800 < x) →
        ∃ t, exec (.temperatureWord x) s = .next t ∧ t.ice.tempState = .invalid ∧ t.ice.temp = s.ice.temp
          ∧ t.ice.tempAt = s.clk.time ∧ t.ice.run = min 60 (s.ice.run + 1)
          ∧ (s.fault = none → (s.ice.tempState = .starting ∨ s.ice.tempState = .valid) →
              ∃ f, t.fault = some f ∧ f.kind = .tempSensor))
    ∧ (s.staleDue = true →
        ∃ t, exec .tempStale s = .next t ∧ t.ice.tempState = .stale ∧ t.ice.temp = s.ice.temp
          ∧ t.ice.subAt = s.clk.time ∧ t.ice.run = min 60 (s.ice.run + 1))
    ∧ (s.substituteDue = true →
        ∃ t, exec .tempSubstituteSample s = .next t ∧ t.ice.tempState = .stale ∧ t.ice.temp = s.ice.temp
          ∧ t.ice.subAt = s.clk.time ∧ t.ice.run = min 60 (s.ice.run + 1))

/-- At the limits of ICE (R146, R148, R149, R152) the release timer is reached; the clear dwell takes ICE_CONFIRMED to
ICE_SUSPECT with dwell and failed set cleared; a heater that has been ON for its limit rests, and one that has rested is ON
where it is still wanted, by its manual demand or an ice demand (R151), in a mode other than ROOF_SAFE and not ISOLATED, and OFF
elsewhere. The scrape procedure (R154 to R158): it starts for a pantograph exactly where that one meets the conditions of R154,
the front-most candidate, with the front outside its exclusion spans (R155); at an evaluation owed it moves that one's
disconnector, or raises it where DISCONNECTED, and no more; a request for a pantograph of another owner stands, is sent again at
each evaluation, and is given up where R154 has ceased (R156); that a scrape neither starts nor stops while no evaluation is
owed, also where a condition of R157 has ceased, is the model's reading (log 33); an operation that it waits for moves it on
where it is DONE and returns it to SCRAPE_IDLE where it is FAILED or ABORTED, for a LOWER_TIMEOUT by the model's choice (log
37); its LOWER leaves SCRAPE_LOWER where DONE or ABORTED, and not where FAILED, with the pantograph still LOWERING; where a
condition of R157 ceases it lowers the scraper; at an evaluation owed with scraping wanted and C RAISED, where every pantograph
of C's class ahead of C is DROPPED, ISOLATED or in the failed set, ICE is raised, once until the report flag is cleared (R154);
a trip sets the block with notice ICE, and another fault of the pantograph it holds puts that one into the failed set. The ice
state (R148, R149): the transitions of Table 8-3 out of ICE_WATCH and ICE_SUSPECT; each raises ICE, but for one between these
two with the SUSPECT response NONE, and owes an evaluation; entry into ICE_CONFIRMED clears the report flag, and its end the
failed set. The level-2 count is the collector's rolling count while a line system is detected, and 0 elsewhere. In
ICE_CONFIRMED the clear dwell runs where the count is at ARC_CLEAR or below. -/
def Obligations.IceLimitsAct : Prop :=
  ∀ s : State,
    (s.releaseDue = true →
        ∃ u, exec .releaseTimerExpiry s = .next (settle u) ∧ u.ice = { s.ice with releaseReached := true }
          ∧ { u with ice := s.ice } = s)
    ∧ (s.dwellDue = true →
        ∃ u, exec .clearDwellExpiry s = .next (settle u)
          ∧ u.ice = { s.ice with state := .suspect, clearDwell := none, failedSet := .all false }
          ∧ s.Raises u (fun _ => [.ice]) ∧ { u with ice := s.ice, lnk := s.lnk, iceEval := s.iceEval } = s)
    ∧ (∀ p : Pan, s.heaterOnDue p = true →
        ∃ u, exec (.heaterOnTimeLimit p) s = .next (settle u)
          ∧ u.ice = { s.ice with heaters := s.ice.heaters.set p ⟨.rest s.clk.time, (s.ice.heaters.get p).manual⟩ }
          ∧ s.Raises u (fun _ => [.ice]) ∧ { u with ice := s.ice, lnk := s.lnk } = s)
    ∧ (∀ p : Pan, s.heaterRestDue p = true →
        ∃ u, exec (.heaterRestEnd p) s = .next (settle u)
          ∧ u.ice.heaters = s.ice.heaters.set p
              ⟨if s.heaterWanted p then .on s.clk.time else .off, (s.ice.heaters.get p).manual⟩
          ∧ { u.ice with heaters := s.ice.heaters } = s.ice
          ∧ { u with ice := s.ice } = s)
    ∧ ((∀ p, ¬ s.IceCollects p) ∨ (∀ y, s.ldet.detected ≠ .raw (.sys y)) → s.level2 = 0)
    ∧ (∀ p y, (∀ q, s.IceCollects q ↔ q = p) → s.ldet.detected = .raw (.sys y) →
        s.level2 = (s.ice.arcs.get p).completed.sum + (s.ice.arcs.get p).current)
    ∧ (s.ice.state = .off ∨ s.ice.state = .confirmed → watchIceState s = none)
    ∧ (s.ice.state = .watch →
        (s.ice.run = 60 ∨ s.ice.weather = true → ∃ u, watchIceState s = some u ∧ s.IceGoes u .suspect)
        ∧ (s.ice.run ≠ 60 → s.ice.weather = false → watchIceState s = none))
    ∧ (s.ice.state = .suspect →
        (s.cfg.items.arcSet ≤ s.level2 → ∃ u, watchIceState s = some u ∧ s.IceGoes u .confirmed)
        ∧ (s.level2 < s.cfg.items.arcSet → s.ice.releaseReached = true → ∃ u, watchIceState s = some u ∧ s.IceGoes u .watch)
        ∧ (s.level2 < s.cfg.items.arcSet → s.ice.releaseReached = false → watchIceState s = none))
    ∧ (s.ice.state ≠ .confirmed → watchDwell s = none)
    ∧ (s.ice.state = .confirmed →
        (s.level2 ≤ s.cfg.items.arcClear →
          (s.ice.clearDwell = none → watchDwell s = some { s with ice := { s.ice with clearDwell := some s.clk.time } })
          ∧ (s.ice.clearDwell ≠ none → watchDwell s = none))
        ∧ (s.cfg.items.arcClear < s.level2 →
          (s.ice.clearDwell = none → watchDwell s = none)
          ∧ (s.ice.clearDwell ≠ none → watchDwell s = some { s with ice := { s.ice with clearDwell := none } })))
    ∧ (∀ p : Pan, s.heaterWanted p = true ↔ ((s.ice.heaters.get p).manual = true ∨ s.IceDemands p)
        ∧ s.seq.mode ≠ .roofSafe ∧ (s.ch p).state ≠ .isolated)
    ∧ ((∀ c, ¬ ((s.ch c).state = .raised ∧ (s.ch c).role = some .collecting)) → s.startable = none)
    ∧ (∀ c p : Pan, s.CollectsAlone c →
        (s.startable = some p ↔ s.ScrapeWanted ∧ (∀ e ∈ s.map.entries, e.state ≠ .active)
          ∧ s.cfg.items.scrapeMinSpeed ≤ s.trv.speed ∧ s.raisedPans.length < 2 ∧ s.ScrapeCandidate c p
          ∧ (∀ q, s.ScrapeCandidate c q → q = p ∨ s.StandsAhead p q) ∧ ¬ s.InExclusion p))
    ∧ (∀ p : Pan, s.scrapeHolds p = true ↔ s.ice.state = .confirmed ∧ s.ice.confResp = .heatAndScrape
        ∧ s.ice.permit = true ∧ (∃ c, (s.ch c).state = .raised ∧ (s.ch c).role = some .collecting)
        ∧ ¬ s.InExclusion p ∧ s.cfg.items.scrapeMinSpeed ≤ s.trv.speed)
    ∧ ((∀ c, ¬ ((s.ch c).state = .raised ∧ (s.ch c).role = some .collecting)) → watchNoPan s = none)
    ∧ (∀ c, s.CollectsAlone c →
        (s.iceEval = true → s.ice.noPanReported = false → s.NoScraper c →
          ∃ u, watchNoPan s = some u ∧ u.ice = { s.ice with noPanReported := true } ∧ s.Raises u (fun _ => [.ice])
            ∧ { u with ice := s.ice, lnk := s.lnk } = s)
        ∧ (s.iceEval = false ∨ s.ice.noPanReported = true ∨ ¬ s.NoScraper c → watchNoPan s = none)
        ∧ (s.noScrapePan = true ↔ s.NoScraper c))
    ∧ (s.iceEval = false → watchScrape s = none)
    ∧ (s.iceEval = true →
        (s.ice.proc = .idle → s.startable = none → ∃ u, watchScrape s = some u ∧ { u with iceEval := true } = s)
        ∧ (∀ p, s.startable = some p → (s.ch p).job = none →
            (s.ice.proc = .idle ∨ s.ice.proc = .disconnect p true → (s.ch p).disc ≠ .resting .disconnected →
              ∃ u, watchScrape s = some u ∧ u.ice = { s.ice with proc := .disconnect p false }
                ∧ (u.ch p).disc = .moving .disconnected ∧ (u.ch p).job = some ⟨.ice, .discMove .disconnected⟩
                ∧ (u.ch p).state = .lowered ∧ ∀ q, q ≠ p → u.ch q = s.ch q)
            ∧ (s.ice.proc = .idle ∨ s.ice.proc = .disconnect p true ∨ s.ice.proc = .raise p true →
              (s.ch p).disc = .resting .disconnected → s.raiseRefusal p .scrape = none →
              ∃ u, watchScrape s = some u ∧ u.ice = { s.ice with proc := .raise p false }
                ∧ (u.ch p).state = (if s.lines.contact.get p then .settling else .raising)
                ∧ (u.ch p).role = some .scrape ∧ (u.ch p).job = some ⟨.ice, .raise .scrape⟩
                ∧ ∀ q, q ≠ p → u.ch q = s.ch q)
            ∧ (s.ice.proc = .idle → (s.ch p).disc = .resting .disconnected → s.raiseRefusal p .scrape ≠ none →
              ∃ u, watchScrape s = some u ∧ { u with iceEval := true } = s))
        ∧ (∀ p src op, s.startable = some p → (s.ch p).job = some ⟨src, op⟩ → src ≠ .ice →
            (s.ice.proc = .idle → (s.ch p).disc ≠ .resting .disconnected →
              ∃ u, watchScrape s = some u ∧ u.ice = { s.ice with proc := .disconnect p true } ∧ u.pch = s.pch)
            ∧ (s.ice.proc = .idle → (s.ch p).disc = .resting .disconnected →
              ∃ u, watchScrape s = some u ∧ u.ice = { s.ice with proc := .raise p true } ∧ u.pch = s.pch)
            ∧ (s.ice.proc = .disconnect p true ∨ s.ice.proc = .raise p true →
              ∃ u, watchScrape s = some u ∧ u.ice = s.ice ∧ u.pch = s.pch))
        ∧ (∀ p, s.startable ≠ some p → s.ice.proc = .disconnect p true ∨ s.ice.proc = .raise p true →
            ∃ u, watchScrape s = some u ∧ u.ice = { s.ice with proc := .idle } ∧ u.pch = s.pch))
    ∧ (∀ p : Pan,
        (s.ice.proc = .raise p false →
          (iceReport (.opEnded p .ice (.raise .scrape) .done) s).ice = { s.ice with proc := .on p }
          ∧ (iceReport (.opEnded p .ice (.raise .scrape) .aborted) s).ice = { s.ice with proc := .idle }
          ∧ (∀ r, (iceReport (.opEnded p .ice (.raise .scrape) (.failed r)) s).ice = { s.ice with proc := .idle })
          ∧ (∀ d, (iceReport (.opEnded p .ice (.discMove d) .done) s).ice = s.ice))
        ∧ (s.ice.proc = .disconnect p false →
          (iceReport (.opEnded p .ice (.discMove .disconnected) .aborted) s).ice = { s.ice with proc := .idle }
          ∧ (∀ r, (iceReport (.opEnded p .ice (.discMove .disconnected) (.failed r)) s).ice = { s.ice with proc := .idle })
          ∧ (s.startable ≠ some p →
              (iceReport (.opEnded p .ice (.discMove .disconnected) .done) s).ice = { s.ice with proc := .idle })
          ∧ (s.startable = some p → (s.ch p).job = none → (s.ch p).disc = .resting .disconnected →
              s.raiseRefusal p .scrape = none →
              (iceReport (.opEnded p .ice (.discMove .disconnected) .done) s).ice = { s.ice with proc := .raise p false }))
        ∧ (s.ice.proc = .lower p →
          (iceReport (.opEnded p .ice .lower .done) s).ice = { s.ice with proc := .idle }
          ∧ (iceReport (.opEnded p .ice .lower .aborted) s).ice = { s.ice with proc := .idle }
          ∧ (∀ r, (iceReport (.opEnded p .ice .lower (.failed r)) s).ice = s.ice)
          ∧ ((s.ch p).state = .lowering → watchProc s = none)
          ∧ ((s.ch p).state ≠ .lowering →
              ∃ u, watchProc s = some u ∧ u.ice = { s.ice with proc := .idle } ∧ u.pch = s.pch))
        ∧ (s.ice.proc.held = some p →
          (∀ k, k = .raiseTimeout ∨ k = .contactLost ∨ k = .disconnectorFail →
            (iceReport (.fault k (some p)) s).ice = { s.ice with failedSet := s.ice.failedSet.set p true, proc := .idle }))
        ∧ (s.ice.proc.held = some p ∨ (s.ch p).role = some .scrape →
          (iceReport (.fault .addTrip (some p)) s).ice = { s.ice with block := some p, proc := .idle }
          ∧ (iceReport (.fault .addTrip (some p)) s).Noticed .ice)
        ∧ (s.ice.proc = .on p → (s.ch p).state.isRaised = true → (s.ch p).role = some .scrape →
          (s.iceEval = false ∨ s.scrapeHolds p = true → watchProc s = none)
          ∧ (s.iceEval = true → s.scrapeHolds p = false → (s.ch p).job = none → s.lines.lowered.get p = false →
              ∃ u, watchProc s = some u ∧ u.ice = { s.ice with proc := .lower p } ∧ (u.ch p).state = .lowering
                ∧ (u.ch p).job = some ⟨.ice, .lower⟩ ∧ ∀ q, q ≠ p → u.ch q = s.ch q))
        ∧ (s.ice.proc = .on p → (s.ch p).state.isRaised = false →
            ∃ u, watchProc s = some u ∧ u.ice = { s.ice with proc := .idle } ∧ u.pch = s.pch))

/-! ### Whole-machine rules -/

/-- A row that is a time limit changes nothing while its limit is not due: the event cannot come before its time. That such a
row may be offered early at all is the model's (log 7). A limit is due where its timer runs and its length has elapsed (R32, R41
to R43, R46, R48, R52, R82, R87, R88, R91, R129, R145, R146, R149, R152, R164), and the rows of the speed interval and of the
arc bin are queued at the ends of 100 ms and 1000 ms (R2, R144). -/
def Obligations.LimitsNotDueDoNothing : Prop :=
  ∀ (l : Link) (p : Pan) (s : State),
    (s.gapDue l = false → exec (.frameGapTimeout l) s = .next s)
    ∧ (s.quietDue l = false → exec (.receiverIdle l) s = .next s)
    ∧ (s.holdOffDue l = false → exec (.holdOffEnd l) s = .next s)
    ∧ (s.breakDue l = false → exec (.linkReset l) s = .next s)
    ∧ (s.lossDue = false → exec .sampleLoss s = .next s)
    ∧ (s.pressureDue p = false → exec (.pressureGap p) s = .next s)
    ∧ (s.settleDue p = false → exec (.settleComplete p) s = .next s)
    ∧ (s.raiseDue p = false → exec (.raiseTimeout p) s = .next s)
    ∧ (s.contactDue p = false → exec (.contactLost p) s = .next s)
    ∧ (s.lowerDue p = false → exec (.lowerTimeout p) s = .next s)
    ∧ (s.discDue p = false → exec (.discMoveTimeout p) s = .next s)
    ∧ (s.closeDue = false → exec .breakerCloseTimeout s = .next s)
    ∧ (s.openDue = false → exec .breakerOpenTimeout s = .next s)
    ∧ (s.watchDue = false → exec .lineLostWatchExpiry s = .next s)
    ∧ (s.recloseDue = false → exec .autoReclose s = .next s)
    ∧ (s.moveDue = false → exec .selectorMoveTimeout s = .next s)
    ∧ (s.confirmDue = false → exec .confirmLimitExpiry s = .next s)
    ∧ (s.staleDue = false → exec .tempStale s = .next s)
    ∧ (s.substituteDue = false → exec .tempSubstituteSample s = .next s)
    ∧ (s.releaseDue = false → exec .releaseTimerExpiry s = .next s)
    ∧ (s.dwellDue = false → exec .clearDwellExpiry s = .next s)
    ∧ (s.heaterOnDue p = false → exec (.heaterOnTimeLimit p) s = .next s)
    ∧ (s.heaterRestDue p = false → exec (.heaterRestEnd p) s = .next s)
    ∧ (s.lapseDue = false → exec .supervisionLapse s = .next s)
    ∧ (s.lossDue = true ↔ s.ldet.stream = .running ∧ 2 ≤ (s.clk.time - s.ldet.sampleAt).toNat)
    ∧ (s.pressureDue p = true ↔ (s.ch p).state.isRaised = true ∧ 20 ≤ (s.clk.time - (s.ch p).sampleAt).toNat)
    ∧ (s.settleDue p = true ↔ (s.ch p).state = .settling
        ∧ ∃ b, (s.ch p).settle = some b ∧ (s.ch p).settleLen ≤ (s.clk.time - b).toNat)
    ∧ (s.raiseDue p = true ↔ ((s.ch p).state = .raising ∨ (s.ch p).state = .settling)
        ∧ (s.ch p).raiseLen ≤ (s.clk.time - (s.ch p).raiseStart).toNat)
    ∧ (s.contactDue p = true ↔ (s.ch p).state = .raised
        ∧ ∃ b, (s.ch p).loss = some b ∧ 500 ≤ (s.clk.time - b).toNat)
    ∧ (s.lowerDue p = true ↔ (s.ch p).state = .lowering ∧ (s.ch p).lowerFired = false
        ∧ (s.ch p).lowerLen ≤ s.clk.total - (s.ch p).lowerStart)
    ∧ (s.discDue p = true ↔ (∃ q, (s.ch p).disc = .moving q) ∧ 2000 ≤ (s.clk.time - (s.ch p).discStart).toNat)
    ∧ (s.closeDue = true ↔ s.bsc.breaker = .closing ∧ 300 ≤ (s.clk.time - s.bsc.limitStart).toNat)
    ∧ (s.openDue = true ↔ s.bsc.breaker = .opening ∧ 200 ≤ (s.clk.time - s.bsc.limitStart).toNat)
    ∧ (s.watchDue = true ↔ ∃ b, s.bsc.watch = .running b ∧ s.cfg.items.lineLostDwell ≤ (s.clk.time - b).toNat)
    ∧ (s.recloseDue = true ↔ ∃ b, s.bsc.recloseTimer = some b ∧ 2000 ≤ (s.clk.time - b).toNat)
    ∧ (s.moveDue = true ↔ (∃ o q, s.bsc.selector = .moving o q) ∧ 4000 ≤ (s.clk.time - s.bsc.moveStart).toNat)
    ∧ (s.confirmDue = true ↔ ∃ c, s.seq.ctx = some c ∧ c.stage = .confirming ∧ c.confirmLen ≤ s.clk.total - c.stageStart)
    ∧ (s.staleDue = true ↔ s.ice.tempState ≠ .stale ∧ 5000 ≤ (s.clk.time - s.ice.tempAt).toNat)
    ∧ (s.substituteDue = true ↔ s.ice.tempState = .stale ∧ 1000 ≤ (s.clk.time - s.ice.subAt).toNat)
    ∧ (s.releaseDue = true ↔ s.ice.run ≠ 60 ∧ s.ice.weather = false ∧ s.ice.releaseReached = false
        ∧ 300000 ≤ (s.clk.time - s.ice.releaseStart).toNat)
    ∧ (s.dwellDue = true ↔ s.ice.state = .confirmed
        ∧ ∃ b, s.ice.clearDwell = some b ∧ 60000 ≤ (s.clk.time - b).toNat)
    ∧ (s.heaterOnDue p = true ↔ ∃ b, (s.ice.heaters.get p).out = .on b ∧ 600000 ≤ (s.clk.time - b).toNat)
    ∧ (s.heaterRestDue p = true ↔ ∃ b, (s.ice.heaters.get p).out = .rest b ∧ 120000 ≤ (s.clk.time - b).toNat)
    ∧ (s.lapseDue = true ↔ ∃ v, s.auth.supervision = some v ∧ v.limit ≤ (s.clk.time - v.start).toNat)
    ∧ (.speedIntervalEnd ∈ dueRows s ↔ 100 ≤ s.clk.speedClock)
    ∧ (.arcBinEnd ∈ dueRows s ↔ 1000 ≤ s.clk.binClock)

/-- With no FAULT_CLEAR waiting in a queue, a filled fault capture record stands through every row but POWER_ON, FAULT_CLEAR and
the bytes that may bring a FAULT_CLEAR (R200, R201); and with no ROOF_RESET waiting, ROOF_SAFE stands through every row but
POWER_ON, ROOF_RESET and the bytes that may bring one (R136 to R140). -/
def Obligations.FaultRecordAndRoofSafeStand : Prop :=
  ∀ (i : Instr) (s t : State), i ≠ .powerOn →
    (∀ l b, i ≠ .frameComplete l b ∧ i ≠ .byteReceived l b ∧ i ≠ .faultyByte l b (sentTail b)) → exec i s = .next t →
    (∀ r, s.fault = some r → (∀ l tag, i ≠ .faultClear l tag) → (∀ l, ∀ f ∈ (s.lnk.get l).queue, f.cmd ≠ .faultClear) →
        t.fault = some r)
    ∧ (s.seq.mode = .roofSafe → (∀ l tag, i ≠ .roofReset l tag) → (∀ l, ∀ f ∈ (s.lnk.get l).queue, f.cmd ≠ .roofReset) →
        t.seq.mode = .roofSafe)

/-! ### Invariants -/

/-- Every step keeps each link's attention in agreement with its notice sets, and its queue at four frames or fewer with none
waiting on a link that could take it (R180, R181, R198). -/
def Obligations.StepKeepsTheLinks : Prop :=
  ∀ s t : State, s.Attended → s.QueuesServed → step s = .next t → t.Attended ∧ t.QueuesServed

/-- Every step keeps the map in order: at most 64 entries in ascending start, no two spans overlapping, no id twice (R98,
R99). -/
def Obligations.StepKeepsTheMapInOrder : Prop := ∀ s t : State, s.MapOrdered → step s = .next t → t.MapOrdered

/-- Every step keeps at most two pantographs raised, and at most one of them COLLECTING (R54). -/
def Obligations.StepKeepsRaiseLimits : Prop := ∀ s t : State, s.RaiseLimits → step s = .next t → t.RaiseLimits

/-- Every step keeps these values in the ranges their rules give: the odometer, the history, the speed and the runs (R5, R6,
R8), the counts of the detector (R21, R22, R29), the items and the force tables (R65, R66, R194), the force setpoints (R72), the
arc bins (R144) and the in-band run (R146). -/
def Obligations.StepKeepsTheBounds : Prop := ∀ s t : State, s.Bounded → step s = .next t → t.Bounded

/-- The state after reset meets every invariant. -/
def Obligations.ResetMeetsTheInvariants : Prop :=
  State.reset.Attended ∧ State.reset.QueuesServed ∧ State.reset.MapOrdered ∧ State.reset.RaiseLimits ∧ State.reset.Bounded
end

