-- ==== Sys2Proof/Laws/State.lean ====
section
/-! SUPPORT. What every update of one block does to every field of the state: the field it updates, and the others as they
stand. -/

namespace Sys2Proof

variable {α : Type}

@[simp] theorem PerPan.get_set_same (v : PerPan α) (p : Pan) (x : α) : (v.set p x).get p = x := by cases p <;> rfl
theorem PerPan.get_set_ne (v : PerPan α) {p q : Pan} (x : α) (h : q ≠ p) : (v.set p x).get q = v.get q := by
  cases p <;> cases q <;> first | rfl | exact absurd rfl h
theorem PerPan.get_set (v : PerPan α) (p q : Pan) (x : α) : (v.set p x).get q = if q = p then x else v.get q := by
  cases p <;> cases q <;> rfl
@[simp] theorem PerPan.set_get (v : PerPan α) (p : Pan) : v.set p (v.get p) = v := by cases p <;> rfl
@[simp] theorem PerPan.get_all (x : α) (p : Pan) : (PerPan.all x).get p = x := by cases p <;> rfl
@[simp] theorem PerLink.get_set_same (v : PerLink α) (l : Link) (x : α) : (v.set l x).get l = x := by cases l <;> rfl
theorem PerLink.get_set_ne (v : PerLink α) {l k : Link} (x : α) (h : k ≠ l) : (v.set l x).get k = v.get k := by
  cases l <;> cases k <;> first | rfl | exact absurd rfl h
theorem PerLink.get_set (v : PerLink α) (l k : Link) (x : α) : (v.set l x).get k = if k = l then x else v.get k := by
  cases l <;> cases k <;> rfl
@[simp] theorem PerLink.set_get (v : PerLink α) (l : Link) : v.set l (v.get l) = v := by cases l <;> rfl
@[simp] theorem PerLink.set_set (v : PerLink α) (l : Link) (x y : α) : (v.set l x).set l y = v.set l y := by
  cases l <;> rfl
@[simp] theorem PerLink.get_all (x : α) (l : Link) : (PerLink.all x).get l = x := by cases l <;> rfl
@[simp] theorem PerClass.get_set_same (v : PerClass α) (c : PClass) (x : α) : (v.set c x).get c = x := by cases c <;> rfl
theorem PerClass.get_set (v : PerClass α) (c k : PClass) (x : α) : (v.set c x).get k = if k = c then x else v.get k := by
  cases c <;> cases k <;> rfl

/-- Two values of all channels are equal where they are equal for each. -/
theorem PerPan.ext_get {v w : PerPan α} (h : ∀ p, v.get p = w.get p) : v = w := by
  cases v; cases w
  simpa [PerPan.get] using ⟨h .p1, h .p2, h .p3, h .p4⟩

/-- Two values of all links are equal where they are equal for each. -/
theorem PerLink.ext_get {v w : PerLink α} (h : ∀ l, v.get l = w.get l) : v = w := by
  cases v; cases w
  simpa [PerLink.get] using ⟨h .a, h .b, h .m⟩

end Sys2Proof

namespace Sys2Proof.Machine

variable (s : State)

@[simp] theorem State.modClk_clk (g : Clocks → Clocks) : (s.modClk g).clk = g s.clk := rfl
@[simp] theorem State.modClk_lines (g : Clocks → Clocks) : (s.modClk g).lines = s.lines := rfl
@[simp] theorem State.modClk_cfg (g : Clocks → Clocks) : (s.modClk g).cfg = s.cfg := rfl
@[simp] theorem State.modClk_trv (g : Clocks → Clocks) : (s.modClk g).trv = s.trv := rfl
@[simp] theorem State.modClk_ldet (g : Clocks → Clocks) : (s.modClk g).ldet = s.ldet := rfl
@[simp] theorem State.modClk_pch (g : Clocks → Clocks) : (s.modClk g).pch = s.pch := rfl
@[simp] theorem State.modClk_freg (g : Clocks → Clocks) : (s.modClk g).freg = s.freg := rfl
@[simp] theorem State.modClk_bsc (g : Clocks → Clocks) : (s.modClk g).bsc = s.bsc := rfl
@[simp] theorem State.modClk_map (g : Clocks → Clocks) : (s.modClk g).map = s.map := rfl
@[simp] theorem State.modClk_seq (g : Clocks → Clocks) : (s.modClk g).seq = s.seq := rfl
@[simp] theorem State.modClk_ice (g : Clocks → Clocks) : (s.modClk g).ice = s.ice := rfl
@[simp] theorem State.modClk_auth (g : Clocks → Clocks) : (s.modClk g).auth = s.auth := rfl
@[simp] theorem State.modClk_lnk (g : Clocks → Clocks) : (s.modClk g).lnk = s.lnk := rfl
@[simp] theorem State.modClk_longOps (g : Clocks → Clocks) : (s.modClk g).longOps = s.longOps := rfl
@[simp] theorem State.modClk_sync (g : Clocks → Clocks) : (s.modClk g).sync = s.sync := rfl
@[simp] theorem State.modClk_fault (g : Clocks → Clocks) : (s.modClk g).fault = s.fault := rfl
@[simp] theorem State.modClk_reports (g : Clocks → Clocks) : (s.modClk g).reports = s.reports := rfl
@[simp] theorem State.modClk_iceEval (g : Clocks → Clocks) : (s.modClk g).iceEval = s.iceEval := rfl
@[simp] theorem State.modClk_freeCount (g : Clocks → Clocks) : (s.modClk g).freeCount = s.freeCount := rfl
@[simp] theorem State.modClk_pending (g : Clocks → Clocks) : (s.modClk g).pending = s.pending := rfl
@[simp] theorem State.modLines_clk (g : Lines → Lines) : (s.modLines g).clk = s.clk := rfl
@[simp] theorem State.modLines_lines (g : Lines → Lines) : (s.modLines g).lines = g s.lines := rfl
@[simp] theorem State.modLines_cfg (g : Lines → Lines) : (s.modLines g).cfg = s.cfg := rfl
@[simp] theorem State.modLines_trv (g : Lines → Lines) : (s.modLines g).trv = s.trv := rfl
@[simp] theorem State.modLines_ldet (g : Lines → Lines) : (s.modLines g).ldet = s.ldet := rfl
@[simp] theorem State.modLines_pch (g : Lines → Lines) : (s.modLines g).pch = s.pch := rfl
@[simp] theorem State.modLines_freg (g : Lines → Lines) : (s.modLines g).freg = s.freg := rfl
@[simp] theorem State.modLines_bsc (g : Lines → Lines) : (s.modLines g).bsc = s.bsc := rfl
@[simp] theorem State.modLines_map (g : Lines → Lines) : (s.modLines g).map = s.map := rfl
@[simp] theorem State.modLines_seq (g : Lines → Lines) : (s.modLines g).seq = s.seq := rfl
@[simp] theorem State.modLines_ice (g : Lines → Lines) : (s.modLines g).ice = s.ice := rfl
@[simp] theorem State.modLines_auth (g : Lines → Lines) : (s.modLines g).auth = s.auth := rfl
@[simp] theorem State.modLines_lnk (g : Lines → Lines) : (s.modLines g).lnk = s.lnk := rfl
@[simp] theorem State.modLines_longOps (g : Lines → Lines) : (s.modLines g).longOps = s.longOps := rfl
@[simp] theorem State.modLines_sync (g : Lines → Lines) : (s.modLines g).sync = s.sync := rfl
@[simp] theorem State.modLines_fault (g : Lines → Lines) : (s.modLines g).fault = s.fault := rfl
@[simp] theorem State.modLines_reports (g : Lines → Lines) : (s.modLines g).reports = s.reports := rfl
@[simp] theorem State.modLines_iceEval (g : Lines → Lines) : (s.modLines g).iceEval = s.iceEval := rfl
@[simp] theorem State.modLines_freeCount (g : Lines → Lines) : (s.modLines g).freeCount = s.freeCount := rfl
@[simp] theorem State.modLines_pending (g : Lines → Lines) : (s.modLines g).pending = s.pending := rfl
@[simp] theorem State.modCfg_clk (g : Store → Store) : (s.modCfg g).clk = s.clk := rfl
@[simp] theorem State.modCfg_lines (g : Store → Store) : (s.modCfg g).lines = s.lines := rfl
@[simp] theorem State.modCfg_cfg (g : Store → Store) : (s.modCfg g).cfg = g s.cfg := rfl
@[simp] theorem State.modCfg_trv (g : Store → Store) : (s.modCfg g).trv = s.trv := rfl
@[simp] theorem State.modCfg_ldet (g : Store → Store) : (s.modCfg g).ldet = s.ldet := rfl
@[simp] theorem State.modCfg_pch (g : Store → Store) : (s.modCfg g).pch = s.pch := rfl
@[simp] theorem State.modCfg_freg (g : Store → Store) : (s.modCfg g).freg = s.freg := rfl
@[simp] theorem State.modCfg_bsc (g : Store → Store) : (s.modCfg g).bsc = s.bsc := rfl
@[simp] theorem State.modCfg_map (g : Store → Store) : (s.modCfg g).map = s.map := rfl
@[simp] theorem State.modCfg_seq (g : Store → Store) : (s.modCfg g).seq = s.seq := rfl
@[simp] theorem State.modCfg_ice (g : Store → Store) : (s.modCfg g).ice = s.ice := rfl
@[simp] theorem State.modCfg_auth (g : Store → Store) : (s.modCfg g).auth = s.auth := rfl
@[simp] theorem State.modCfg_lnk (g : Store → Store) : (s.modCfg g).lnk = s.lnk := rfl
@[simp] theorem State.modCfg_longOps (g : Store → Store) : (s.modCfg g).longOps = s.longOps := rfl
@[simp] theorem State.modCfg_sync (g : Store → Store) : (s.modCfg g).sync = s.sync := rfl
@[simp] theorem State.modCfg_fault (g : Store → Store) : (s.modCfg g).fault = s.fault := rfl
@[simp] theorem State.modCfg_reports (g : Store → Store) : (s.modCfg g).reports = s.reports := rfl
@[simp] theorem State.modCfg_iceEval (g : Store → Store) : (s.modCfg g).iceEval = s.iceEval := rfl
@[simp] theorem State.modCfg_freeCount (g : Store → Store) : (s.modCfg g).freeCount = s.freeCount := rfl
@[simp] theorem State.modCfg_pending (g : Store → Store) : (s.modCfg g).pending = s.pending := rfl
@[simp] theorem State.modTrv_clk (g : Travel → Travel) : (s.modTrv g).clk = s.clk := rfl
@[simp] theorem State.modTrv_lines (g : Travel → Travel) : (s.modTrv g).lines = s.lines := rfl
@[simp] theorem State.modTrv_cfg (g : Travel → Travel) : (s.modTrv g).cfg = s.cfg := rfl
@[simp] theorem State.modTrv_trv (g : Travel → Travel) : (s.modTrv g).trv = g s.trv := rfl
@[simp] theorem State.modTrv_ldet (g : Travel → Travel) : (s.modTrv g).ldet = s.ldet := rfl
@[simp] theorem State.modTrv_pch (g : Travel → Travel) : (s.modTrv g).pch = s.pch := rfl
@[simp] theorem State.modTrv_freg (g : Travel → Travel) : (s.modTrv g).freg = s.freg := rfl
@[simp] theorem State.modTrv_bsc (g : Travel → Travel) : (s.modTrv g).bsc = s.bsc := rfl
@[simp] theorem State.modTrv_map (g : Travel → Travel) : (s.modTrv g).map = s.map := rfl
@[simp] theorem State.modTrv_seq (g : Travel → Travel) : (s.modTrv g).seq = s.seq := rfl
@[simp] theorem State.modTrv_ice (g : Travel → Travel) : (s.modTrv g).ice = s.ice := rfl
@[simp] theorem State.modTrv_auth (g : Travel → Travel) : (s.modTrv g).auth = s.auth := rfl
@[simp] theorem State.modTrv_lnk (g : Travel → Travel) : (s.modTrv g).lnk = s.lnk := rfl
@[simp] theorem State.modTrv_longOps (g : Travel → Travel) : (s.modTrv g).longOps = s.longOps := rfl
@[simp] theorem State.modTrv_sync (g : Travel → Travel) : (s.modTrv g).sync = s.sync := rfl
@[simp] theorem State.modTrv_fault (g : Travel → Travel) : (s.modTrv g).fault = s.fault := rfl
@[simp] theorem State.modTrv_reports (g : Travel → Travel) : (s.modTrv g).reports = s.reports := rfl
@[simp] theorem State.modTrv_iceEval (g : Travel → Travel) : (s.modTrv g).iceEval = s.iceEval := rfl
@[simp] theorem State.modTrv_freeCount (g : Travel → Travel) : (s.modTrv g).freeCount = s.freeCount := rfl
@[simp] theorem State.modTrv_pending (g : Travel → Travel) : (s.modTrv g).pending = s.pending := rfl
@[simp] theorem State.modLdet_clk (g : Detector → Detector) : (s.modLdet g).clk = s.clk := rfl
@[simp] theorem State.modLdet_lines (g : Detector → Detector) : (s.modLdet g).lines = s.lines := rfl
@[simp] theorem State.modLdet_cfg (g : Detector → Detector) : (s.modLdet g).cfg = s.cfg := rfl
@[simp] theorem State.modLdet_trv (g : Detector → Detector) : (s.modLdet g).trv = s.trv := rfl
@[simp] theorem State.modLdet_ldet (g : Detector → Detector) : (s.modLdet g).ldet = g s.ldet := rfl
@[simp] theorem State.modLdet_pch (g : Detector → Detector) : (s.modLdet g).pch = s.pch := rfl
@[simp] theorem State.modLdet_freg (g : Detector → Detector) : (s.modLdet g).freg = s.freg := rfl
@[simp] theorem State.modLdet_bsc (g : Detector → Detector) : (s.modLdet g).bsc = s.bsc := rfl
@[simp] theorem State.modLdet_map (g : Detector → Detector) : (s.modLdet g).map = s.map := rfl
@[simp] theorem State.modLdet_seq (g : Detector → Detector) : (s.modLdet g).seq = s.seq := rfl
@[simp] theorem State.modLdet_ice (g : Detector → Detector) : (s.modLdet g).ice = s.ice := rfl
@[simp] theorem State.modLdet_auth (g : Detector → Detector) : (s.modLdet g).auth = s.auth := rfl
@[simp] theorem State.modLdet_lnk (g : Detector → Detector) : (s.modLdet g).lnk = s.lnk := rfl
@[simp] theorem State.modLdet_longOps (g : Detector → Detector) : (s.modLdet g).longOps = s.longOps := rfl
@[simp] theorem State.modLdet_sync (g : Detector → Detector) : (s.modLdet g).sync = s.sync := rfl
@[simp] theorem State.modLdet_fault (g : Detector → Detector) : (s.modLdet g).fault = s.fault := rfl
@[simp] theorem State.modLdet_reports (g : Detector → Detector) : (s.modLdet g).reports = s.reports := rfl
@[simp] theorem State.modLdet_iceEval (g : Detector → Detector) : (s.modLdet g).iceEval = s.iceEval := rfl
@[simp] theorem State.modLdet_freeCount (g : Detector → Detector) : (s.modLdet g).freeCount = s.freeCount := rfl
@[simp] theorem State.modLdet_pending (g : Detector → Detector) : (s.modLdet g).pending = s.pending := rfl
@[simp] theorem State.modBsc_clk (g : Power → Power) : (s.modBsc g).clk = s.clk := rfl
@[simp] theorem State.modBsc_lines (g : Power → Power) : (s.modBsc g).lines = s.lines := rfl
@[simp] theorem State.modBsc_cfg (g : Power → Power) : (s.modBsc g).cfg = s.cfg := rfl
@[simp] theorem State.modBsc_trv (g : Power → Power) : (s.modBsc g).trv = s.trv := rfl
@[simp] theorem State.modBsc_ldet (g : Power → Power) : (s.modBsc g).ldet = s.ldet := rfl
@[simp] theorem State.modBsc_pch (g : Power → Power) : (s.modBsc g).pch = s.pch := rfl
@[simp] theorem State.modBsc_freg (g : Power → Power) : (s.modBsc g).freg = s.freg := rfl
@[simp] theorem State.modBsc_bsc (g : Power → Power) : (s.modBsc g).bsc = g s.bsc := rfl
@[simp] theorem State.modBsc_map (g : Power → Power) : (s.modBsc g).map = s.map := rfl
@[simp] theorem State.modBsc_seq (g : Power → Power) : (s.modBsc g).seq = s.seq := rfl
@[simp] theorem State.modBsc_ice (g : Power → Power) : (s.modBsc g).ice = s.ice := rfl
@[simp] theorem State.modBsc_auth (g : Power → Power) : (s.modBsc g).auth = s.auth := rfl
@[simp] theorem State.modBsc_lnk (g : Power → Power) : (s.modBsc g).lnk = s.lnk := rfl
@[simp] theorem State.modBsc_longOps (g : Power → Power) : (s.modBsc g).longOps = s.longOps := rfl
@[simp] theorem State.modBsc_sync (g : Power → Power) : (s.modBsc g).sync = s.sync := rfl
@[simp] theorem State.modBsc_fault (g : Power → Power) : (s.modBsc g).fault = s.fault := rfl
@[simp] theorem State.modBsc_reports (g : Power → Power) : (s.modBsc g).reports = s.reports := rfl
@[simp] theorem State.modBsc_iceEval (g : Power → Power) : (s.modBsc g).iceEval = s.iceEval := rfl
@[simp] theorem State.modBsc_freeCount (g : Power → Power) : (s.modBsc g).freeCount = s.freeCount := rfl
@[simp] theorem State.modBsc_pending (g : Power → Power) : (s.modBsc g).pending = s.pending := rfl
@[simp] theorem State.modMap_clk (g : RouteMap → RouteMap) : (s.modMap g).clk = s.clk := rfl
@[simp] theorem State.modMap_lines (g : RouteMap → RouteMap) : (s.modMap g).lines = s.lines := rfl
@[simp] theorem State.modMap_cfg (g : RouteMap → RouteMap) : (s.modMap g).cfg = s.cfg := rfl
@[simp] theorem State.modMap_trv (g : RouteMap → RouteMap) : (s.modMap g).trv = s.trv := rfl
@[simp] theorem State.modMap_ldet (g : RouteMap → RouteMap) : (s.modMap g).ldet = s.ldet := rfl
@[simp] theorem State.modMap_pch (g : RouteMap → RouteMap) : (s.modMap g).pch = s.pch := rfl
@[simp] theorem State.modMap_freg (g : RouteMap → RouteMap) : (s.modMap g).freg = s.freg := rfl
@[simp] theorem State.modMap_bsc (g : RouteMap → RouteMap) : (s.modMap g).bsc = s.bsc := rfl
@[simp] theorem State.modMap_map (g : RouteMap → RouteMap) : (s.modMap g).map = g s.map := rfl
@[simp] theorem State.modMap_seq (g : RouteMap → RouteMap) : (s.modMap g).seq = s.seq := rfl
@[simp] theorem State.modMap_ice (g : RouteMap → RouteMap) : (s.modMap g).ice = s.ice := rfl
@[simp] theorem State.modMap_auth (g : RouteMap → RouteMap) : (s.modMap g).auth = s.auth := rfl
@[simp] theorem State.modMap_lnk (g : RouteMap → RouteMap) : (s.modMap g).lnk = s.lnk := rfl
@[simp] theorem State.modMap_longOps (g : RouteMap → RouteMap) : (s.modMap g).longOps = s.longOps := rfl
@[simp] theorem State.modMap_sync (g : RouteMap → RouteMap) : (s.modMap g).sync = s.sync := rfl
@[simp] theorem State.modMap_fault (g : RouteMap → RouteMap) : (s.modMap g).fault = s.fault := rfl
@[simp] theorem State.modMap_reports (g : RouteMap → RouteMap) : (s.modMap g).reports = s.reports := rfl
@[simp] theorem State.modMap_iceEval (g : RouteMap → RouteMap) : (s.modMap g).iceEval = s.iceEval := rfl
@[simp] theorem State.modMap_freeCount (g : RouteMap → RouteMap) : (s.modMap g).freeCount = s.freeCount := rfl
@[simp] theorem State.modMap_pending (g : RouteMap → RouteMap) : (s.modMap g).pending = s.pending := rfl
@[simp] theorem State.modSeq_clk (g : Sequencer → Sequencer) : (s.modSeq g).clk = s.clk := rfl
@[simp] theorem State.modSeq_lines (g : Sequencer → Sequencer) : (s.modSeq g).lines = s.lines := rfl
@[simp] theorem State.modSeq_cfg (g : Sequencer → Sequencer) : (s.modSeq g).cfg = s.cfg := rfl
@[simp] theorem State.modSeq_trv (g : Sequencer → Sequencer) : (s.modSeq g).trv = s.trv := rfl
@[simp] theorem State.modSeq_ldet (g : Sequencer → Sequencer) : (s.modSeq g).ldet = s.ldet := rfl
@[simp] theorem State.modSeq_pch (g : Sequencer → Sequencer) : (s.modSeq g).pch = s.pch := rfl
@[simp] theorem State.modSeq_freg (g : Sequencer → Sequencer) : (s.modSeq g).freg = s.freg := rfl
@[simp] theorem State.modSeq_bsc (g : Sequencer → Sequencer) : (s.modSeq g).bsc = s.bsc := rfl
@[simp] theorem State.modSeq_map (g : Sequencer → Sequencer) : (s.modSeq g).map = s.map := rfl
@[simp] theorem State.modSeq_seq (g : Sequencer → Sequencer) : (s.modSeq g).seq = g s.seq := rfl
@[simp] theorem State.modSeq_ice (g : Sequencer → Sequencer) : (s.modSeq g).ice = s.ice := rfl
@[simp] theorem State.modSeq_auth (g : Sequencer → Sequencer) : (s.modSeq g).auth = s.auth := rfl
@[simp] theorem State.modSeq_lnk (g : Sequencer → Sequencer) : (s.modSeq g).lnk = s.lnk := rfl
@[simp] theorem State.modSeq_longOps (g : Sequencer → Sequencer) : (s.modSeq g).longOps = s.longOps := rfl
@[simp] theorem State.modSeq_sync (g : Sequencer → Sequencer) : (s.modSeq g).sync = s.sync := rfl
@[simp] theorem State.modSeq_fault (g : Sequencer → Sequencer) : (s.modSeq g).fault = s.fault := rfl
@[simp] theorem State.modSeq_reports (g : Sequencer → Sequencer) : (s.modSeq g).reports = s.reports := rfl
@[simp] theorem State.modSeq_iceEval (g : Sequencer → Sequencer) : (s.modSeq g).iceEval = s.iceEval := rfl
@[simp] theorem State.modSeq_freeCount (g : Sequencer → Sequencer) : (s.modSeq g).freeCount = s.freeCount := rfl
@[simp] theorem State.modSeq_pending (g : Sequencer → Sequencer) : (s.modSeq g).pending = s.pending := rfl
@[simp] theorem State.modIce_clk (g : Ice → Ice) : (s.modIce g).clk = s.clk := rfl
@[simp] theorem State.modIce_lines (g : Ice → Ice) : (s.modIce g).lines = s.lines := rfl
@[simp] theorem State.modIce_cfg (g : Ice → Ice) : (s.modIce g).cfg = s.cfg := rfl
@[simp] theorem State.modIce_trv (g : Ice → Ice) : (s.modIce g).trv = s.trv := rfl
@[simp] theorem State.modIce_ldet (g : Ice → Ice) : (s.modIce g).ldet = s.ldet := rfl
@[simp] theorem State.modIce_pch (g : Ice → Ice) : (s.modIce g).pch = s.pch := rfl
@[simp] theorem State.modIce_freg (g : Ice → Ice) : (s.modIce g).freg = s.freg := rfl
@[simp] theorem State.modIce_bsc (g : Ice → Ice) : (s.modIce g).bsc = s.bsc := rfl
@[simp] theorem State.modIce_map (g : Ice → Ice) : (s.modIce g).map = s.map := rfl
@[simp] theorem State.modIce_seq (g : Ice → Ice) : (s.modIce g).seq = s.seq := rfl
@[simp] theorem State.modIce_ice (g : Ice → Ice) : (s.modIce g).ice = g s.ice := rfl
@[simp] theorem State.modIce_auth (g : Ice → Ice) : (s.modIce g).auth = s.auth := rfl
@[simp] theorem State.modIce_lnk (g : Ice → Ice) : (s.modIce g).lnk = s.lnk := rfl
@[simp] theorem State.modIce_longOps (g : Ice → Ice) : (s.modIce g).longOps = s.longOps := rfl
@[simp] theorem State.modIce_sync (g : Ice → Ice) : (s.modIce g).sync = s.sync := rfl
@[simp] theorem State.modIce_fault (g : Ice → Ice) : (s.modIce g).fault = s.fault := rfl
@[simp] theorem State.modIce_reports (g : Ice → Ice) : (s.modIce g).reports = s.reports := rfl
@[simp] theorem State.modIce_iceEval (g : Ice → Ice) : (s.modIce g).iceEval = s.iceEval := rfl
@[simp] theorem State.modIce_freeCount (g : Ice → Ice) : (s.modIce g).freeCount = s.freeCount := rfl
@[simp] theorem State.modIce_pending (g : Ice → Ice) : (s.modIce g).pending = s.pending := rfl
@[simp] theorem State.modAuth_clk (g : Authority → Authority) : (s.modAuth g).clk = s.clk := rfl
@[simp] theorem State.modAuth_lines (g : Authority → Authority) : (s.modAuth g).lines = s.lines := rfl
@[simp] theorem State.modAuth_cfg (g : Authority → Authority) : (s.modAuth g).cfg = s.cfg := rfl
@[simp] theorem State.modAuth_trv (g : Authority → Authority) : (s.modAuth g).trv = s.trv := rfl
@[simp] theorem State.modAuth_ldet (g : Authority → Authority) : (s.modAuth g).ldet = s.ldet := rfl
@[simp] theorem State.modAuth_pch (g : Authority → Authority) : (s.modAuth g).pch = s.pch := rfl
@[simp] theorem State.modAuth_freg (g : Authority → Authority) : (s.modAuth g).freg = s.freg := rfl
@[simp] theorem State.modAuth_bsc (g : Authority → Authority) : (s.modAuth g).bsc = s.bsc := rfl
@[simp] theorem State.modAuth_map (g : Authority → Authority) : (s.modAuth g).map = s.map := rfl
@[simp] theorem State.modAuth_seq (g : Authority → Authority) : (s.modAuth g).seq = s.seq := rfl
@[simp] theorem State.modAuth_ice (g : Authority → Authority) : (s.modAuth g).ice = s.ice := rfl
@[simp] theorem State.modAuth_auth (g : Authority → Authority) : (s.modAuth g).auth = g s.auth := rfl
@[simp] theorem State.modAuth_lnk (g : Authority → Authority) : (s.modAuth g).lnk = s.lnk := rfl
@[simp] theorem State.modAuth_longOps (g : Authority → Authority) : (s.modAuth g).longOps = s.longOps := rfl
@[simp] theorem State.modAuth_sync (g : Authority → Authority) : (s.modAuth g).sync = s.sync := rfl
@[simp] theorem State.modAuth_fault (g : Authority → Authority) : (s.modAuth g).fault = s.fault := rfl
@[simp] theorem State.modAuth_reports (g : Authority → Authority) : (s.modAuth g).reports = s.reports := rfl
@[simp] theorem State.modAuth_iceEval (g : Authority → Authority) : (s.modAuth g).iceEval = s.iceEval := rfl
@[simp] theorem State.modAuth_freeCount (g : Authority → Authority) : (s.modAuth g).freeCount = s.freeCount := rfl
@[simp] theorem State.modAuth_pending (g : Authority → Authority) : (s.modAuth g).pending = s.pending := rfl
@[simp] theorem State.setLongOps_clk (v : List LongOp) : (s.setLongOps v).clk = s.clk := rfl
@[simp] theorem State.setLongOps_lines (v : List LongOp) : (s.setLongOps v).lines = s.lines := rfl
@[simp] theorem State.setLongOps_cfg (v : List LongOp) : (s.setLongOps v).cfg = s.cfg := rfl
@[simp] theorem State.setLongOps_trv (v : List LongOp) : (s.setLongOps v).trv = s.trv := rfl
@[simp] theorem State.setLongOps_ldet (v : List LongOp) : (s.setLongOps v).ldet = s.ldet := rfl
@[simp] theorem State.setLongOps_pch (v : List LongOp) : (s.setLongOps v).pch = s.pch := rfl
@[simp] theorem State.setLongOps_freg (v : List LongOp) : (s.setLongOps v).freg = s.freg := rfl
@[simp] theorem State.setLongOps_bsc (v : List LongOp) : (s.setLongOps v).bsc = s.bsc := rfl
@[simp] theorem State.setLongOps_map (v : List LongOp) : (s.setLongOps v).map = s.map := rfl
@[simp] theorem State.setLongOps_seq (v : List LongOp) : (s.setLongOps v).seq = s.seq := rfl
@[simp] theorem State.setLongOps_ice (v : List LongOp) : (s.setLongOps v).ice = s.ice := rfl
@[simp] theorem State.setLongOps_auth (v : List LongOp) : (s.setLongOps v).auth = s.auth := rfl
@[simp] theorem State.setLongOps_lnk (v : List LongOp) : (s.setLongOps v).lnk = s.lnk := rfl
@[simp] theorem State.setLongOps_longOps (v : List LongOp) : (s.setLongOps v).longOps = v := rfl
@[simp] theorem State.setLongOps_sync (v : List LongOp) : (s.setLongOps v).sync = s.sync := rfl
@[simp] theorem State.setLongOps_fault (v : List LongOp) : (s.setLongOps v).fault = s.fault := rfl
@[simp] theorem State.setLongOps_reports (v : List LongOp) : (s.setLongOps v).reports = s.reports := rfl
@[simp] theorem State.setLongOps_iceEval (v : List LongOp) : (s.setLongOps v).iceEval = s.iceEval := rfl
@[simp] theorem State.setLongOps_freeCount (v : List LongOp) : (s.setLongOps v).freeCount = s.freeCount := rfl
@[simp] theorem State.setLongOps_pending (v : List LongOp) : (s.setLongOps v).pending = s.pending := rfl
@[simp] theorem State.setSync_clk (v : Option SyncCtx) : (s.setSync v).clk = s.clk := rfl
@[simp] theorem State.setSync_lines (v : Option SyncCtx) : (s.setSync v).lines = s.lines := rfl
@[simp] theorem State.setSync_cfg (v : Option SyncCtx) : (s.setSync v).cfg = s.cfg := rfl
@[simp] theorem State.setSync_trv (v : Option SyncCtx) : (s.setSync v).trv = s.trv := rfl
@[simp] theorem State.setSync_ldet (v : Option SyncCtx) : (s.setSync v).ldet = s.ldet := rfl
@[simp] theorem State.setSync_pch (v : Option SyncCtx) : (s.setSync v).pch = s.pch := rfl
@[simp] theorem State.setSync_freg (v : Option SyncCtx) : (s.setSync v).freg = s.freg := rfl
@[simp] theorem State.setSync_bsc (v : Option SyncCtx) : (s.setSync v).bsc = s.bsc := rfl
@[simp] theorem State.setSync_map (v : Option SyncCtx) : (s.setSync v).map = s.map := rfl
@[simp] theorem State.setSync_seq (v : Option SyncCtx) : (s.setSync v).seq = s.seq := rfl
@[simp] theorem State.setSync_ice (v : Option SyncCtx) : (s.setSync v).ice = s.ice := rfl
@[simp] theorem State.setSync_auth (v : Option SyncCtx) : (s.setSync v).auth = s.auth := rfl
@[simp] theorem State.setSync_lnk (v : Option SyncCtx) : (s.setSync v).lnk = s.lnk := rfl
@[simp] theorem State.setSync_longOps (v : Option SyncCtx) : (s.setSync v).longOps = s.longOps := rfl
@[simp] theorem State.setSync_sync (v : Option SyncCtx) : (s.setSync v).sync = v := rfl
@[simp] theorem State.setSync_fault (v : Option SyncCtx) : (s.setSync v).fault = s.fault := rfl
@[simp] theorem State.setSync_reports (v : Option SyncCtx) : (s.setSync v).reports = s.reports := rfl
@[simp] theorem State.setSync_iceEval (v : Option SyncCtx) : (s.setSync v).iceEval = s.iceEval := rfl
@[simp] theorem State.setSync_freeCount (v : Option SyncCtx) : (s.setSync v).freeCount = s.freeCount := rfl
@[simp] theorem State.setSync_pending (v : Option SyncCtx) : (s.setSync v).pending = s.pending := rfl
@[simp] theorem State.setFault_clk (v : Option FaultRecord) : (s.setFault v).clk = s.clk := rfl
@[simp] theorem State.setFault_lines (v : Option FaultRecord) : (s.setFault v).lines = s.lines := rfl
@[simp] theorem State.setFault_cfg (v : Option FaultRecord) : (s.setFault v).cfg = s.cfg := rfl
@[simp] theorem State.setFault_trv (v : Option FaultRecord) : (s.setFault v).trv = s.trv := rfl
@[simp] theorem State.setFault_ldet (v : Option FaultRecord) : (s.setFault v).ldet = s.ldet := rfl
@[simp] theorem State.setFault_pch (v : Option FaultRecord) : (s.setFault v).pch = s.pch := rfl
@[simp] theorem State.setFault_freg (v : Option FaultRecord) : (s.setFault v).freg = s.freg := rfl
@[simp] theorem State.setFault_bsc (v : Option FaultRecord) : (s.setFault v).bsc = s.bsc := rfl
@[simp] theorem State.setFault_map (v : Option FaultRecord) : (s.setFault v).map = s.map := rfl
@[simp] theorem State.setFault_seq (v : Option FaultRecord) : (s.setFault v).seq = s.seq := rfl
@[simp] theorem State.setFault_ice (v : Option FaultRecord) : (s.setFault v).ice = s.ice := rfl
@[simp] theorem State.setFault_auth (v : Option FaultRecord) : (s.setFault v).auth = s.auth := rfl
@[simp] theorem State.setFault_lnk (v : Option FaultRecord) : (s.setFault v).lnk = s.lnk := rfl
@[simp] theorem State.setFault_longOps (v : Option FaultRecord) : (s.setFault v).longOps = s.longOps := rfl
@[simp] theorem State.setFault_sync (v : Option FaultRecord) : (s.setFault v).sync = s.sync := rfl
@[simp] theorem State.setFault_fault (v : Option FaultRecord) : (s.setFault v).fault = v := rfl
@[simp] theorem State.setFault_reports (v : Option FaultRecord) : (s.setFault v).reports = s.reports := rfl
@[simp] theorem State.setFault_iceEval (v : Option FaultRecord) : (s.setFault v).iceEval = s.iceEval := rfl
@[simp] theorem State.setFault_freeCount (v : Option FaultRecord) : (s.setFault v).freeCount = s.freeCount := rfl
@[simp] theorem State.setFault_pending (v : Option FaultRecord) : (s.setFault v).pending = s.pending := rfl
@[simp] theorem State.setReports_clk (v : List Report) : (s.setReports v).clk = s.clk := rfl
@[simp] theorem State.setReports_lines (v : List Report) : (s.setReports v).lines = s.lines := rfl
@[simp] theorem State.setReports_cfg (v : List Report) : (s.setReports v).cfg = s.cfg := rfl
@[simp] theorem State.setReports_trv (v : List Report) : (s.setReports v).trv = s.trv := rfl
@[simp] theorem State.setReports_ldet (v : List Report) : (s.setReports v).ldet = s.ldet := rfl
@[simp] theorem State.setReports_pch (v : List Report) : (s.setReports v).pch = s.pch := rfl
@[simp] theorem State.setReports_freg (v : List Report) : (s.setReports v).freg = s.freg := rfl
@[simp] theorem State.setReports_bsc (v : List Report) : (s.setReports v).bsc = s.bsc := rfl
@[simp] theorem State.setReports_map (v : List Report) : (s.setReports v).map = s.map := rfl
@[simp] theorem State.setReports_seq (v : List Report) : (s.setReports v).seq = s.seq := rfl
@[simp] theorem State.setReports_ice (v : List Report) : (s.setReports v).ice = s.ice := rfl
@[simp] theorem State.setReports_auth (v : List Report) : (s.setReports v).auth = s.auth := rfl
@[simp] theorem State.setReports_lnk (v : List Report) : (s.setReports v).lnk = s.lnk := rfl
@[simp] theorem State.setReports_longOps (v : List Report) : (s.setReports v).longOps = s.longOps := rfl
@[simp] theorem State.setReports_sync (v : List Report) : (s.setReports v).sync = s.sync := rfl
@[simp] theorem State.setReports_fault (v : List Report) : (s.setReports v).fault = s.fault := rfl
@[simp] theorem State.setReports_reports (v : List Report) : (s.setReports v).reports = v := rfl
@[simp] theorem State.setReports_iceEval (v : List Report) : (s.setReports v).iceEval = s.iceEval := rfl
@[simp] theorem State.setReports_freeCount (v : List Report) : (s.setReports v).freeCount = s.freeCount := rfl
@[simp] theorem State.setReports_pending (v : List Report) : (s.setReports v).pending = s.pending := rfl
@[simp] theorem State.setIceEval_clk (v : Bool) : (s.setIceEval v).clk = s.clk := rfl
@[simp] theorem State.setIceEval_lines (v : Bool) : (s.setIceEval v).lines = s.lines := rfl
@[simp] theorem State.setIceEval_cfg (v : Bool) : (s.setIceEval v).cfg = s.cfg := rfl
@[simp] theorem State.setIceEval_trv (v : Bool) : (s.setIceEval v).trv = s.trv := rfl
@[simp] theorem State.setIceEval_ldet (v : Bool) : (s.setIceEval v).ldet = s.ldet := rfl
@[simp] theorem State.setIceEval_pch (v : Bool) : (s.setIceEval v).pch = s.pch := rfl
@[simp] theorem State.setIceEval_freg (v : Bool) : (s.setIceEval v).freg = s.freg := rfl
@[simp] theorem State.setIceEval_bsc (v : Bool) : (s.setIceEval v).bsc = s.bsc := rfl
@[simp] theorem State.setIceEval_map (v : Bool) : (s.setIceEval v).map = s.map := rfl
@[simp] theorem State.setIceEval_seq (v : Bool) : (s.setIceEval v).seq = s.seq := rfl
@[simp] theorem State.setIceEval_ice (v : Bool) : (s.setIceEval v).ice = s.ice := rfl
@[simp] theorem State.setIceEval_auth (v : Bool) : (s.setIceEval v).auth = s.auth := rfl
@[simp] theorem State.setIceEval_lnk (v : Bool) : (s.setIceEval v).lnk = s.lnk := rfl
@[simp] theorem State.setIceEval_longOps (v : Bool) : (s.setIceEval v).longOps = s.longOps := rfl
@[simp] theorem State.setIceEval_sync (v : Bool) : (s.setIceEval v).sync = s.sync := rfl
@[simp] theorem State.setIceEval_fault (v : Bool) : (s.setIceEval v).fault = s.fault := rfl
@[simp] theorem State.setIceEval_reports (v : Bool) : (s.setIceEval v).reports = s.reports := rfl
@[simp] theorem State.setIceEval_iceEval (v : Bool) : (s.setIceEval v).iceEval = v := rfl
@[simp] theorem State.setIceEval_freeCount (v : Bool) : (s.setIceEval v).freeCount = s.freeCount := rfl
@[simp] theorem State.setIceEval_pending (v : Bool) : (s.setIceEval v).pending = s.pending := rfl
@[simp] theorem State.setFree_clk (v : Nat) : (s.setFree v).clk = s.clk := rfl
@[simp] theorem State.setFree_lines (v : Nat) : (s.setFree v).lines = s.lines := rfl
@[simp] theorem State.setFree_cfg (v : Nat) : (s.setFree v).cfg = s.cfg := rfl
@[simp] theorem State.setFree_trv (v : Nat) : (s.setFree v).trv = s.trv := rfl
@[simp] theorem State.setFree_ldet (v : Nat) : (s.setFree v).ldet = s.ldet := rfl
@[simp] theorem State.setFree_pch (v : Nat) : (s.setFree v).pch = s.pch := rfl
@[simp] theorem State.setFree_freg (v : Nat) : (s.setFree v).freg = s.freg := rfl
@[simp] theorem State.setFree_bsc (v : Nat) : (s.setFree v).bsc = s.bsc := rfl
@[simp] theorem State.setFree_map (v : Nat) : (s.setFree v).map = s.map := rfl
@[simp] theorem State.setFree_seq (v : Nat) : (s.setFree v).seq = s.seq := rfl
@[simp] theorem State.setFree_ice (v : Nat) : (s.setFree v).ice = s.ice := rfl
@[simp] theorem State.setFree_auth (v : Nat) : (s.setFree v).auth = s.auth := rfl
@[simp] theorem State.setFree_lnk (v : Nat) : (s.setFree v).lnk = s.lnk := rfl
@[simp] theorem State.setFree_longOps (v : Nat) : (s.setFree v).longOps = s.longOps := rfl
@[simp] theorem State.setFree_sync (v : Nat) : (s.setFree v).sync = s.sync := rfl
@[simp] theorem State.setFree_fault (v : Nat) : (s.setFree v).fault = s.fault := rfl
@[simp] theorem State.setFree_reports (v : Nat) : (s.setFree v).reports = s.reports := rfl
@[simp] theorem State.setFree_iceEval (v : Nat) : (s.setFree v).iceEval = s.iceEval := rfl
@[simp] theorem State.setFree_freeCount (v : Nat) : (s.setFree v).freeCount = v := rfl
@[simp] theorem State.setFree_pending (v : Nat) : (s.setFree v).pending = s.pending := rfl
@[simp] theorem State.modPan_clk (p : Pan) (g : Channel → Channel) : (s.modPan p g).clk = s.clk := rfl
@[simp] theorem State.modPan_lines (p : Pan) (g : Channel → Channel) : (s.modPan p g).lines = s.lines := rfl
@[simp] theorem State.modPan_cfg (p : Pan) (g : Channel → Channel) : (s.modPan p g).cfg = s.cfg := rfl
@[simp] theorem State.modPan_trv (p : Pan) (g : Channel → Channel) : (s.modPan p g).trv = s.trv := rfl
@[simp] theorem State.modPan_ldet (p : Pan) (g : Channel → Channel) : (s.modPan p g).ldet = s.ldet := rfl
@[simp] theorem State.modPan_pch (p : Pan) (g : Channel → Channel) : (s.modPan p g).pch = s.pch.set p (g (s.pch.get p)) := rfl
@[simp] theorem State.modPan_freg (p : Pan) (g : Channel → Channel) : (s.modPan p g).freg = s.freg := rfl
@[simp] theorem State.modPan_bsc (p : Pan) (g : Channel → Channel) : (s.modPan p g).bsc = s.bsc := rfl
@[simp] theorem State.modPan_map (p : Pan) (g : Channel → Channel) : (s.modPan p g).map = s.map := rfl
@[simp] theorem State.modPan_seq (p : Pan) (g : Channel → Channel) : (s.modPan p g).seq = s.seq := rfl
@[simp] theorem State.modPan_ice (p : Pan) (g : Channel → Channel) : (s.modPan p g).ice = s.ice := rfl
@[simp] theorem State.modPan_auth (p : Pan) (g : Channel → Channel) : (s.modPan p g).auth = s.auth := rfl
@[simp] theorem State.modPan_lnk (p : Pan) (g : Channel → Channel) : (s.modPan p g).lnk = s.lnk := rfl
@[simp] theorem State.modPan_longOps (p : Pan) (g : Channel → Channel) : (s.modPan p g).longOps = s.longOps := rfl
@[simp] theorem State.modPan_sync (p : Pan) (g : Channel → Channel) : (s.modPan p g).sync = s.sync := rfl
@[simp] theorem State.modPan_fault (p : Pan) (g : Channel → Channel) : (s.modPan p g).fault = s.fault := rfl
@[simp] theorem State.modPan_reports (p : Pan) (g : Channel → Channel) : (s.modPan p g).reports = s.reports := rfl
@[simp] theorem State.modPan_iceEval (p : Pan) (g : Channel → Channel) : (s.modPan p g).iceEval = s.iceEval := rfl
@[simp] theorem State.modPan_freeCount (p : Pan) (g : Channel → Channel) : (s.modPan p g).freeCount = s.freeCount := rfl
@[simp] theorem State.modPan_pending (p : Pan) (g : Channel → Channel) : (s.modPan p g).pending = s.pending := rfl
@[simp] theorem State.modForce_clk (p : Pan) (g : Force → Force) : (s.modForce p g).clk = s.clk := rfl
@[simp] theorem State.modForce_lines (p : Pan) (g : Force → Force) : (s.modForce p g).lines = s.lines := rfl
@[simp] theorem State.modForce_cfg (p : Pan) (g : Force → Force) : (s.modForce p g).cfg = s.cfg := rfl
@[simp] theorem State.modForce_trv (p : Pan) (g : Force → Force) : (s.modForce p g).trv = s.trv := rfl
@[simp] theorem State.modForce_ldet (p : Pan) (g : Force → Force) : (s.modForce p g).ldet = s.ldet := rfl
@[simp] theorem State.modForce_pch (p : Pan) (g : Force → Force) : (s.modForce p g).pch = s.pch := rfl
@[simp] theorem State.modForce_freg (p : Pan) (g : Force → Force) : (s.modForce p g).freg = s.freg.set p (g (s.freg.get p)) := rfl
@[simp] theorem State.modForce_bsc (p : Pan) (g : Force → Force) : (s.modForce p g).bsc = s.bsc := rfl
@[simp] theorem State.modForce_map (p : Pan) (g : Force → Force) : (s.modForce p g).map = s.map := rfl
@[simp] theorem State.modForce_seq (p : Pan) (g : Force → Force) : (s.modForce p g).seq = s.seq := rfl
@[simp] theorem State.modForce_ice (p : Pan) (g : Force → Force) : (s.modForce p g).ice = s.ice := rfl
@[simp] theorem State.modForce_auth (p : Pan) (g : Force → Force) : (s.modForce p g).auth = s.auth := rfl
@[simp] theorem State.modForce_lnk (p : Pan) (g : Force → Force) : (s.modForce p g).lnk = s.lnk := rfl
@[simp] theorem State.modForce_longOps (p : Pan) (g : Force → Force) : (s.modForce p g).longOps = s.longOps := rfl
@[simp] theorem State.modForce_sync (p : Pan) (g : Force → Force) : (s.modForce p g).sync = s.sync := rfl
@[simp] theorem State.modForce_fault (p : Pan) (g : Force → Force) : (s.modForce p g).fault = s.fault := rfl
@[simp] theorem State.modForce_reports (p : Pan) (g : Force → Force) : (s.modForce p g).reports = s.reports := rfl
@[simp] theorem State.modForce_iceEval (p : Pan) (g : Force → Force) : (s.modForce p g).iceEval = s.iceEval := rfl
@[simp] theorem State.modForce_freeCount (p : Pan) (g : Force → Force) : (s.modForce p g).freeCount = s.freeCount := rfl
@[simp] theorem State.modForce_pending (p : Pan) (g : Force → Force) : (s.modForce p g).pending = s.pending := rfl
@[simp] theorem State.modPort_clk (l : Link) (g : Port → Port) : (s.modPort l g).clk = s.clk := rfl
@[simp] theorem State.modPort_lines (l : Link) (g : Port → Port) : (s.modPort l g).lines = s.lines := rfl
@[simp] theorem State.modPort_cfg (l : Link) (g : Port → Port) : (s.modPort l g).cfg = s.cfg := rfl
@[simp] theorem State.modPort_trv (l : Link) (g : Port → Port) : (s.modPort l g).trv = s.trv := rfl
@[simp] theorem State.modPort_ldet (l : Link) (g : Port → Port) : (s.modPort l g).ldet = s.ldet := rfl
@[simp] theorem State.modPort_pch (l : Link) (g : Port → Port) : (s.modPort l g).pch = s.pch := rfl
@[simp] theorem State.modPort_freg (l : Link) (g : Port → Port) : (s.modPort l g).freg = s.freg := rfl
@[simp] theorem State.modPort_bsc (l : Link) (g : Port → Port) : (s.modPort l g).bsc = s.bsc := rfl
@[simp] theorem State.modPort_map (l : Link) (g : Port → Port) : (s.modPort l g).map = s.map := rfl
@[simp] theorem State.modPort_seq (l : Link) (g : Port → Port) : (s.modPort l g).seq = s.seq := rfl
@[simp] theorem State.modPort_ice (l : Link) (g : Port → Port) : (s.modPort l g).ice = s.ice := rfl
@[simp] theorem State.modPort_auth (l : Link) (g : Port → Port) : (s.modPort l g).auth = s.auth := rfl
@[simp] theorem State.modPort_lnk (l : Link) (g : Port → Port) : (s.modPort l g).lnk = s.lnk.set l (g (s.lnk.get l)) := rfl
@[simp] theorem State.modPort_longOps (l : Link) (g : Port → Port) : (s.modPort l g).longOps = s.longOps := rfl
@[simp] theorem State.modPort_sync (l : Link) (g : Port → Port) : (s.modPort l g).sync = s.sync := rfl
@[simp] theorem State.modPort_fault (l : Link) (g : Port → Port) : (s.modPort l g).fault = s.fault := rfl
@[simp] theorem State.modPort_reports (l : Link) (g : Port → Port) : (s.modPort l g).reports = s.reports := rfl
@[simp] theorem State.modPort_iceEval (l : Link) (g : Port → Port) : (s.modPort l g).iceEval = s.iceEval := rfl
@[simp] theorem State.modPort_freeCount (l : Link) (g : Port → Port) : (s.modPort l g).freeCount = s.freeCount := rfl
@[simp] theorem State.modPort_pending (l : Link) (g : Port → Port) : (s.modPort l g).pending = s.pending := rfl
@[simp] theorem noticeOn_clk (l : Link) (c : Notice) : (noticeOn l c s).clk = s.clk := rfl
@[simp] theorem noticeOn_lines (l : Link) (c : Notice) : (noticeOn l c s).lines = s.lines := rfl
@[simp] theorem noticeOn_cfg (l : Link) (c : Notice) : (noticeOn l c s).cfg = s.cfg := rfl
@[simp] theorem noticeOn_trv (l : Link) (c : Notice) : (noticeOn l c s).trv = s.trv := rfl
@[simp] theorem noticeOn_ldet (l : Link) (c : Notice) : (noticeOn l c s).ldet = s.ldet := rfl
@[simp] theorem noticeOn_pch (l : Link) (c : Notice) : (noticeOn l c s).pch = s.pch := rfl
@[simp] theorem noticeOn_freg (l : Link) (c : Notice) : (noticeOn l c s).freg = s.freg := rfl
@[simp] theorem noticeOn_bsc (l : Link) (c : Notice) : (noticeOn l c s).bsc = s.bsc := rfl
@[simp] theorem noticeOn_map (l : Link) (c : Notice) : (noticeOn l c s).map = s.map := rfl
@[simp] theorem noticeOn_seq (l : Link) (c : Notice) : (noticeOn l c s).seq = s.seq := rfl
@[simp] theorem noticeOn_ice (l : Link) (c : Notice) : (noticeOn l c s).ice = s.ice := rfl
@[simp] theorem noticeOn_auth (l : Link) (c : Notice) : (noticeOn l c s).auth = s.auth := rfl
@[simp] theorem noticeOn_longOps (l : Link) (c : Notice) : (noticeOn l c s).longOps = s.longOps := rfl
@[simp] theorem noticeOn_sync (l : Link) (c : Notice) : (noticeOn l c s).sync = s.sync := rfl
@[simp] theorem noticeOn_fault (l : Link) (c : Notice) : (noticeOn l c s).fault = s.fault := rfl
@[simp] theorem noticeOn_reports (l : Link) (c : Notice) : (noticeOn l c s).reports = s.reports := rfl
@[simp] theorem noticeOn_iceEval (l : Link) (c : Notice) : (noticeOn l c s).iceEval = s.iceEval := rfl
@[simp] theorem noticeOn_freeCount (l : Link) (c : Notice) : (noticeOn l c s).freeCount = s.freeCount := rfl
@[simp] theorem noticeOn_pending (l : Link) (c : Notice) : (noticeOn l c s).pending = s.pending := rfl
@[simp] theorem notice_clk (c : Notice) : (notice c s).clk = s.clk := rfl
@[simp] theorem notice_lines (c : Notice) : (notice c s).lines = s.lines := rfl
@[simp] theorem notice_cfg (c : Notice) : (notice c s).cfg = s.cfg := rfl
@[simp] theorem notice_trv (c : Notice) : (notice c s).trv = s.trv := rfl
@[simp] theorem notice_ldet (c : Notice) : (notice c s).ldet = s.ldet := rfl
@[simp] theorem notice_pch (c : Notice) : (notice c s).pch = s.pch := rfl
@[simp] theorem notice_freg (c : Notice) : (notice c s).freg = s.freg := rfl
@[simp] theorem notice_bsc (c : Notice) : (notice c s).bsc = s.bsc := rfl
@[simp] theorem notice_map (c : Notice) : (notice c s).map = s.map := rfl
@[simp] theorem notice_seq (c : Notice) : (notice c s).seq = s.seq := rfl
@[simp] theorem notice_ice (c : Notice) : (notice c s).ice = s.ice := rfl
@[simp] theorem notice_auth (c : Notice) : (notice c s).auth = s.auth := rfl
@[simp] theorem notice_longOps (c : Notice) : (notice c s).longOps = s.longOps := rfl
@[simp] theorem notice_sync (c : Notice) : (notice c s).sync = s.sync := rfl
@[simp] theorem notice_fault (c : Notice) : (notice c s).fault = s.fault := rfl
@[simp] theorem notice_reports (c : Notice) : (notice c s).reports = s.reports := rfl
@[simp] theorem notice_iceEval (c : Notice) : (notice c s).iceEval = s.iceEval := rfl
@[simp] theorem notice_freeCount (c : Notice) : (notice c s).freeCount = s.freeCount := rfl
@[simp] theorem notice_pending (c : Notice) : (notice c s).pending = s.pending := rfl
@[simp] theorem report_clk (r : Report) : (report r s).clk = s.clk := rfl
@[simp] theorem report_lines (r : Report) : (report r s).lines = s.lines := rfl
@[simp] theorem report_cfg (r : Report) : (report r s).cfg = s.cfg := rfl
@[simp] theorem report_trv (r : Report) : (report r s).trv = s.trv := rfl
@[simp] theorem report_ldet (r : Report) : (report r s).ldet = s.ldet := rfl
@[simp] theorem report_pch (r : Report) : (report r s).pch = s.pch := rfl
@[simp] theorem report_freg (r : Report) : (report r s).freg = s.freg := rfl
@[simp] theorem report_bsc (r : Report) : (report r s).bsc = s.bsc := rfl
@[simp] theorem report_map (r : Report) : (report r s).map = s.map := rfl
@[simp] theorem report_seq (r : Report) : (report r s).seq = s.seq := rfl
@[simp] theorem report_ice (r : Report) : (report r s).ice = s.ice := rfl
@[simp] theorem report_auth (r : Report) : (report r s).auth = s.auth := rfl
@[simp] theorem report_lnk (r : Report) : (report r s).lnk = s.lnk := rfl
@[simp] theorem report_longOps (r : Report) : (report r s).longOps = s.longOps := rfl
@[simp] theorem report_sync (r : Report) : (report r s).sync = s.sync := rfl
@[simp] theorem report_fault (r : Report) : (report r s).fault = s.fault := rfl
@[simp] theorem report_iceEval (r : Report) : (report r s).iceEval = s.iceEval := rfl
@[simp] theorem report_freeCount (r : Report) : (report r s).freeCount = s.freeCount := rfl
@[simp] theorem report_pending (r : Report) : (report r s).pending = s.pending := rfl
@[simp] theorem reportFault_clk (k : FaultKind) (p : Option Pan) (e : Option Nat) : (reportFault k p e s).clk = s.clk := by simp only [reportFault, report_clk, notice_clk, State.setFault_clk]
@[simp] theorem reportFault_lines (k : FaultKind) (p : Option Pan) (e : Option Nat) : (reportFault k p e s).lines = s.lines := by simp only [reportFault, report_lines, notice_lines, State.setFault_lines]
@[simp] theorem reportFault_cfg (k : FaultKind) (p : Option Pan) (e : Option Nat) : (reportFault k p e s).cfg = s.cfg := by simp only [reportFault, report_cfg, notice_cfg, State.setFault_cfg]
@[simp] theorem reportFault_trv (k : FaultKind) (p : Option Pan) (e : Option Nat) : (reportFault k p e s).trv = s.trv := by simp only [reportFault, report_trv, notice_trv, State.setFault_trv]
@[simp] theorem reportFault_ldet (k : FaultKind) (p : Option Pan) (e : Option Nat) : (reportFault k p e s).ldet = s.ldet := by simp only [reportFault, report_ldet, notice_ldet, State.setFault_ldet]
@[simp] theorem reportFault_pch (k : FaultKind) (p : Option Pan) (e : Option Nat) : (reportFault k p e s).pch = s.pch := by simp only [reportFault, report_pch, notice_pch, State.setFault_pch]
@[simp] theorem reportFault_freg (k : FaultKind) (p : Option Pan) (e : Option Nat) : (reportFault k p e s).freg = s.freg := by simp only [reportFault, report_freg, notice_freg, State.setFault_freg]
@[simp] theorem reportFault_bsc (k : FaultKind) (p : Option Pan) (e : Option Nat) : (reportFault k p e s).bsc = s.bsc := by simp only [reportFault, report_bsc, notice_bsc, State.setFault_bsc]
@[simp] theorem reportFault_map (k : FaultKind) (p : Option Pan) (e : Option Nat) : (reportFault k p e s).map = s.map := by simp only [reportFault, report_map, notice_map, State.setFault_map]
@[simp] theorem reportFault_seq (k : FaultKind) (p : Option Pan) (e : Option Nat) : (reportFault k p e s).seq = s.seq := by simp only [reportFault, report_seq, notice_seq, State.setFault_seq]
@[simp] theorem reportFault_ice (k : FaultKind) (p : Option Pan) (e : Option Nat) : (reportFault k p e s).ice = s.ice := by simp only [reportFault, report_ice, notice_ice, State.setFault_ice]
@[simp] theorem reportFault_auth (k : FaultKind) (p : Option Pan) (e : Option Nat) : (reportFault k p e s).auth = s.auth := by simp only [reportFault, report_auth, notice_auth, State.setFault_auth]
@[simp] theorem reportFault_longOps (k : FaultKind) (p : Option Pan) (e : Option Nat) : (reportFault k p e s).longOps = s.longOps := by simp only [reportFault, report_longOps, notice_longOps, State.setFault_longOps]
@[simp] theorem reportFault_sync (k : FaultKind) (p : Option Pan) (e : Option Nat) : (reportFault k p e s).sync = s.sync := by simp only [reportFault, report_sync, notice_sync, State.setFault_sync]
@[simp] theorem reportFault_iceEval (k : FaultKind) (p : Option Pan) (e : Option Nat) : (reportFault k p e s).iceEval = s.iceEval := by simp only [reportFault, report_iceEval, notice_iceEval, State.setFault_iceEval]
@[simp] theorem reportFault_freeCount (k : FaultKind) (p : Option Pan) (e : Option Nat) : (reportFault k p e s).freeCount = s.freeCount := by simp only [reportFault, report_freeCount, notice_freeCount, State.setFault_freeCount]
@[simp] theorem reportFault_pending (k : FaultKind) (p : Option Pan) (e : Option Nat) : (reportFault k p e s).pending = s.pending := by simp only [reportFault, report_pending, notice_pending, State.setFault_pending]
@[simp] theorem hand_clk (l : Link) (f : TxFrame) : (hand l f s).clk = s.clk := rfl
@[simp] theorem hand_lines (l : Link) (f : TxFrame) : (hand l f s).lines = s.lines := rfl
@[simp] theorem hand_cfg (l : Link) (f : TxFrame) : (hand l f s).cfg = s.cfg := rfl
@[simp] theorem hand_trv (l : Link) (f : TxFrame) : (hand l f s).trv = s.trv := rfl
@[simp] theorem hand_ldet (l : Link) (f : TxFrame) : (hand l f s).ldet = s.ldet := rfl
@[simp] theorem hand_pch (l : Link) (f : TxFrame) : (hand l f s).pch = s.pch := rfl
@[simp] theorem hand_freg (l : Link) (f : TxFrame) : (hand l f s).freg = s.freg := rfl
@[simp] theorem hand_bsc (l : Link) (f : TxFrame) : (hand l f s).bsc = s.bsc := rfl
@[simp] theorem hand_map (l : Link) (f : TxFrame) : (hand l f s).map = s.map := rfl
@[simp] theorem hand_seq (l : Link) (f : TxFrame) : (hand l f s).seq = s.seq := rfl
@[simp] theorem hand_ice (l : Link) (f : TxFrame) : (hand l f s).ice = s.ice := rfl
@[simp] theorem hand_auth (l : Link) (f : TxFrame) : (hand l f s).auth = s.auth := rfl
@[simp] theorem hand_longOps (l : Link) (f : TxFrame) : (hand l f s).longOps = s.longOps := rfl
@[simp] theorem hand_sync (l : Link) (f : TxFrame) : (hand l f s).sync = s.sync := rfl
@[simp] theorem hand_fault (l : Link) (f : TxFrame) : (hand l f s).fault = s.fault := rfl
@[simp] theorem hand_reports (l : Link) (f : TxFrame) : (hand l f s).reports = s.reports := rfl
@[simp] theorem hand_iceEval (l : Link) (f : TxFrame) : (hand l f s).iceEval = s.iceEval := rfl
@[simp] theorem hand_freeCount (l : Link) (f : TxFrame) : (hand l f s).freeCount = s.freeCount := rfl
@[simp] theorem hand_pending (l : Link) (f : TxFrame) : (hand l f s).pending = s.pending := rfl
@[simp] theorem startLong_clk (l : Link) (k : LongKind) : (startLong l k s).clk = s.clk := rfl
@[simp] theorem startLong_lines (l : Link) (k : LongKind) : (startLong l k s).lines = s.lines := rfl
@[simp] theorem startLong_cfg (l : Link) (k : LongKind) : (startLong l k s).cfg = s.cfg := rfl
@[simp] theorem startLong_trv (l : Link) (k : LongKind) : (startLong l k s).trv = s.trv := rfl
@[simp] theorem startLong_ldet (l : Link) (k : LongKind) : (startLong l k s).ldet = s.ldet := rfl
@[simp] theorem startLong_pch (l : Link) (k : LongKind) : (startLong l k s).pch = s.pch := rfl
@[simp] theorem startLong_freg (l : Link) (k : LongKind) : (startLong l k s).freg = s.freg := rfl
@[simp] theorem startLong_bsc (l : Link) (k : LongKind) : (startLong l k s).bsc = s.bsc := rfl
@[simp] theorem startLong_map (l : Link) (k : LongKind) : (startLong l k s).map = s.map := rfl
@[simp] theorem startLong_seq (l : Link) (k : LongKind) : (startLong l k s).seq = s.seq := rfl
@[simp] theorem startLong_ice (l : Link) (k : LongKind) : (startLong l k s).ice = s.ice := rfl
@[simp] theorem startLong_auth (l : Link) (k : LongKind) : (startLong l k s).auth = s.auth := rfl
@[simp] theorem startLong_lnk (l : Link) (k : LongKind) : (startLong l k s).lnk = s.lnk := rfl
@[simp] theorem startLong_sync (l : Link) (k : LongKind) : (startLong l k s).sync = s.sync := rfl
@[simp] theorem startLong_fault (l : Link) (k : LongKind) : (startLong l k s).fault = s.fault := rfl
@[simp] theorem startLong_reports (l : Link) (k : LongKind) : (startLong l k s).reports = s.reports := rfl
@[simp] theorem startLong_iceEval (l : Link) (k : LongKind) : (startLong l k s).iceEval = s.iceEval := rfl
@[simp] theorem startLong_freeCount (l : Link) (k : LongKind) : (startLong l k s).freeCount = s.freeCount := rfl
@[simp] theorem startLong_pending (l : Link) (k : LongKind) : (startLong l k s).pending = s.pending := rfl
@[simp] theorem endLong_clk (k : LongKind) : (endLong k s).clk = s.clk := rfl
@[simp] theorem endLong_lines (k : LongKind) : (endLong k s).lines = s.lines := rfl
@[simp] theorem endLong_cfg (k : LongKind) : (endLong k s).cfg = s.cfg := rfl
@[simp] theorem endLong_trv (k : LongKind) : (endLong k s).trv = s.trv := rfl
@[simp] theorem endLong_ldet (k : LongKind) : (endLong k s).ldet = s.ldet := rfl
@[simp] theorem endLong_pch (k : LongKind) : (endLong k s).pch = s.pch := rfl
@[simp] theorem endLong_freg (k : LongKind) : (endLong k s).freg = s.freg := rfl
@[simp] theorem endLong_bsc (k : LongKind) : (endLong k s).bsc = s.bsc := rfl
@[simp] theorem endLong_map (k : LongKind) : (endLong k s).map = s.map := rfl
@[simp] theorem endLong_seq (k : LongKind) : (endLong k s).seq = s.seq := rfl
@[simp] theorem endLong_ice (k : LongKind) : (endLong k s).ice = s.ice := rfl
@[simp] theorem endLong_auth (k : LongKind) : (endLong k s).auth = s.auth := rfl
@[simp] theorem endLong_lnk (k : LongKind) : (endLong k s).lnk = s.lnk := rfl
@[simp] theorem endLong_sync (k : LongKind) : (endLong k s).sync = s.sync := rfl
@[simp] theorem endLong_fault (k : LongKind) : (endLong k s).fault = s.fault := rfl
@[simp] theorem endLong_reports (k : LongKind) : (endLong k s).reports = s.reports := rfl
@[simp] theorem endLong_iceEval (k : LongKind) : (endLong k s).iceEval = s.iceEval := rfl
@[simp] theorem endLong_freeCount (k : LongKind) : (endLong k s).freeCount = s.freeCount := rfl
@[simp] theorem endLong_pending (k : LongKind) : (endLong k s).pending = s.pending := rfl

end Sys2Proof.Machine
end

