-- ==== Sys2Proof/Laws/Kept.lean ====
section
/-! SUPPORT. What every shared operation and every reaction keeps (`Kept`): the part of the state that no reaction changes,
a filled fault capture record, the order of the map, the ranges of the blocks, the limits on raised pantographs, and the
frames already handed to a transmitter. -/

namespace Sys2Proof.Machine

/-- A pantograph raised after is raised before, in the same role. -/
def Channel.Within (c d : Channel) : Prop := d.state.isRaised = true → c.state.isRaised = true ∧ d.role = c.role

/-- What an operation keeps. -/
structure Kept (s t : State) : Prop where
  still : t.still = s.still
  fault : ∀ r, s.fault = some r → t.fault = some r
  spans : (s.spans.map (·.1)).Nodup → t.spans.Sublist s.spans
  rings : (∀ p, (s.ice.arcs.get p).Bounded) → ∀ p, (t.ice.arcs.get p).Bounded
  forces : (∀ p, Config.forceMin ≤ (s.freg.get p).force ∧ (s.freg.get p).force ≤ Config.forceMax) →
    ∀ p, Config.forceMin ≤ (t.freg.get p).force ∧ (t.freg.get p).force ≤ Config.forceMax
  runs : s.trv.fwdRun ≤ Config.runMax ∧ s.trv.revRun ≤ Config.runMax →
    t.trv.fwdRun ≤ Config.runMax ∧ t.trv.revRun ≤ Config.runMax
  limits : s.RaiseLimits → t.RaiseLimits
  tx : ∀ l, (s.lnk.get l).tx <+: (t.lnk.get l).tx
  safe : s.seq.mode = .roofSafe → t.seq.mode = .roofSafe

variable {s t u : State}

@[simp] theorem Kept.refl (s : State) : Kept s s :=
  ⟨rfl, fun _ h => h, fun _ => List.Sublist.refl _, id, id, id, id, fun _ => List.prefix_rfl, id⟩

theorem Kept.trans (h : Kept s t) (k : Kept t u) : Kept s u :=
  ⟨k.still.trans h.still, fun r hr => k.fault r (h.fault r hr), fun n => (k.spans ((h.spans n).map _ |>.nodup n)).trans (h.spans n), k.rings ∘ h.rings,
    k.forces ∘ h.forces, k.runs ∘ h.runs, k.limits ∘ h.limits, fun l => (h.tx l).trans (k.tx l), k.safe ∘ h.safe⟩

/-! ### Updates -/

theorem kept_of_eq (h1 : t.still = s.still) (h2 : t.fault = s.fault) (h3 : t.map.entries = s.map.entries)
    (h4 : t.ice.arcs = s.ice.arcs) (h5 : t.freg = s.freg) (h6 : t.trv = s.trv) (h7 : t.pch = s.pch)
    (h9 : s.seq.mode = .roofSafe → t.seq.mode = .roofSafe) (h8 : ∀ l, (s.lnk.get l).tx <+: (t.lnk.get l).tx) : Kept s t where
  still := h1
  fault := fun r h => h2.trans h
  spans := by simp [State.spans, h3]
  rings := by simp [h4]
  forces := by simp [h5]
  runs := by simp [h6]
  limits := by simp only [State.RaiseLimits, State.raisedPans, State.ch, h7]; exact id
  tx := h8
  safe := h9

theorem kept_modBsc (f : Power → Power) : Kept s (s.modBsc f) :=
  kept_of_eq rfl rfl rfl rfl rfl rfl rfl id fun _ => List.prefix_rfl
theorem kept_modSeq (f : Sequencer → Sequencer) (h : s.seq.mode = .roofSafe → (f s.seq).mode = .roofSafe) :
    Kept s (s.modSeq f) := kept_of_eq rfl rfl rfl rfl rfl rfl rfl h fun _ => List.prefix_rfl
theorem kept_modAuth (f : Authority → Authority) : Kept s (s.modAuth f) :=
  kept_of_eq rfl rfl rfl rfl rfl rfl rfl id fun _ => List.prefix_rfl
theorem kept_setLongOps (v : List LongOp) : Kept s (s.setLongOps v) :=
  kept_of_eq rfl rfl rfl rfl rfl rfl rfl id fun _ => List.prefix_rfl
theorem kept_setSync (v : Option SyncCtx) : Kept s (s.setSync v) :=
  kept_of_eq rfl rfl rfl rfl rfl rfl rfl id fun _ => List.prefix_rfl
theorem kept_setReports (v : List Report) : Kept s (s.setReports v) :=
  kept_of_eq rfl rfl rfl rfl rfl rfl rfl id fun _ => List.prefix_rfl
theorem kept_setIceEval (v : Bool) : Kept s (s.setIceEval v) :=
  kept_of_eq rfl rfl rfl rfl rfl rfl rfl id fun _ => List.prefix_rfl

/-- An update of a link that appends to its transmitter and keeps the rest of `Port.still`. -/
theorem kept_modPort (l : Link) (f : Port → Port) (h1 : ∀ q, (f q).still = q.still) (h2 : ∀ q, q.tx <+: (f q).tx) :
    Kept s (s.modPort l f) := by
  refine kept_of_eq ?_ rfl rfl rfl rfl rfl rfl id fun k => ?_
  · cases l <;> simp [State.still, State.modPort, PerLink.set, PerLink.get, h1]
  · rw [State.modPort_lnk, PerLink.get_set]
    split
    · next h => subst h; exact h2 _
    · exact List.prefix_rfl

/-- An update of ICE that keeps `Ice.still` and the bounds of the rings. -/
theorem kept_modIce (f : Ice → Ice) (h1 : (f s.ice).still = s.ice.still)
    (h2 : (∀ p, (s.ice.arcs.get p).Bounded) → ∀ p, ((f s.ice).arcs.get p).Bounded) : Kept s (s.modIce f) where
  still := by simp [State.still, h1]
  fault := fun _ h => h
  spans := fun _ => List.Sublist.refl _
  rings := h2
  forces := id
  runs := id
  limits := id
  tx := fun _ => List.prefix_rfl
  safe := id

/-- An update of MAP that keeps the id counter and takes no span in. -/
theorem kept_modMap (f : RouteMap → RouteMap) (h1 : (f s.map).nextId = s.map.nextId)
    (h2 : ((f s.map).entries.map fun e => (e.id, e.start, e.length)).Sublist s.spans) : Kept s (s.modMap f) where
  still := by simp [State.still, h1]
  fault := fun _ h => h
  spans := fun _ => h2
  rings := id
  forces := id
  runs := id
  limits := id
  tx := fun _ => List.prefix_rfl
  safe := id

/-- An update of a setpoint within its range. -/
theorem kept_modForce (p : Pan) (f : Force → Force)
    (h : Config.forceMin ≤ (s.freg.get p).force ∧ (s.freg.get p).force ≤ Config.forceMax →
      Config.forceMin ≤ (f (s.freg.get p)).force ∧ (f (s.freg.get p)).force ≤ Config.forceMax) :
    Kept s (s.modForce p f) where
  still := rfl
  fault := fun _ h => h
  spans := fun _ => List.Sublist.refl _
  rings := id
  forces := fun k q => by
    rw [State.modForce_freg, PerPan.get_set]
    split
    · exact h (k p)
    · exact k q
  runs := id
  limits := id
  tx := fun _ => List.prefix_rfl
  safe := id

/-- The limits on raised pantographs hold where fewer are raised. -/
theorem limits_within (h : ∀ p, (s.ch p).Within (t.ch p)) (k : s.RaiseLimits) : t.RaiseLimits := by
  have h1 : t.raisedPans.Sublist s.raisedPans := List.monotone_filter_right _ fun p hp => (h p hp).1
  have h2 : (t.raisedPans.filter fun p => (t.ch p).role = some .collecting).Sublist
      (s.raisedPans.filter fun p => (s.ch p).role = some .collecting) := by
    simp only [State.raisedPans, pansWhere, List.filter_filter]
    refine List.monotone_filter_right _ fun p hp => ?_
    simp only [Bool.and_eq_true, decide_eq_true_eq] at hp ⊢
    exact ⟨(h p hp.2).2 ▸ hp.1, (h p hp.2).1⟩
  exact ⟨h1.length_le.trans k.1, h2.length_le.trans k.2⟩

/-- An update of a channel that raises nothing. -/
theorem kept_modPan (p : Pan) (f : Channel → Channel) (h : (s.ch p).Within (f (s.ch p))) : Kept s (s.modPan p f) where
  still := rfl
  fault := fun _ h => h
  spans := fun _ => List.Sublist.refl _
  rings := id
  forces := id
  runs := id
  limits := by
    refine limits_within fun q => ?_
    rw [State.ch, State.ch, State.modPan_pch, PerPan.get_set]
    split
    · next e => subst e; exact h
    · exact fun h => ⟨h, rfl⟩
  tx := fun _ => List.prefix_rfl
  safe := id

/-! ### The same, after what is kept -/

@[simp] theorem Kept.modBsc (h : Kept s t) (f : Power → Power) : Kept s (t.modBsc f) := h.trans (kept_modBsc f)
@[simp] theorem Kept.modSeq (h : Kept s t) (f : Sequencer → Sequencer)
    (k : t.seq.mode = .roofSafe → (f t.seq).mode = .roofSafe) : Kept s (t.modSeq f) := h.trans (kept_modSeq f k)
@[simp] theorem Kept.modAuth (h : Kept s t) (f : Authority → Authority) : Kept s (t.modAuth f) :=
  h.trans (kept_modAuth f)
@[simp] theorem Kept.setLongOps (h : Kept s t) (v : List LongOp) : Kept s (t.setLongOps v) := h.trans (kept_setLongOps v)
@[simp] theorem Kept.setSync (h : Kept s t) (v : Option SyncCtx) : Kept s (t.setSync v) := h.trans (kept_setSync v)
@[simp] theorem Kept.setReports (h : Kept s t) (v : List Report) : Kept s (t.setReports v) := h.trans (kept_setReports v)
@[simp] theorem Kept.setIceEval (h : Kept s t) (v : Bool) : Kept s (t.setIceEval v) := h.trans (kept_setIceEval v)
@[simp] theorem Kept.modPan (h : Kept s t) (p : Pan) (f : Channel → Channel) (k : (t.ch p).Within (f (t.ch p))) :
    Kept s (t.modPan p f) := h.trans (kept_modPan p f k)

@[simp] theorem Kept.noticeOn (h : Kept s t) (l : Link) (c : Notice) : Kept s (noticeOn l c t) :=
  h.trans (kept_modPort l _ (fun _ => rfl) fun _ => List.prefix_rfl)

@[simp] theorem Kept.forLinks {f : Link → State → State} (h : Kept s t) (k : ∀ l u, Kept u (f l u)) :
    Kept s (forLinks f t) := ((h.trans (k _ _)).trans (k _ _)).trans (k _ _)

theorem Kept.forPans {f : Pan → State → State} (h : Kept s t) (k : ∀ p u, Kept u (f p u)) : Kept s (forPans f t) :=
  (((h.trans (k _ _)).trans (k _ _)).trans (k _ _)).trans (k _ _)

@[simp] theorem Kept.notice (h : Kept s t) (c : Notice) : Kept s (notice c t) :=
  h.forLinks fun l u => (Kept.refl u).noticeOn l c

@[simp] theorem Kept.noticeOthers (h : Kept s t) (l : Link) (c : Notice) : Kept s (noticeOthers l c t) :=
  h.forLinks fun k u => by split <;> simp

@[simp] theorem Kept.report (h : Kept s t) (r : Report) : Kept s (report r t) := h.setReports _

/-- The capture record is filled where it is empty, and keeps its content (R200). -/
theorem kept_setFault (v : Option FaultRecord) (k : ∀ r, t.fault = some r → v = some r) : Kept t (t.setFault v) where
  still := rfl
  fault := k
  spans := fun _ => List.Sublist.refl _
  rings := id
  forces := id
  runs := id
  limits := id
  tx := fun _ => List.prefix_rfl
  safe := id

@[simp] theorem Kept.reportFault (h : Kept s t) (k : FaultKind) (p : Option Pan) (e : Option Nat) :
    Kept s (reportFault k p e t) :=
  ((h.trans (kept_setFault _ fun r hr => by simp [hr])).notice _).report _

@[simp] theorem Kept.hand (h : Kept s t) (l : Link) (f : TxFrame) : Kept s (hand l f t) :=
  h.trans (kept_modPort l _ (fun _ => rfl) fun _ => List.prefix_append _ _)

@[simp] theorem Kept.attend (h : Kept s t) : Kept s (attend t) :=
  h.forLinks fun l u => by
    unfold attendLink
    dsimp only
    split
    · exact .refl u
    · exact Kept.hand (kept_modPort l (fun q => { q with attention := q.wantsAttention }) (fun _ => rfl)
        fun _ => List.prefix_rfl) _ _

@[simp] theorem Kept.startLong (h : Kept s t) (l : Link) (k : LongKind) : Kept s (startLong l k t) := h.setLongOps _
@[simp] theorem Kept.endLong (h : Kept s t) (k : LongKind) : Kept s (endLong k t) := h.setLongOps _

end Sys2Proof.Machine
end

