-- ==== Sys2Proof/Laws/KeptRoof.lean ====
section
/-! SUPPORT. What every operation of the breaker, the pantographs, the force regulator and the map keeps. -/

namespace Sys2Proof.Machine

variable {s t : State}

theorem isRaised_iff (x : PanState) : x.isRaised = true ↔ x = .raising ∨ x = .settling ∨ x = .raised := by
  cases x <;> simp [PanState.isRaised]

@[simp] theorem isRaised_raising : PanState.raising.isRaised = true := rfl

@[simp] theorem isRaised_settling : PanState.settling.isRaised = true := rfl

@[simp] theorem isRaised_raised : PanState.raised.isRaised = true := rfl

@[simp] theorem isRaised_lowered : PanState.lowered.isRaised = false := rfl

@[simp] theorem isRaised_lowering : PanState.lowering.isRaised = false := rfl

@[simp] theorem isRaised_dropped : PanState.dropped.isRaised = false := rfl

@[simp] theorem isRaised_isolated : PanState.isolated.isRaised = false := rfl

@[simp] theorem Channel.within_iff (c d : Channel) :
    c.Within d ↔ (d.state.isRaised = true → c.state.isRaised = true ∧ d.role = c.role) := Iff.rfl
/-! ### The breaker and the selector -/

@[simp] theorem Kept.endBreakerOps (h : Kept s t) (b : Breaker) : Kept s (endBreakerOps b t) := by
  unfold Machine.endBreakerOps
  simp (maxDischargeDepth := 40) [h]

@[simp] theorem Kept.setBreaker (h : Kept s t) (b : Breaker) : Kept s (setBreaker b t) := by
  unfold Machine.setBreaker
  dsimp only
  repeat' split
  all_goals simp (maxDischargeDepth := 40) [h]

@[simp] theorem Kept.startOpening (h : Kept s t) : Kept s (startOpening t) := by
  unfold Machine.startOpening
  simp (maxDischargeDepth := 40) [h]

@[simp] theorem Kept.openRequest (h : Kept s t) : Kept s (openRequest t) := by
  unfold Machine.openRequest
  repeat' split
  all_goals simp (maxDischargeDepth := 40) [h]

@[simp] theorem Kept.setTraction (h : Kept s t) : Kept s (setTraction t) := by
  unfold Machine.setTraction
  repeat' split
  all_goals simp (maxDischargeDepth := 40) [h]

@[simp] theorem Kept.watchInterlock (h : Kept s t) : Kept s (watchInterlock t) := by
  unfold Machine.watchInterlock
  repeat' split
  all_goals simp (maxDischargeDepth := 40) [h]

@[simp] theorem Kept.clearTraction (h : Kept s t) : Kept s (clearTraction t) := by
  unfold Machine.clearTraction
  dsimp only
  repeat' split
  all_goals simp (maxDischargeDepth := 40) [h]

@[simp] theorem Kept.externalTrip (h : Kept s t) : Kept s (externalTrip t) := by
  unfold Machine.externalTrip
  simp (maxDischargeDepth := 40) [h]

@[simp] theorem Kept.breakerReading (h : Kept s t) : Kept s (breakerReading t) := by
  unfold Machine.breakerReading
  repeat' split
  all_goals simp (maxDischargeDepth := 40) [h]

@[simp] theorem Kept.closeLimit (h : Kept s t) : Kept s (closeLimit t) := by
  unfold Machine.closeLimit
  repeat' split
  all_goals simp (maxDischargeDepth := 40) [h]

@[simp] theorem Kept.openLimit (h : Kept s t) : Kept s (openLimit t) := by
  unfold Machine.openLimit
  repeat' split
  all_goals simp (maxDischargeDepth := 40) [h]

@[simp] theorem Kept.systemCheck (h : Kept s t) : Kept s (systemCheck t) := by
  unfold Machine.systemCheck
  repeat' split
  all_goals simp (maxDischargeDepth := 40) [h]
theorem Kept.closeRequest (h : Kept s t) {u : State} (k : closeRequest t = some u) : Kept s u := by
  unfold Machine.closeRequest at k
  repeat' split at k
  all_goals cases k
  all_goals simp (maxDischargeDepth := 40) [h]
theorem Kept.watchLineLost (h : Kept s t) {u : State} (k : watchLineLost t = some u) : Kept s u := by
  unfold Machine.watchLineLost at k
  repeat' split at k
  all_goals cases k
  all_goals simp (maxDischargeDepth := 40) [h]
theorem Kept.watchReclose (h : Kept s t) {u : State} (k : watchReclose t = some u) : Kept s u := by
  unfold Machine.watchReclose at k
  repeat' split at k
  all_goals cases k
  all_goals simp (maxDischargeDepth := 40) [h]

@[simp] theorem Kept.lineLostExpires (h : Kept s t) : Kept s (lineLostExpires t) := by
  unfold Machine.lineLostExpires
  dsimp only
  repeat' split
  all_goals simp (maxDischargeDepth := 40) [h]

@[simp] theorem Kept.autoRecloses (h : Kept s t) : Kept s (autoRecloses t) := by
  unfold Machine.autoRecloses
  dsimp only
  have k : Kept s (t.modBsc fun q => { q with lastReclose := some t.now, reclose := false, recloseTimer := none }) :=
    h.modBsc _
  cases e : Machine.closeRequest (t.modBsc fun q =>
    { q with lastReclose := some t.now, reclose := false, recloseTimer := none }) with
  | none => exact k
  | some u => exact k.closeRequest e

@[simp] theorem Kept.endMove (h : Kept s t) (d : Bool) : Kept s (endMove d t) := by
  unfold Machine.endMove
  simp (maxDischargeDepth := 40) [h]

@[simp] theorem Kept.selectorRests (h : Kept s t) (p : SelPos) : Kept s (selectorRests p t) := by
  unfold Machine.selectorRests
  simp (maxDischargeDepth := 40) [h]

@[simp] theorem Kept.selectorFails (h : Kept s t) (p : SelPos) : Kept s (selectorFails p t) := by
  unfold Machine.selectorFails
  simp (maxDischargeDepth := 40) [h]

@[simp] theorem Kept.selectorReading (h : Kept s t) : Kept s (selectorReading t) := by
  unfold Machine.selectorReading
  repeat' split
  all_goals simp (maxDischargeDepth := 40) [h]

@[simp] theorem Kept.requestMove (h : Kept s t) (p : SelPos) (src : Source) : Kept s ((requestMove p src t).1) := by
  unfold Machine.requestMove
  repeat' split
  all_goals simp (maxDischargeDepth := 40) [h]
theorem Kept.watchMove (h : Kept s t) {u : State} (k : watchMove t = some u) : Kept s u := by
  unfold Machine.watchMove at k
  repeat' split at k
  all_goals cases k
  all_goals simp (maxDischargeDepth := 40) [h]

@[simp] theorem Kept.setPermit (h : Kept s t) (b : Bool) : Kept s (setPermit b t) := by
  unfold Machine.setPermit
  repeat' split
  all_goals simp (maxDischargeDepth := 40) [h]

@[simp] theorem Kept.earthUnexpected (h : Kept s t) : Kept s (earthUnexpected t) := by
  unfold Machine.earthUnexpected
  repeat' split
  all_goals simp (maxDischargeDepth := 40) [h]
theorem Kept.watchPermit (h : Kept s t) {u : State} (k : watchPermit t = some u) : Kept s u := by
  unfold Machine.watchPermit at k
  split at k
  · cases k
    simp (maxDischargeDepth := 40) [h]
  · cases k
/-! ### Forces -/
/-- A setpoint lies in 40 to 200 N (R72). -/
theorem setpointOf_bounds (profile : Nat) (role : Option Duty) (bonus : Nat) :
    Config.forceMin ≤ setpointOf profile role bonus ∧ setpointOf profile role bonus ≤ Config.forceMax := by
  simp only [setpointOf, clampNat, Config.forceMin, Config.forceMax]
  omega

theorem kept_computeForce (p : Pan) : Kept t (computeForce p t) := by
  unfold computeForce
  exact kept_modForce p _ fun _ => setpointOf_bounds _ _ _

@[simp] theorem Kept.computeForce (h : Kept s t) (p : Pan) : Kept s (computeForce p t) := h.trans (kept_computeForce p)

@[simp] theorem Kept.startForce (h : Kept s t) (p : Pan) : Kept s (startForce p t) :=
  (h.computeForce p).trans (kept_modForce p _ id)

@[simp] theorem Kept.stopForce (h : Kept s t) (p : Pan) : Kept s (stopForce p t) := h.trans (kept_modForce p _ id)

@[simp] theorem Kept.slewForce (h : Kept s t) (p : Pan) : Kept s (slewForce p t) :=
  h.trans (kept_modForce p _ fun k => by split <;> exact k)

@[simp] theorem Kept.regulate (h : Kept s t) (p : Pan) : Kept s (regulate p t) := by
  unfold Machine.regulate
  dsimp only
  repeat' split
  all_goals simp (maxDischargeDepth := 40) [h]
/-! ### Pantographs -/

@[simp] theorem Kept.endOpLong (h : Kept s t) (p : Pan) (op : Op) : Kept s (endOpLong p op t) := by
  unfold Machine.endOpLong
  repeat' split
  all_goals simp (maxDischargeDepth := 40) [h]

@[simp] theorem Kept.changePan (h : Kept s t) (p : Pan) (f : Channel → Channel) (k : (t.ch p).Within (f (t.ch p))) :
    Kept s (changePan p f t) := (h.modPan p f k).notice _

@[simp] theorem Kept.movePan (h : Kept s t) (p : Pan) (f : Channel → Channel) (k : (t.ch p).Within (f (t.ch p))) :
    Kept s (movePan p f t) := (h.changePan p f k).setIceEval _

@[simp] theorem Kept.reportOutcome (h : Kept s t) (p : Pan) (src : Source) (op : Op) (out : OpOutcome) : Kept s (reportOutcome p src op out t) := by
  unfold Machine.reportOutcome
  repeat' split
  all_goals simp (maxDischargeDepth := 40) [h]

@[simp] theorem Kept.recordOutcome (h : Kept s t) (p : Pan) (src : Source) (op : Op) (out : OpOutcome) : Kept s (recordOutcome p src op out t) := by
  unfold Machine.recordOutcome
  simp (maxDischargeDepth := 40) [h]

@[simp] theorem Kept.dropJob (h : Kept s t) (p : Pan) : Kept s (dropJob p t) := by
  unfold Machine.dropJob
  dsimp only
  repeat' split
  all_goals simp (maxDischargeDepth := 40) [h]

@[simp] theorem Kept.endJob (h : Kept s t) (p : Pan) (out : OpOutcome) : Kept s (endJob p out t) := by
  unfold Machine.endJob
  repeat' split
  all_goals simp (maxDischargeDepth := 40) [h]

@[simp] theorem Kept.placeJob (h : Kept s t) (p : Pan) (src : Source) (op : Op) : Kept s (placeJob p src op t) := by
  unfold Machine.placeJob
  dsimp only
  repeat' split
  all_goals simp (maxDischargeDepth := 40) [h]

@[simp] theorem Kept.takeOver (h : Kept s t) (p : Pan) (src : Source) (op : Op) : Kept s (takeOver p src op t) := by
  unfold Machine.takeOver
  dsimp only
  repeat' split
  all_goals simp (maxDischargeDepth := 40) [h]
/-- Clearing a ring of arc bins. -/
theorem kept_clearRing (p : Pan) (f : Ice → Ice) (h1 : (f t.ice).still = t.ice.still)
    (h2 : (f t.ice).arcs = t.ice.arcs.set p .empty) : Kept t (t.modIce f) :=
  kept_modIce f h1 fun k q => by
    rw [h2, PerPan.get_set]
    split
    · exact ⟨rfl, by simp [ArcRing.empty]⟩
    · exact k q

@[simp] theorem Kept.reachLowered (h : Kept s t) (p : Pan) : Kept s (reachLowered p t) := by
  have k : Kept s (t.modIce fun i => { i with arcs := i.arcs.set p .empty }) := h.trans (kept_clearRing p _ rfl rfl)
  unfold Machine.reachLowered
  dsimp only
  split <;> simp (maxDischargeDepth := 40) [k]

@[simp] theorem Kept.enterLowering (h : Kept s t) (p : Pan) : Kept s (enterLowering p t) := by
  unfold Machine.enterLowering
  dsimp only
  repeat' split
  all_goals simp (maxDischargeDepth := 40) [h]

@[simp] theorem Kept.requestLower (h : Kept s t) (p : Pan) (src : Source) : Kept s ((requestLower p src t).1) := by
  unfold Machine.requestLower
  dsimp only
  repeat' split
  all_goals simp (maxDischargeDepth := 40) [h]
theorem Kept.watchLowerWait (h : Kept s t) (p : Pan) {u : State} (k : watchLowerWait p t = some u) : Kept s u := by
  unfold Machine.watchLowerWait at k
  split at k
  · cases k
    simp [h]
  · cases k

@[simp] theorem Kept.protectiveLower (h : Kept s t) (p : Pan) : Kept s (protectiveLower p t) := by
  unfold Machine.protectiveLower
  repeat' split
  all_goals simp (maxDischargeDepth := 40) [h]

@[simp] theorem Kept.lowerExpires (h : Kept s t) (p : Pan) : Kept s (lowerExpires p t) := by
  unfold Machine.lowerExpires
  simp (maxDischargeDepth := 40) [h]

@[simp] theorem Kept.loweredLimit (h : Kept s t) (p : Pan) : Kept s (loweredLimit p t) := by
  unfold Machine.loweredLimit
  repeat' split
  all_goals simp (maxDischargeDepth := 40) [h]

@[simp] theorem Kept.markRaised (h : Kept s t) (p : Pan) : Kept s (markRaised p t) := by
  unfold Machine.markRaised
  simp (maxDischargeDepth := 40) [h]

@[simp] theorem Kept.openIfCollecting (h : Kept s t) (p : Pan) : Kept s (openIfCollecting p t) := by
  unfold Machine.openIfCollecting
  repeat' split
  all_goals simp (maxDischargeDepth := 40) [h]

@[simp] theorem Kept.raiseExpires (h : Kept s t) (p : Pan) : Kept s (raiseExpires p t) := by
  unfold Machine.raiseExpires
  dsimp only
  repeat' split
  all_goals simp (maxDischargeDepth := 40) [h]

@[simp] theorem Kept.contactLost (h : Kept s t) (p : Pan) : Kept s (contactLost p t) := by
  unfold Machine.contactLost
  simp (maxDischargeDepth := 40) [h]

@[simp] theorem Kept.trip (h : Kept s t) (p : Pan) : Kept s (trip p t) := by
  unfold Machine.trip
  simp (maxDischargeDepth := 40) [h]

@[simp] theorem Kept.sensorTrip (h : Kept s t) (p : Pan) : Kept s (sensorTrip p t) := by
  unfold Machine.sensorTrip
  simp (maxDischargeDepth := 40) [h]

@[simp] theorem Kept.settleSample (h : Kept s t) (p : Pan) (x : Int) : Kept s (settleSample p x t) := by
  unfold Machine.settleSample
  repeat' split
  all_goals simp (maxDischargeDepth := 40) [h]

@[simp] theorem Kept.judgeSample (h : Kept s t) (p : Pan) (x : Int) : Kept s (judgeSample p x t) := by
  unfold Machine.judgeSample
  dsimp only
  repeat' split
  all_goals simp (maxDischargeDepth := 40) [h]

@[simp] theorem Kept.takePressure (h : Kept s t) (p : Pan) (x : Int) : Kept s (takePressure p x t) := by
  unfold Machine.takePressure
  dsimp only
  repeat' split
  all_goals simp (maxDischargeDepth := 40) [h]

@[simp] theorem Kept.resetDropped (h : Kept s t) (p : Pan) : Kept s (resetDropped p t) := by
  unfold Machine.resetDropped
  refine (h.trans (kept_clearRing p _ rfl rfl)).movePan p _ ?_
  simp

@[simp] theorem Kept.startDisc (h : Kept s t) (p : Pan) (q : DiscPos) : Kept s (startDisc p q t) := by
  unfold Machine.startDisc
  simp (maxDischargeDepth := 40) [h]

@[simp] theorem Kept.requestDisc (h : Kept s t) (p : Pan) (q : DiscPos) (src : Source) : Kept s ((requestDisc p q src t).1) := by
  unfold Machine.requestDisc
  dsimp only
  repeat' split
  all_goals simp (maxDischargeDepth := 40) [h]

@[simp] theorem Kept.endDiscJob (h : Kept s t) (p : Pan) (out : OpOutcome) : Kept s (endDiscJob p out t) := by
  unfold Machine.endDiscJob
  repeat' split
  all_goals simp (maxDischargeDepth := 40) [h]

@[simp] theorem Kept.discRests (h : Kept s t) (p : Pan) (q : DiscPos) : Kept s (discRests p q t) := by
  unfold Machine.discRests
  simp (maxDischargeDepth := 40) [h]

@[simp] theorem Kept.discReading (h : Kept s t) (p : Pan) : Kept s (discReading p t) := by
  unfold Machine.discReading
  repeat' split
  all_goals simp (maxDischargeDepth := 40) [h]

@[simp] theorem Kept.discExpires (h : Kept s t) (p : Pan) (q : DiscPos) : Kept s (discExpires p q t) := by
  unfold Machine.discExpires
  repeat' split
  all_goals simp (maxDischargeDepth := 40) [h]

@[simp] theorem Kept.resetChannel (h : Kept s t) (p : Pan) : Kept s (resetChannel p t) := by
  unfold Machine.resetChannel
  dsimp only
  repeat' split
  all_goals simp (maxDischargeDepth := 40) [h]

@[simp] theorem Kept.isolatePan (h : Kept s t) (p : Pan) : Kept s (isolatePan p t) := by
  unfold Machine.isolatePan
  refine (h.trans (kept_modIce _ rfl id)).movePan p _ ?_
  simp

@[simp] theorem Kept.restorePan (h : Kept s t) (p : Pan) : Kept s (restorePan p t) := by
  unfold Machine.restorePan
  repeat' split
  all_goals simp (maxDischargeDepth := 40) [h]
end Sys2Proof.Machine
end

