-- ==== Sys2Proof/Laws/KeptRaise.lean ====
section
/-! SUPPORT. What raising, the map and the sequencer keep. -/

namespace Sys2Proof.Machine

variable {s t : State}

/-! ### The arbiter leaves states and roles -/

theorem changePan_ch (p q : Pan) (f : Channel → Channel) :
    (changePan p f t).ch q = if q = p then f (t.ch p) else t.ch q := by
  simp only [changePan, State.ch, notice_pch, State.modPan_pch, PerPan.get_set]

@[simp] theorem endOpLong_ch (p q : Pan) (op : Op) : (endOpLong p op t).ch q = t.ch q := by cases op <;> rfl

@[simp] theorem reportOutcome_ch (p q : Pan) (src : Source) (op : Op) (out : OpOutcome) :
    (reportOutcome p src op out t).ch q = t.ch q := by cases src <;> rfl

/-- A field of a channel that an operation leaves on every channel. -/
def Leaves {α : Type} (f : Channel → α) (s t : State) : Prop := ∀ q, f (t.ch q) = f (s.ch q)

theorem leaves_modPan {α : Type} (f : Channel → α) (p : Pan) (g : Channel → Channel) (h : ∀ c, f (g c) = f c) :
    Leaves f t (t.modPan p g) := fun q => by
  rw [State.ch, State.modPan_pch, PerPan.get_set]
  split
  · next e => subst e; exact h _
  · rfl

theorem leaves_recordOutcome {α : Type} (f : Channel → α) (h : ∀ c x, f { c with lastResult := x } = f c) (p : Pan)
    (src : Source) (op : Op) (out : OpOutcome) : Leaves f t (recordOutcome p src op out t) := fun q => by
  rw [recordOutcome, reportOutcome_ch, changePan_ch]
  split
  · next e => subst e; exact h _ _
  · rfl

theorem leaves_dropJob {α : Type} (f : Channel → α)
    (h : ∀ c, f { c with job := none, raiseWaiting := false, lowerReq := false } = f c) (p : Pan) :
    Leaves f t (dropJob p t) := fun q => by
  unfold dropJob
  dsimp only
  rw [leaves_modPan f p _ h q]
  split <;> simp

/-- The end of a channel's operation leaves its state, role and disconnector. -/
theorem leaves_endJob {α : Type} (f : Channel → α) (h : ∀ c x, f { c with lastResult := x } = f c)
    (k : ∀ c, f { c with job := none, raiseWaiting := false, lowerReq := false } = f c) (p : Pan) (out : OpOutcome) :
    Leaves f t (endJob p out t) := fun q => by
  unfold endJob
  split
  · rw [leaves_recordOutcome f h, leaves_dropJob f k]
  · rfl

theorem leaves_placeJob {α : Type} (f : Channel → α) (h : ∀ c x, f { c with job := x } = f c) (p : Pan) (src : Source)
    (op : Op) : Leaves f t (placeJob p src op t) := fun q => by
  unfold placeJob
  dsimp only
  have k := leaves_modPan (t := t) f p (fun c => { c with job := some ⟨src, op⟩ }) (fun c => h c _) q
  cases src <;> exact k

/-- A request that takes a channel leaves its state, role and disconnector (R56). -/
theorem leaves_takeOver {α : Type} (f : Channel → α) (h : ∀ c x, f { c with lastResult := x } = f c)
    (k : ∀ c, f { c with job := none, raiseWaiting := false, lowerReq := false } = f c)
    (j : ∀ c x, f { c with job := x } = f c) (p : Pan) (src : Source) (op : Op) :
    Leaves f t (takeOver p src op t) := fun q => by
  unfold takeOver
  dsimp only
  rw [leaves_placeJob f j]
  repeat' split
  · rfl
  · exact leaves_dropJob f k p q
  · exact leaves_endJob f h k p .aborted q

@[simp] theorem endJob_state (p q : Pan) (out : OpOutcome) : ((endJob p out t).ch q).state = (t.ch q).state :=
  leaves_endJob (·.state) (fun _ _ => rfl) (fun _ => rfl) p out q
@[simp] theorem endJob_role (p q : Pan) (out : OpOutcome) : ((endJob p out t).ch q).role = (t.ch q).role :=
  leaves_endJob (·.role) (fun _ _ => rfl) (fun _ => rfl) p out q
@[simp] theorem endJob_disc (p q : Pan) (out : OpOutcome) : ((endJob p out t).ch q).disc = (t.ch q).disc :=
  leaves_endJob (·.disc) (fun _ _ => rfl) (fun _ => rfl) p out q
@[simp] theorem takeOver_state (p q : Pan) (src : Source) (op : Op) :
    ((takeOver p src op t).ch q).state = (t.ch q).state :=
  leaves_takeOver (·.state) (fun _ _ => rfl) (fun _ => rfl) (fun _ _ => rfl) p src op q
@[simp] theorem takeOver_role (p q : Pan) (src : Source) (op : Op) :
    ((takeOver p src op t).ch q).role = (t.ch q).role :=
  leaves_takeOver (·.role) (fun _ _ => rfl) (fun _ => rfl) (fun _ _ => rfl) p src op q
@[simp] theorem takeOver_disc (p q : Pan) (src : Source) (op : Op) :
    ((takeOver p src op t).ch q).disc = (t.ch q).disc :=
  leaves_takeOver (·.disc) (fun _ _ => rfl) (fun _ => rfl) (fun _ _ => rfl) p src op q

/-! ### Raising -/

/-- There is room for one more raised pantograph in a role (Table 3-4, conditions 5 and 7). -/
def State.Room (s : State) (d : Duty) : Prop :=
  s.raisedPans.length < 2 ∧ (d = .collecting → ∀ q, (s.ch q).state.isRaised = true → (s.ch q).role ≠ some .collecting)

/-- A raise that passes the conditions of Table 3-4 finds room. -/
theorem room_of_raiseRefusal {p : Pan} {d : Duty} (h : t.raiseRefusal p d = none) : t.Room d := by
  unfold State.raiseRefusal at h
  repeat' split at h
  all_goals try cases h
  next h1 h2 h3 h4 h5 h6 h7 h8 h9 h10 =>
  refine ⟨by omega, fun e q hq hr => h6 ⟨e, ?_⟩⟩
  simp only [State.collectingRaised, State.raisedPans, pansWhere, List.any_eq_true, List.mem_filter]
  exact ⟨q, ⟨by cases q <;> simp [Pan.all], hq⟩, by simp [hr]⟩

theorem raisedPans_congr {u : State} (h : ∀ q, (u.ch q).state = (t.ch q).state) : u.raisedPans = t.raisedPans := by
  simp [State.raisedPans, h]

theorem room_takeOver {d : Duty} (h : t.Room d) (p : Pan) (src : Source) (op : Op) : (takeOver p src op t).Room d := by
  simpa [State.Room, raisedPans_congr (u := takeOver p src op t) fun q => takeOver_state p q src op] using h

/-- One channel raised where there is room keeps the limits. -/
theorem limits_raise {u : State} {p : Pan} {d : Duty} (lim : t.RaiseLimits) (room : t.Room d) (hp : (u.ch p).role = some d)
    (hq : ∀ q, q ≠ p → u.ch q = t.ch q) : u.RaiseLimits := by
  have hne : ∀ q ∈ u.raisedPans, q ≠ p → q ∈ t.raisedPans := fun q hq1 hq2 => by
    simp only [State.raisedPans, pansWhere, List.mem_filter] at hq1 ⊢
    rwa [hq q hq2] at hq1
  have nd : u.raisedPans.Nodup := List.Nodup.filter _ (by decide)
  have h1 : (u.raisedPans.filter fun q => q ≠ p).length ≤ t.raisedPans.length := by
    refine List.Subperm.length_le (List.Nodup.subperm (nd.filter _) fun q hq => ?_)
    simp only [List.mem_filter, decide_eq_true_eq] at hq
    exact hne q hq.1 hq.2
  have h2 : u.raisedPans.length ≤ (u.raisedPans.filter fun q => q ≠ p).length + 1 := by
    have e := List.length_eq_length_filter_add (l := u.raisedPans) fun q => decide (q ≠ p)
    have k : (u.raisedPans.filter fun q => !decide (q ≠ p)).length ≤ 1 := by
      have sub : (u.raisedPans.filter fun q => !decide (q ≠ p)).Subperm [p] :=
        List.Nodup.subperm (nd.filter _) fun q hq => by
          simp only [List.mem_filter] at hq
          simpa using hq.2
      exact sub.length_le
    omega
  refine ⟨by have := room.1; omega, ?_⟩
  cases d with
  | collecting =>
    have sub : (u.raisedPans.filter fun q => (u.ch q).role = some .collecting).Subperm [p] :=
      List.Nodup.subperm (nd.filter _) fun q hq1 => by
        simp only [List.mem_filter, decide_eq_true_eq] at hq1
        by_contra c
        have c' : q ≠ p := by simpa using c
        have hq3 := hne q hq1.1 c'
        simp only [State.raisedPans, pansWhere, List.mem_filter] at hq3
        exact room.2 rfl q hq3.2 (hq q c' ▸ hq1.2)
    exact sub.length_le
  | scrape =>
    refine le_trans (List.Subperm.length_le (List.Nodup.subperm (nd.filter _) fun q hq1 => ?_)) lim.2
    simp only [List.mem_filter, decide_eq_true_eq] at hq1 ⊢
    have c : q ≠ p := fun e => by rw [e, hp] at hq1; exact absurd hq1.2 (by decide)
    exact ⟨hne q hq1.1 c, hq q c ▸ hq1.2⟩

/-- An update of a channel that raises it where there is room. -/
theorem kept_raisePan (p : Pan) (d : Duty) (f : Channel → Channel) (room : t.Room d) (h : (f (t.ch p)).role = some d) :
    Kept t (t.modPan p f) where
  still := rfl
  fault := fun _ h => h
  spans := fun _ => List.Sublist.refl _
  rings := id
  forces := id
  runs := id
  limits := fun lim => by
    refine limits_raise (p := p) lim room ?_ fun q hq => ?_
    · rwa [State.ch, State.modPan_pch, PerPan.get_set_same]
    · rw [State.ch, State.modPan_pch, PerPan.get_set_ne _ _ hq]; rfl
  tx := fun _ => List.prefix_rfl
  safe := id

/-- A raise granted where there is room (R39). -/
theorem kept_grantRaise (p : Pan) (d : Duty) (room : t.Room d) : Kept t (grantRaise p d t) := by
  unfold grantRaise movePan changePan
  dsimp only
  have k := fun f h => ((kept_raisePan p d f room h).notice .pan).setIceEval true
  split
  · exact ((k _ rfl).startForce p).markRaised p
  all_goals exact (k _ rfl).startForce p

theorem Kept.grantRaise (h : Kept s t) (p : Pan) (d : Duty) (room : t.Room d) : Kept s (grantRaise p d t) :=
  h.trans (kept_grantRaise p d room)

@[simp] theorem Kept.raiseRaised (h : Kept s t) (p : Pan) (d : Duty) (src : Source) :
    Kept s (raiseRaised p d src t).1 := by
  unfold Machine.raiseRaised
  repeat' split
  all_goals simp (maxDischargeDepth := 40) [h]

@[simp] theorem Kept.requestRaise (h : Kept s t) (p : Pan) (d : Duty) (src : Source) :
    Kept s (requestRaise p d src t).1 := by
  unfold Machine.requestRaise
  repeat' split
  all_goals first
    | exact (h.takeOver p src (.raise d)).grantRaise p d (room_takeOver (room_of_raiseRefusal (by assumption)) p src _)
    | simp (maxDischargeDepth := 40) [h]

theorem Kept.watchRaiseWait (h : Kept s t) (p : Pan) {u : State} (k : watchRaiseWait p t = some u) : Kept s u := by
  unfold Machine.watchRaiseWait at k
  dsimp only at k
  repeat' split at k
  all_goals cases k
  all_goals first
    | exact h.grantRaise p _ (room_of_raiseRefusal (by assumption))
    | simp (maxDischargeDepth := 40) [h]

/-- The end of the settle timer in SETTLING. -/
theorem Kept.settleEnds (h : Kept s t) (p : Pan) (k : (t.ch p).state = .settling) : Kept s (settleEnds p t) := by
  unfold Machine.settleEnds
  dsimp only
  have j : Kept s (Machine.movePan p (fun c => { c with state := .raised, settle := none }) t) :=
    h.movePan p _ fun _ => by simp [k]
  split <;> simp [j]

@[simp] theorem Kept.contactSense (h : Kept s t) (p : Pan) : Kept s (contactSense p t) := by
  unfold Machine.contactSense
  split
  all_goals first
    | refine h.movePan p _ fun _ => ?_
      simp_all
    | simp (maxDischargeDepth := 40) [h]
/-! ### The map -/

/-- An update of MAP that keeps the id counter and every span. -/
theorem kept_modEntries (f : RouteMap → RouteMap) (h1 : (f t.map).nextId = t.map.nextId)
    (h2 : ((f t.map).entries.map fun e => (e.id, e.start, e.length)) = t.spans) : Kept t (t.modMap f) :=
  kept_modMap f h1 (h2 ▸ List.Sublist.refl _)

theorem stage_span (e : Entry) : ((stage t e).id, (stage t e).start, (stage t e).length) = (e.id, e.start, e.length) := by
  unfold stage
  split <;> rfl

theorem spans_map (f : Entry → Entry) (h : ∀ e, ((f e).id, (f e).start, (f e).length) = (e.id, e.start, e.length)) :
    ((t.map.entries.map f).map fun e => (e.id, e.start, e.length)) = t.spans := by
  simp only [State.spans, List.map_map]
  exact List.map_congr_left fun e _ => h e

theorem Kept.watchStaging (h : Kept s t) {u : State} (k : watchStaging t = some u) : Kept s u := by
  unfold Machine.watchStaging at k
  dsimp only at k
  split at k
  · cases k
  · cases k
    refine Kept.notice (h.trans (kept_modEntries _ rfl (spans_map _ fun e => ?_))) _
    unfold restage
    split
    · exact stage_span e
    · rfl

@[simp] theorem Kept.computeAction (h : Kept s t) : Kept s (computeAction t) :=
  h.trans (kept_modEntries _ rfl rfl)

@[simp] theorem Kept.refreshAction (h : Kept s t) : Kept s (refreshAction t) := by
  unfold Machine.refreshAction
  split <;> simp [h]

theorem armEntry_span (e : Entry) :
    ((armEntry t e).id, (armEntry t e).start, (armEntry t e).length) = (e.id, e.start, e.length) := by
  unfold armEntry
  split
  · exact stage_span _
  · rfl

@[simp] theorem Kept.armWhere (h : Kept s t) (f : Entry → Bool) : Kept s (armWhere f t) := by
  unfold Machine.armWhere
  split
  · refine Kept.refreshAction (Kept.notice (h.trans (kept_modEntries _ rfl (spans_map _ fun e => ?_))) _)
    split
    · exact armEntry_span e
    · rfl
  · exact h

@[simp] theorem Kept.armAll (h : Kept s t) : Kept s (armAll t) := h.armWhere _

@[simp] theorem Kept.returnWhere (h : Kept s t) (f : Entry → Bool) : Kept s (returnWhere f t) := by
  unfold Machine.returnWhere
  dsimp only
  split
  · refine Kept.refreshAction (Kept.notice (h.trans (kept_modEntries _ rfl (spans_map _ fun e => ?_))) _)
    split <;> rfl
  · exact h

@[simp] theorem Kept.returnAll (h : Kept s t) : Kept s (returnAll t) := h.returnWhere _

@[simp] theorem Kept.removeEntry (h : Kept s t) (e : Entry) (r : RemovalReason) : Kept s (removeEntry e r t) := by
  unfold Machine.removeEntry
  dsimp only
  have k := fun l => (h.trans (kept_modMap (s := t) (fun m => { m with
      entries := m.entries.filter fun d => d.id ≠ e.id, lastRemoval := l }) rfl
      (List.Sublist.map _ List.filter_sublist))).setIceEval true
  split
  · exact (k _).computeAction
  · exact (k _).refreshAction

@[simp] theorem Kept.removeAll (h : Kept s t) (es : List Entry) (r : RemovalReason) : Kept s (removeAll es r t) := by
  unfold Machine.removeAll
  induction es generalizing t with
  | nil => exact h
  | cons e rest ih => exact ih (h.removeEntry e r)

@[simp] theorem Kept.removeOverrun (h : Kept s t) (e : Entry) : Kept s (removeOverrun t e) := by
  unfold Machine.removeOverrun
  dsimp only
  split <;> simp (maxDischargeDepth := 40) [h]

@[simp] theorem Kept.removeOverruns (h : Kept s t) : Kept s (removeOverruns t) := by
  unfold Machine.removeOverruns
  generalize t.map.entries.filter t.overrun = es
  induction es generalizing t with
  | nil => exact h
  | cons e rest ih => exact ih (h.removeOverrun e)

@[simp] theorem Kept.clearMap (h : Kept s t) : Kept s (clearMap t) := (h.removeAll _ _).notice _

@[simp] theorem Kept.mapPulse (h : Kept s t) (d : Direction) : Kept s (mapPulse d t) := by
  unfold Machine.mapPulse
  dsimp only
  split <;> simp (maxDischargeDepth := 40) [h]

@[simp] theorem Kept.mapFix (h : Kept s t) (b : Bool) : Kept s (mapFix b t) := by
  unfold Machine.mapFix
  split <;> simp (maxDischargeDepth := 40) [h]
end Sys2Proof.Machine
end

