-- ==== Sys2Proof/Laws/KeptReact.lean ====
section
/-! SUPPORT. What the sequencer, the ice monitor, the authority unit and the reactions keep. -/

namespace Sys2Proof.Machine

variable {s t : State}

/-! ### The sequencer -/

@[simp] theorem Kept.modCtx (h : Kept s t) (f : SeqCtx → SeqCtx) : Kept s (modCtx f t) := by
  exact h.modSeq _ id

@[simp] theorem Kept.endSequence (h : Kept s t) (r : RemovalReason) (x : SeqResult) : Kept s (endSequence r x t) := by
  unfold Machine.endSequence
  split
  · exact ((h.removeEntry _ _).notice _).modSeq _ id
  · exact h

@[simp] theorem Kept.cancelSequence (h : Kept s t) (c : CancelCause) : Kept s (cancelSequence c t) := by
  exact h.endSequence _ _

@[simp] theorem Kept.lineAbsent (h : Kept s t) : Kept s (lineAbsent t) := by
  unfold Machine.lineAbsent
  refine Kept.endSequence ?_ _ _
  split <;> simp [h]

@[simp] theorem Kept.reportMismatch (h : Kept s t) (r : Reason) (e : Nat) : Kept s (reportMismatch r e t) := by
  unfold Machine.reportMismatch
  repeat' split
  all_goals simp (maxDischargeDepth := 40) [h]

@[simp] theorem Kept.lowerSeqRaised (h : Kept s t) (r : PerPan Bool) (p : Pan) : Kept s (lowerSeqRaised r p t) := by
  unfold Machine.lowerSeqRaised
  repeat' split
  all_goals simp (maxDischargeDepth := 40) [h]

@[simp] theorem Kept.failStage (h : Kept s t) (r : Reason) (p : Option Pan) : Kept s (failStage r p t) := by
  unfold Machine.failStage
  dsimp only
  split
  · refine Kept.forPans ?_ fun p u => (Kept.refl u).lowerSeqRaised _ p
    simp (maxDischargeDepth := 40) [h]
  · exact h

@[simp] theorem Kept.markStage (h : Kept s t) (x : Stage) : Kept s (markStage x t) := by
  unfold Machine.markStage
  simp (maxDischargeDepth := 40) [h]

@[simp] theorem Kept.setStep (h : Kept s t) (x : StageStep) : Kept s (setStep x t) := by
  unfold Machine.setStep
  simp (maxDischargeDepth := 40) [h]

@[simp] theorem Kept.enterClearing (h : Kept s t) : Kept s (enterClearing t) := by
  unfold Machine.enterClearing
  simp (maxDischargeDepth := 40) [h]

@[simp] theorem Kept.candidateFails (h : Kept s t) (r : Reason) (p : Pan) : Kept s (candidateFails r p t) := by
  unfold Machine.candidateFails
  dsimp only
  repeat' split
  all_goals simp (maxDischargeDepth := 40) [h]

@[simp] theorem Kept.seqLift (h : Kept s t) (p : Pan) : Kept s (seqLift p t) := by
  unfold Machine.seqLift
  have k := h.requestRaise p .collecting .sequencer
  revert k
  generalize Machine.requestRaise p .collecting .sequencer t = r
  obtain ⟨u, a⟩ := r
  intro k
  cases a <;> simp (maxDischargeDepth := 40) [k]

@[simp] theorem Kept.seqConnect (h : Kept s t) (p : Pan) : Kept s (seqConnect p t) := by
  unfold Machine.seqConnect
  have k := h.requestDisc p .connected .sequencer
  revert k
  generalize Machine.requestDisc p .connected .sequencer t = r
  obtain ⟨u, a⟩ := r
  intro k
  split <;> (try cases a) <;> simp (maxDischargeDepth := 40) [h, k]

@[simp] theorem Kept.seqRaise (h : Kept s t) : Kept s (seqRaise t) := by
  unfold Machine.seqRaise
  repeat' split
  all_goals simp (maxDischargeDepth := 40) [h]

@[simp] theorem Kept.seqSelect (h : Kept s t) : Kept s (seqSelect t) := by
  have k := fun y => h.requestMove (.sys y) .sequencer
  unfold Machine.seqSelect
  repeat' split
  all_goals first
    | exact h
    | exact h.modCtx _
    | rename_i y _ _ _ _ heq
      have j := k y
      rw [heq] at j
      simp (maxDischargeDepth := 40) [j]

@[simp] theorem Kept.seqLower (h : Kept s t) (f : Pan → Bool) (p : Pan) : Kept s (seqLower f p t) := by
  unfold Machine.seqLower
  repeat' split
  all_goals simp (maxDischargeDepth := 40) [h]

@[simp] theorem Kept.seqLowering (h : Kept s t) : Kept s (seqLowering t) := by
  unfold Machine.seqLowering
  dsimp only
  split
  · split
    all_goals refine Kept.forPans ?_ fun p u => (Kept.refl u).seqLower _ p
    all_goals simp [h]
  · exact h

@[simp] theorem Kept.seqClose (h : Kept s t) : Kept s (seqClose t) := by
  unfold Machine.seqClose
  split
  · next e => exact h.closeRequest e
  · simp [h]

@[simp] theorem Kept.enterStage (h : Kept s t) (x : Stage) : Kept s (enterStage x t) := by
  unfold Machine.enterStage
  split <;> simp (maxDischargeDepth := 40) [h]

@[simp] theorem Kept.enterFrom (h : Kept s t) (l : List Stage) : Kept s (enterFrom l t) := by
  induction l with
  | nil => exact h.endSequence _ _
  | cons x rest ih =>
    unfold Machine.enterFrom
    repeat' split
    · exact h.enterStage x
    · exact ih
    · exact h

@[simp] theorem Kept.nextStage (h : Kept s t) (c : SeqCtx) : Kept s (nextStage c t) := by
  exact h.enterFrom _
theorem Kept.watchStage (h : Kept s t) {u : State} (k : watchStage t = some u) : Kept s u := by
  unfold Machine.watchStage at k
  repeat' split at k
  all_goals cases k
  all_goals simp (maxDischargeDepth := 40) [h]

@[simp] theorem Kept.runStages (h : Kept s t) (n : Nat) : Kept s (runStages n t) := by
  induction n generalizing t with
  | zero => exact h
  | succ n ih =>
    unfold Machine.runStages
    split
    · next e => exact ih (h.watchStage e)
    · exact h

/-- What `endPassed` does: nothing, or the sequence ends and the last removal stands. -/
theorem endPassed_cases (before s : State) :
    endPassed before s = s ∨ (runStages stageBound s).seq.ctx = none
      ∧ endPassed before s = (runStages stageBound s).modMap fun m => { m with lastRemoval := s.map.lastRemoval } := by
  unfold endPassed
  split
  · split
    · dsimp only
      split
      · next e => exact .inr ⟨Option.isNone_iff_eq_none.1 e, rfl⟩
      · exact .inl rfl
    · exact .inl rfl
  · exact .inl rfl

@[simp] theorem Kept.endPassed (h : Kept s t) (before : State) : Kept s (endPassed before t) := by
  rcases endPassed_cases before t with e | ⟨-, e⟩ <;> rw [e]
  · exact h
  · exact (h.runStages _).trans (kept_modEntries _ rfl rfl)

@[simp] theorem Kept.confirmExpires (h : Kept s t) : Kept s (confirmExpires t) := by
  unfold Machine.confirmExpires
  repeat' split
  all_goals simp (maxDischargeDepth := 40) [h]
/-- The first entry of the map becomes ACTIVE (R110). -/
theorem Kept.activate (h : Kept s t) (e : Entry) (k : e ∈ t.map.entries) : Kept s (activate e t) := by
  have j : ∀ f : RouteMap → RouteMap, (f t.map).nextId = t.map.nextId →
      (f t.map).entries = t.map.entries.map (fun d => if d.id = e.id then
        { e with state := .active, late := t.isLate e } else d) → Kept s (t.modMap f) := fun f h1 h2 =>
    h.trans
      { still := by simp [State.still, h1]
        fault := fun _ h => h
        spans := fun nd => by
          simp only [State.spans, State.modMap_map, h2, List.map_map]
          rw [List.map_congr_left]
          intro d hd
          dsimp only [Function.comp]
          split
          · next q =>
            have : d = e := by
              simp only [State.spans, List.map_map] at nd
              exact List.inj_on_of_nodup_map nd hd k q
            rw [this]
          · rfl
        rings := id
        forces := id
        runs := id
        limits := id
        tx := fun _ => List.prefix_rfl
        safe := id }
  unfold Machine.activate
  dsimp only
  exact Kept.enterFrom (Kept.setIceEval (Kept.modSeq (Kept.refreshAction (Kept.notice (j _ rfl rfl) _)) _ id) _) _

theorem Kept.watchActivation (h : Kept s t) {u : State} (k : watchActivation t = some u) : Kept s u := by
  unfold Machine.watchActivation at k
  repeat' split at k
  all_goals cases k
  exact h.activate _ (by simp [*])

@[simp] theorem Kept.iceRoofSafe (h : Kept s t) : Kept s (iceRoofSafe t) := by
  exact h.trans (kept_modIce _ rfl id)

@[simp] theorem Kept.roofSafe (h : Kept s t) : Kept s (roofSafe t) := by
  unfold Machine.roofSafe
  dsimp only
  split
  · exact h
  · refine Kept.setIceEval (Kept.returnAll (Kept.cancelSequence (Kept.iceRoofSafe ?_) _)) _
    refine Kept.forPans ?_ fun p u => (Kept.refl u).protectiveLower p
    simp (maxDischargeDepth := 40) [h]

@[simp] theorem Kept.seqOpEnded (h : Kept s t) (p : Pan) (op : Op) (out : OpOutcome) : Kept s (seqOpEnded p op out t) := by
  unfold Machine.seqOpEnded
  repeat' split
  all_goals simp (maxDischargeDepth := 40) [h]

@[simp] theorem Kept.seqPanFault (h : Kept s t) (k : FaultKind) (p : Pan) : Kept s (seqPanFault k p t) := by
  unfold Machine.seqPanFault
  repeat' split
  all_goals simp (maxDischargeDepth := 40) [h]

@[simp] theorem Kept.seqLowerTimeout (h : Kept s t) (p : Pan) (r : Option Duty) (b : Bool) : Kept s (seqLowerTimeout p r b t) := by
  unfold Machine.seqLowerTimeout
  repeat' split
  all_goals simp (maxDischargeDepth := 40) [h]

@[simp] theorem Kept.seqSelectorFailed (h : Kept s t) : Kept s (seqSelectorFailed t) := by
  unfold Machine.seqSelectorFailed
  repeat' split
  all_goals simp (maxDischargeDepth := 40) [h]

@[simp] theorem Kept.seqCloseFailed (h : Kept s t) : Kept s (seqCloseFailed t) := by
  unfold Machine.seqCloseFailed
  simp (maxDischargeDepth := 40) [h]

@[simp] theorem Kept.seqRaiseTimeout (h : Kept s t) (p : Pan) : Kept s (seqRaiseTimeout p t) := by
  unfold Machine.seqRaiseTimeout
  repeat' split
  all_goals simp (maxDischargeDepth := 40) [h]

@[simp] theorem Kept.seqFault (h : Kept s t) (k : FaultKind) (p : Option Pan) : Kept s (seqFault k p t) := by
  unfold Machine.seqFault
  repeat' split
  all_goals simp (maxDischargeDepth := 40) [h]

@[simp] theorem Kept.seqReport (h : Kept s t) (r : Report) : Kept s (seqReport r t) := by
  unfold Machine.seqReport
  repeat' split
  all_goals simp (maxDischargeDepth := 40) [h]
/-! ### The ice monitor -/
/-- An update of ICE that keeps the temperature and the rings. -/
theorem Kept.modIce (h : Kept s t) (f : Ice → Ice) (h1 : (f t.ice).still = t.ice.still) (h2 : (f t.ice).arcs = t.ice.arcs) :
    Kept s (t.modIce f) := h.trans (kept_modIce f h1 fun k => h2 ▸ k)

@[simp] theorem Kept.iceNotice (h : Kept s t) (x y : IceState) (r : SuspectResponse) : Kept s (iceNotice x y r t) := by
  unfold Machine.iceNotice
  repeat' split
  all_goals simp [h]

@[simp] theorem Kept.setIceState (h : Kept s t) (y : IceState) : Kept s (setIceState y t) := by
  unfold Machine.setIceState
  split
  · exact h
  · exact ((h.modIce _ rfl rfl).iceNotice _ _ _).setIceEval _
theorem Kept.watchIceState (h : Kept s t) {u : State} (k : watchIceState t = some u) : Kept s u := by
  unfold Machine.watchIceState at k
  repeat' split at k
  all_goals cases k
  all_goals simp (maxDischargeDepth := 40) [h]
theorem Kept.watchDwell (h : Kept s t) {u : State} (k : watchDwell t = some u) : Kept s u := by
  unfold Machine.watchDwell at k
  repeat' split at k
  all_goals cases k
  all_goals exact h.modIce _ rfl rfl

@[simp] theorem Kept.setHeater (h : Kept s t) (p : Pan) (x : HeaterOut) : Kept s (setHeater p x t) := by
  exact h.modIce _ rfl rfl
theorem Kept.watchHeater (h : Kept s t) (p : Pan) {u : State} (k : watchHeater p t = some u) : Kept s u := by
  unfold Machine.watchHeater at k
  repeat' split at k
  all_goals cases k
  all_goals simp (maxDischargeDepth := 40) [h]
theorem Kept.watchNoPan (h : Kept s t) {u : State} (k : watchNoPan t = some u) : Kept s u := by
  unfold Machine.watchNoPan at k
  repeat' split at k
  all_goals cases k
  all_goals exact (h.modIce _ rfl rfl).notice _

@[simp] theorem Kept.setProc (h : Kept s t) (x : Scrape) : Kept s (setProc x t) := by
  exact h.modIce _ rfl rfl

@[simp] theorem Kept.scrapeRaise (h : Kept s t) (p : Pan) : Kept s (scrapeRaise p t) := by
  unfold Machine.scrapeRaise
  have k := h.requestRaise p .scrape .ice
  revert k
  generalize Machine.requestRaise p .scrape .ice t = r
  obtain ⟨u, a⟩ := r
  intro k
  cases a <;> simp (maxDischargeDepth := 40) [k]

@[simp] theorem Kept.scrapeDisconnect (h : Kept s t) (p : Pan) : Kept s (scrapeDisconnect p t) := by
  unfold Machine.scrapeDisconnect
  have k := h.requestDisc p .disconnected .ice
  revert k
  generalize Machine.requestDisc p .disconnected .ice t = r
  obtain ⟨u, a⟩ := r
  intro k
  cases a <;> simp (maxDischargeDepth := 40) [k]

@[simp] theorem Kept.scrapeStart (h : Kept s t) (p : Pan) : Kept s (scrapeStart p t) := by
  unfold Machine.scrapeStart
  repeat' split
  all_goals simp (maxDischargeDepth := 40) [h]

@[simp] theorem Kept.scrapeEvaluate (h : Kept s t) : Kept s (scrapeEvaluate t) := by
  unfold Machine.scrapeEvaluate
  repeat' split
  all_goals simp (maxDischargeDepth := 40) [h]
theorem Kept.watchScrape (h : Kept s t) {u : State} (k : watchScrape t = some u) : Kept s u := by
  unfold Machine.watchScrape at k
  repeat' split at k
  all_goals cases k
  all_goals simp (maxDischargeDepth := 40) [h]

@[simp] theorem Kept.scrapeStop (h : Kept s t) : Kept s (scrapeStop t) := by
  have k := fun p => h.requestLower p .ice
  unfold Machine.scrapeStop
  repeat' split
  all_goals first
    | exact h
    | exact h.setProc _
    | rename_i p _ _ _ _ heq
      have j := k p
      rw [heq] at j
      simp [j]
    | rename_i p _ _ _ heq
      have j := k p
      rw [heq] at j
      simp [j]
theorem Kept.watchProc (h : Kept s t) {u : State} (k : watchProc t = some u) : Kept s u := by
  unfold Machine.watchProc at k
  repeat' split at k
  all_goals cases k
  all_goals simp (maxDischargeDepth := 40) [h]

@[simp] theorem Kept.iceOpEnded (h : Kept s t) (p : Pan) (op : Op) (out : OpOutcome) :
    Kept s (iceOpEnded p op out t) := by
  unfold Machine.iceOpEnded
  repeat' split
  all_goals simp (maxDischargeDepth := 40) [h]

@[simp] theorem Kept.iceFault (h : Kept s t) (k : FaultKind) (p : Pan) : Kept s (iceFault k p t) := by
  unfold Machine.iceFault
  repeat' split
  all_goals first
    | exact h
    | exact (h.modIce _ rfl rfl).notice _
    | exact h.modIce _ rfl rfl

@[simp] theorem Kept.iceReport (h : Kept s t) (r : Report) : Kept s (iceReport r t) := by
  unfold Machine.iceReport
  repeat' split
  all_goals simp (maxDischargeDepth := 40) [h]
/-! ### The authority -/

@[simp] theorem Kept.changeAuth (h : Kept s t) (f : Authority → Authority) : Kept s (changeAuth f t) := by
  exact (h.modAuth f).notice _

@[simp] theorem Kept.superviseFrame (h : Kept s t) (l : Link) : Kept s (superviseFrame l t) := by
  unfold Machine.superviseFrame
  repeat' split
  all_goals simp (maxDischargeDepth := 40) [h]

@[simp] theorem Kept.oweChange (h : Kept s t) (c : OwedCause) : Kept s (oweChange c t) := by
  exact h.changeAuth _
/-- An update of TRV's settings and direction state that keeps the bounds of the runs. -/
theorem kept_modTrv (f : Travel → Travel) (h1 : (f t.trv).still = t.trv.still)
    (h2 : t.trv.fwdRun ≤ Config.runMax ∧ t.trv.revRun ≤ Config.runMax →
      (f t.trv).fwdRun ≤ Config.runMax ∧ (f t.trv).revRun ≤ Config.runMax) : Kept t (t.modTrv f) where
  still := by simp [State.still, h1]
  fault := fun _ h => h
  spans := fun _ => List.Sublist.refl _
  rings := id
  forces := id
  runs := h2
  limits := id
  tx := fun _ => List.prefix_rfl
  safe := id

@[simp] theorem Kept.recomputeOffsets (h : Kept s t) : Kept s (recomputeOffsets t) := h.trans (kept_modTrv _ rfl id)

@[simp] theorem Kept.travelLeadingEnd (h : Kept s t) : Kept s (travelLeadingEnd t) := by
  have k := (h.trans (kept_modTrv (t := t) (fun x => { x with revRun := 0, fwdRun := 0, direction := .normal }) rfl
    fun _ => by simp)).recomputeOffsets
  unfold Machine.travelLeadingEnd
  dsimp only
  split
  · exact k.notice _
  · exact k

@[simp] theorem Kept.leadingEndChange (h : Kept s t) (l : Link) : Kept s (leadingEndChange l t) := by
  unfold Machine.leadingEndChange
  repeat' split
  all_goals simp (maxDischargeDepth := 40) [h]

@[simp] theorem Kept.makeChange (h : Kept s t) (c : ChangeCause) : Kept s (makeChange c t) := by
  unfold Machine.makeChange
  dsimp only
  repeat' split
  all_goals simp (maxDischargeDepth := 40) [h]

@[simp] theorem Kept.withdraw (h : Kept s t) (l : Link) : Kept s (withdraw l t) := by
  unfold Machine.withdraw
  dsimp only
  repeat' split
  all_goals simp (maxDischargeDepth := 40) [h]

@[simp] theorem Kept.authRequest (h : Kept s t) (l : Link) : Kept s ((authRequest l t).1) := by
  unfold Machine.authRequest
  dsimp only
  repeat' split
  all_goals simp (maxDischargeDepth := 40) [h]

@[simp] theorem Kept.authRelease (h : Kept s t) (l : Link) : Kept s ((authRelease l t).1) := by
  unfold Machine.authRelease
  dsimp only
  repeat' split
  all_goals simp (maxDischargeDepth := 40) [h]

@[simp] theorem Kept.authLinkReset (h : Kept s t) (l : Link) : Kept s (authLinkReset l t) := by
  unfold Machine.authLinkReset
  dsimp only
  repeat' split
  all_goals simp (maxDischargeDepth := 40) [h]

@[simp] theorem Kept.park (h : Kept s t) (c : Cmd) (tag : Byte) : Kept s ((park c tag t).1) := by
  unfold Machine.park
  repeat' split
  all_goals simp (maxDischargeDepth := 40) [h]
/-! ### The authority class -/

@[simp] theorem Kept.cmdSetFormation (h : Kept s t) (fA fB : Nat) : Kept s (cmdSetFormation fA fB t).1 := by
  unfold Machine.cmdSetFormation
  repeat' split
  all_goals first | exact h | exact (h.trans (kept_modTrv _ rfl id)).recomputeOffsets

@[simp] theorem Kept.cmdRaise (h : Kept s t) (l : Link) (p r : Nat) : Kept s ((cmdRaise l p r t).1) := by
  unfold Machine.cmdRaise
  repeat' split
  all_goals simp (maxDischargeDepth := 40) [h]

@[simp] theorem Kept.cmdLower (h : Kept s t) (l : Link) (p : Nat) : Kept s ((cmdLower l p t).1) := by
  unfold Machine.cmdLower
  repeat' split
  all_goals simp (maxDischargeDepth := 40) [h]

@[simp] theorem Kept.cmdDiscSet (h : Kept s t) (l : Link) (p q : Nat) : Kept s ((cmdDiscSet l p q t).1) := by
  unfold Machine.cmdDiscSet
  repeat' split
  all_goals simp (maxDischargeDepth := 40) [h]

@[simp] theorem Kept.cmdAddReset (h : Kept s t) (p : Nat) : Kept s ((cmdAddReset p t).1) := by
  unfold Machine.cmdAddReset
  repeat' split
  all_goals simp (maxDischargeDepth := 40) [h]

@[simp] theorem Kept.cmdBreakerClose (h : Kept s t) (l : Link) : Kept s ((cmdBreakerClose l t).1) := by
  unfold Machine.cmdBreakerClose
  repeat' split
  all_goals first
    | exact h
    | next e _ => exact (h.closeRequest e).setTraction
    | next e _ => exact (h.closeRequest e).setTraction.startLong _ _

@[simp] theorem Kept.cmdBreakerOpen (h : Kept s t) (l : Link) : Kept s ((cmdBreakerOpen l t).1) := by
  unfold Machine.cmdBreakerOpen
  repeat' split
  all_goals simp (maxDischargeDepth := 40) [h]

@[simp] theorem Kept.cmdSelect (h : Kept s t) (l : Link) (p : Nat) : Kept s ((cmdSelect l p t).1) := by
  have k := fun q => h.requestMove q (.authority l)
  unfold Machine.cmdSelect
  repeat' split
  all_goals first
    | exact h
    | rename_i q _ _ _ heq
      have j := k q
      rw [heq] at j
      simp [j]

@[simp] theorem Kept.takeIceMode (h : Kept s t) (e : Bool) (u : SuspectResponse) (c : ConfirmedResponse) (p : Bool) : Kept s (takeIceMode e u c p t) := by
  unfold Machine.takeIceMode
  have k := (h.modIce (fun i => { i with susResp := u, confResp := c, permit := p, failedSet := .all false })
    rfl rfl).setIceEval true
  dsimp only
  split <;> simp [k]

@[simp] theorem Kept.cmdIceMode (h : Kept s t) (e u c p : Nat) : Kept s ((cmdIceMode e u c p t).1) := by
  unfold Machine.cmdIceMode
  repeat' split
  all_goals simp (maxDischargeDepth := 40) [h]

@[simp] theorem Kept.cmdHeat (h : Kept s t) (p x : Nat) : Kept s ((cmdHeat p x t).1) := by
  unfold Machine.cmdHeat
  repeat' split
  all_goals dsimp only
  all_goals first | exact h | exact h.modIce _ rfl rfl

@[simp] theorem Kept.runAuthority (h : Kept s t) (l : Link) (c : Cmd) : Kept s ((runAuthority l c t).1) := by
  unfold Machine.runAuthority
  repeat' split
  all_goals simp (maxDischargeDepth := 40) [h]
/-! ### Reactions -/

@[simp] theorem Kept.runParked (h : Kept s t) : Kept s (runParked t) := by
  unfold Machine.runParked
  dsimp only
  repeat' split
  all_goals simp (maxDischargeDepth := 40) [h]
theorem Kept.watchDemand (h : Kept s t) {u : State} (k : watchDemand t = some u) : Kept s u := by
  unfold Machine.watchDemand at k
  repeat' split at k
  all_goals cases k
  all_goals simp (maxDischargeDepth := 40) [h]
theorem Kept.watchLowerAll (h : Kept s t) {u : State} (k : watchLowerAll t = some u) : Kept s u := by
  unfold Machine.watchLowerAll at k
  repeat' split at k
  all_goals cases k
  all_goals simp (maxDischargeDepth := 40) [h]
theorem Kept.watchSync (h : Kept s t) {u : State} (k : watchSync t = some u) : Kept s u := by
  unfold Machine.watchSync at k
  repeat' split at k
  all_goals cases k
  all_goals simp (maxDischargeDepth := 40) [h]
theorem firstAction_mem {ws : List (State → Option State)} {u : State} (h : firstAction ws t = some u) :
    ∃ w ∈ ws, w t = some u := by
  induction ws with
  | nil => cases h
  | cons w rest ih =>
    unfold firstAction at h
    split at h
    · next e =>
      cases h
      exact ⟨w, by simp, e⟩
    · obtain ⟨x, hx, e⟩ := ih h
      exact ⟨x, by simp [hx], e⟩

/-- Watchers that keep what reactions keep. -/
def Keeping (ws : List (State → Option State)) : Prop := ∀ w ∈ ws, ∀ t u, w t = some u → Kept t u

theorem Keeping.append {ws xs : List (State → Option State)} (h : Keeping ws) (k : Keeping xs) : Keeping (ws ++ xs) :=
  fun w hw => (List.mem_append.1 hw).elim (h w) (k w)

theorem Keeping.react {ws : List (State → Option State)} (h : Keeping ws) {u : State} (k : reactWith ws t = some u) :
    Kept t u := by
  unfold reactWith at k
  split at k
  · cases k
    simp (maxDischargeDepth := 40)
  · obtain ⟨w, hw, e⟩ := firstAction_mem k
    exact h w hw t u e

/-- Reactions over watchers that keep what reactions keep. -/
theorem Keeping.reactLoop {ws : List (State → Option State)} (h : Keeping ws) (k : Kept s t) (n : Nat) :
    Kept s (reactLoop ws n t) := by
  induction n generalizing t with
  | zero => exact k
  | succ n ih =>
    unfold Machine.reactLoop
    split
    · next e => exact ih (k.trans (h.react e))
    · exact k

theorem iceWatchers_keep : Keeping iceWatchers := by
  intro w hw t u hu
  have r := Kept.refl t
  simp only [iceWatchers, Pan.all, List.map_cons, List.map_nil, List.cons_append, List.nil_append, List.mem_cons,
    List.not_mem_nil, or_false] at hw
  rcases hw with e | e | e | e | e | e | e | e | e <;> subst e
  · exact r.watchIceState hu
  · exact r.watchDwell hu
  · exact r.watchProc hu
  · exact r.watchNoPan hu
  · exact r.watchScrape hu
  all_goals exact r.watchHeater _ hu

theorem Kept.watchAuthority (h : Kept s t) {u : State} (k : watchAuthority t = some u) : Kept s u := by
  unfold Machine.watchAuthority at k
  split at k
  · cases k
    exact (iceWatchers_keep.reactLoop (h.makeChange _) _).runParked
  · cases k

/-- Every watcher keeps what reactions keep. -/
theorem watchers_keep : Keeping watchers := by
  have h1 : Keeping ([watchDemand, watchPermit, watchMove] ++ Pan.all.map watchLowerWait ++ Pan.all.map watchRaiseWait
      ++ [watchStaging, watchStage, watchActivation, watchAuthority]) := by
    intro w hw t u hu
    have r := Kept.refl t
    simp only [Pan.all, List.map_cons, List.map_nil, List.cons_append, List.nil_append, List.mem_cons,
      List.not_mem_nil, or_false] at hw
    rcases hw with e | e | e | e | e | e | e | e | e | e | e | e | e | e | e <;> subst e
    · exact r.watchDemand hu
    · exact r.watchPermit hu
    · exact r.watchMove hu
    · exact r.watchLowerWait _ hu
    · exact r.watchLowerWait _ hu
    · exact r.watchLowerWait _ hu
    · exact r.watchLowerWait _ hu
    · exact r.watchRaiseWait _ hu
    · exact r.watchRaiseWait _ hu
    · exact r.watchRaiseWait _ hu
    · exact r.watchRaiseWait _ hu
    · exact r.watchStaging hu
    · exact r.watchStage hu
    · exact r.watchActivation hu
    · exact r.watchAuthority hu
  refine (h1.append iceWatchers_keep).append ?_
  intro w hw t u hu
  have r := Kept.refl t
  simp only [List.mem_cons, List.not_mem_nil, or_false] at hw
  rcases hw with e | e | e | e <;> subst e
  · exact r.watchLineLost hu
  · exact r.watchReclose hu
  · exact r.watchLowerAll hu
  · exact r.watchSync hu

/-- The reactions to an event keep what `Kept` says. -/
@[simp] theorem Kept.settle (h : Kept s t) : Kept s (settle t) := (watchers_keep.reactLoop h _).attend

/-- Reactions leave `State.still` as it stands. -/
@[simp] theorem settle_still (s : State) : (settle s).still = s.still := (Kept.refl s).settle.still

end Sys2Proof.Machine
end

