-- ==== Sys2Proof/Laws/Links.lean ====
section
/-! SUPPORT. What notices, attention, the receive queue and the taking of commands do to a link, and that a command row
offers its command. -/

namespace Sys2Proof.Machine

variable {s t : State}

/-! ### Notices and attention (R198) -/

@[simp] theorem noticeOn_get (l k : Link) (c : Notice) :
    (noticeOn l c s).lnk.get k = if k = l then (s.lnk.get l).raise c else s.lnk.get k := by
  rw [noticeOn, State.modPort_lnk, PerLink.get_set]

/-- A cause raised on all three links joins each pending set, and nothing else changes. -/
theorem notice_get (c : Notice) (l : Link) : (notice c s).lnk.get l = (s.lnk.get l).raise c := by
  cases l <;> rfl

/-- A cause raised on the links other than the sender. -/
theorem noticeOthers_get (sender l : Link) (c : Notice) :
    (noticeOthers sender c s).lnk.get l = if l = sender then s.lnk.get l else (s.lnk.get l).raise c := by
  cases sender <;> cases l <;> rfl

/-- A link brought to its attention: its frame behind those handed before (R198). -/
def Port.attended (q : Port) : Port :=
  if q.wantsAttention = q.attention then q
  else { q with attention := q.wantsAttention, tx := q.tx ++ [.attention q.wantsAttention] }

theorem attendLink_get (l k : Link) :
    (attendLink l s).lnk.get k = if k = l then (s.lnk.get l).attended else s.lnk.get k := by
  unfold attendLink Port.attended
  dsimp only
  split
  · split
    · next e => rw [e]
    · rfl
  · rw [hand, State.modPort_lnk, State.modPort_lnk, PerLink.set_set, PerLink.get_set]
    simp

/-- What attention does to a link. -/
theorem attend_get (l : Link) : (attend s).lnk.get l = (s.lnk.get l).attended := by
  unfold attend forLinks
  simp only [attendLink_get]
  cases l <;> simp

/-- Bringing attention up to date makes it agree with the notice sets. -/
theorem attended_agrees (q : Port) : q.attended.attention = q.attended.wantsAttention := by
  unfold Port.attended
  split
  · next h => exact h.symm
  · rfl

/-- Attention agrees on every link after it is brought up to date. -/
theorem attend_attended : (attend s).Attended := fun l => by
  rw [attend_get]
  exact attended_agrees _

theorem settle_attended : (settle s).Attended := attend_attended

/-- A state whose attention agrees is not changed by bringing attention up to date. -/
theorem attend_of_attended (h : s.Attended) : attend s = s := by
  have k : ∀ l t, t.Attended → attendLink l t = t := fun l t ht => by
    unfold attendLink
    simp [(ht l).symm]
  unfold attend forLinks
  rw [k .a s h, k .b s h, k .m s h]

theorem attendLink_rest (l : Link) : { attendLink l s with lnk := s.lnk } = s := by
  unfold attendLink
  dsimp only
  split <;> rfl

/-- Attention changes the links alone. -/
theorem attend_rest : { attend s with lnk := s.lnk } = s := by
  have h : ∀ l (t : State), { attendLink l t with lnk := s.lnk } = { t with lnk := s.lnk } := fun l t => by
    have := congrArg (fun u : State => { u with lnk := s.lnk }) (attendLink_rest (s := t) l)
    exact this
  unfold attend forLinks
  rw [h, h, h]

/-- With nothing to react to, an event's reactions are its attention alone. -/
theorem settle_of_calm (h : react s = none) : settle s = attend s := by
  unfold settle reactBound reactLoop
  unfold react at h
  rw [h]

/-! ### Supervision (R164) -/

@[simp] theorem superviseFrame_lnk (l : Link) : (superviseFrame l s).lnk = s.lnk := by
  unfold superviseFrame
  split <;> rfl

theorem superviseFrame_auth (l : Link) : superviseFrame l s = { s with auth := (superviseFrame l s).auth } := by
  unfold superviseFrame
  split <;> rfl

@[simp] theorem superviseFrame_still (l : Link) : (superviseFrame l s).still = s.still :=
  ((Kept.refl s).superviseFrame l).still

/-! ### The receive queue (R180, R181) -/

/-- A row that offers a command does what the offer does. -/
theorem exec_offered {i : Instr} {l : Link} {tag : Byte} {c : Cmd} (h : i.offered = some (l, tag, c)) :
    exec i s = .next (offer l tag c s) := by
  cases i <;> cases h <;> rfl

/-- A frame that meets a full queue (R180). -/
theorem offer_full {l : Link} (h : Config.queueLength ≤ (s.lnk.get l).queue.length) (tag : Byte) (c : Cmd) :
    offer l tag c s = attend (overrunFrame l tag c (superviseFrame l s)) := by
  unfold offer
  simp [h]

/-- A link that cannot take leaves its queue as it stands. -/
theorem takeNext_of_waiting {l : Link} (h : (s.lnk.get l).canTake = false) : takeNext l s = s := by
  unfold takeNext
  split <;> simp [h]

/-- A frame that a busy link queues (R180, R181). -/
theorem offer_queued {l : Link} (h : (s.lnk.get l).queue.length < Config.queueLength)
    (k : (s.lnk.get l).canTake = false) (tag : Byte) (c : Cmd) :
    offer l tag c s =
      (superviseFrame l s).modPort l fun q => { q with queue := q.queue ++ [⟨tag, c⟩] } := by
  unfold offer
  have h' : ¬ Config.queueLength ≤ (s.lnk.get l).queue.length := by omega
  simp only [h', if_false]
  apply takeNext_of_waiting
  rw [State.modPort_lnk, PerLink.get_set_same, superviseFrame_lnk]
  exact k

/-- A link that can take takes the command at the event that offers it (R181). -/
theorem offer_free {l : Link} (h : s.free l) (tag : Byte) (c : Cmd) :
    offer l tag c s = takeCmd l tag c (superviseFrame l s) := by
  obtain ⟨h1, h2⟩ := h
  have e : ¬ Config.queueLength ≤ (s.lnk.get l).queue.length := by simp [h1, Config.queueLength]
  unfold offer
  simp only [e, if_false]
  have k : ((superviseFrame l s).modPort l fun q => { q with queue := q.queue ++ [⟨tag, c⟩] }).lnk.get l =
      { s.lnk.get l with queue := [⟨tag, c⟩] } := by
    rw [State.modPort_lnk, PerLink.get_set_same, superviseFrame_lnk, h1]
    rfl
  unfold takeNext
  rw [k]
  have h3 : Port.canTake { s.lnk.get l with queue := [⟨tag, c⟩] } = true := h2
  simp only [h3, if_true]
  congr 1
  have q : ((superviseFrame l s).modPort l fun q => { q with queue := q.queue ++ [⟨tag, c⟩] }).modPort l
      (fun q => { q with queue := [] }) = (superviseFrame l s).modPort l fun q => { q with queue := [] } := by
    simp only [State.modPort, PerLink.set_set, PerLink.get_set_same]
  rw [q]
  simp only [State.modPort, superviseFrame_lnk]
  have z : ({ s.lnk.get l with queue := [] } : Port) = s.lnk.get l := by rw [← h1]
  rw [z, PerLink.set_get, superviseFrame_auth]

/-- A command row whose link is free takes its command at once. -/
theorem exec_free {i : Instr} {l : Link} {tag : Byte} {c : Cmd} (h : i.offered = some (l, tag, c)) (k : s.free l) :
    exec i s = .next (takeCmd l tag c (superviseFrame l s)) := by
  rw [exec_offered h, offer_free k]

/-! ### The receiver (R175, R178) -/

/-- A byte as a sender makes it is received without error. -/
theorem wellReceived_sentTail (b : Byte) : wellReceived b (sentTail b) = true := by
  simp [wellReceived, sentTail, parityError, framingError]

/-- A line held in a recognised break brings no byte. -/
theorem takeByte_of_inBreak {l : Link} {b : Byte} {x : ByteTail} (h : (s.lnk.get l).inBreak = true) :
    takeByte l b x s = s := by simp [takeByte, h]

theorem takeByte_of_good {l : Link} {b : Byte} {x : ByteTail} (h : (s.lnk.get l).inBreak = false)
    (k : wellReceived b x = true) : takeByte l b x s = goodByte l b (lineAt l x.stop s) := by
  simp [takeByte, h, k]

theorem takeByte_of_bad {l : Link} {b : Byte} {x : ByteTail} (h : (s.lnk.get l).inBreak = false)
    (k : wellReceived b x = false) : takeByte l b x s = badByte l (lineAt l x.stop s) := by
  simp [takeByte, h, k]

/-- The line's level leaves the receiver. -/
@[simp] theorem lineAt_rx (l : Link) (x : Level) : ((lineAt l x s).lnk.get l).rx = (s.lnk.get l).rx := by
  simp [lineAt]

/-- A byte that leaves the line at a level and changes its link. -/
theorem lineAt_modPort (l : Link) (x : Level) (f : Port → Port) : (lineAt l x s).modPort l f = s.hears l x f := by
  simp only [lineAt, State.hears, State.modPort, State.modLines, PerLink.set_set, PerLink.get_set_same, State.now]

/-! ### Taking and answering (R181, R182) -/

theorem recordTaken_some {l : Link} {c : Cmd} {st : Status} {bytes : List Byte} (h : st ≠ .illegalSequence) :
    recordTaken l c (some (st, bytes)) s = s.modPort l fun q => { q with lastTaken := some c.code } := by
  cases st <;> first | rfl | exact absurd rfl h

/-- A command with an answer is recorded and answered, and its reactions follow. -/
theorem takeCmd_answered {l : Link} {tag : Byte} {c : Cmd} {u : State} {st : Status} {bytes : List Byte}
    (h : runCmd l tag c s = (u, some (st, bytes))) (k : st ≠ .illegalSequence) :
    takeCmd l tag c s = follow c (some (st, bytes)) (u.answered l tag c.code st bytes) := by
  unfold takeCmd
  rw [h]
  dsimp only
  rw [recordTaken_some k]
  congr 1
  simp only [handAnswer, hand, State.answered, State.modPort, PerLink.set_set, PerLink.get_set_same]

end Sys2Proof.Machine
end

