-- ==== Sys2Proof/Laws/PerInstr.lean ====
section
/-! SUPPORT. Laws of the rows of the opcode table as syntax, one for each constructor. -/

namespace Sys2Proof.Laws

/-- A command row offers the command that it carries, an event row offers none, and the frame of a row's command is no
longer than a length byte allows (R176, R178, R180). -/
def Encoding.Statement (i : Instr) : Prop :=
  i.offered.map (·.2.2) = i.cmd ∧ ∀ c ∈ i.cmd, 2 + c.operands.length ≤ Config.lengthMax

/-- The law of a row, where the frame of its command is short enough. -/
theorem Encoding.of_short {i : Instr} (h : i.offered.map (·.2.2) = i.cmd)
    (k : (i.cmd.all fun c => decide (2 + c.operands.length ≤ Config.lengthMax)) = true) : Encoding.Statement i :=
  ⟨h, fun c hc => by
    rw [Option.mem_def.1 hc] at k
    exact of_decide_eq_true k⟩

theorem Encoding.powerOn : Encoding.Statement (.powerOn) := Encoding.of_short rfl rfl
theorem Encoding.nop (l : Link) (tag : Byte) : Encoding.Statement (.nop l tag) := Encoding.of_short rfl rfl
theorem Encoding.linkStatus (l : Link) (tag : Byte) : Encoding.Statement (.linkStatus l tag) :=
  Encoding.of_short rfl rfl
theorem Encoding.sync (l : Link) (tag : Byte) : Encoding.Statement (.sync l tag) := Encoding.of_short rfl rfl
theorem Encoding.travelRead (l : Link) (tag : Byte) : Encoding.Statement (.travelRead l tag) :=
  Encoding.of_short rfl rfl
theorem Encoding.positionFix (l : Link) (tag : Byte) (m : Nat) : Encoding.Statement (.positionFix l tag m) :=
  Encoding.of_short rfl rfl
theorem Encoding.setFormation (l : Link) (tag : Byte) (fA fB : Nat) : Encoding.Statement (.setFormation l tag fA fB) :=
  Encoding.of_short rfl rfl
theorem Encoding.lineRead (l : Link) (tag : Byte) : Encoding.Statement (.lineRead l tag) := Encoding.of_short rfl rfl
theorem Encoding.raise (l : Link) (tag : Byte) (pan role : Nat) : Encoding.Statement (.raise l tag pan role) :=
  Encoding.of_short rfl rfl
theorem Encoding.lower (l : Link) (tag : Byte) (pan : Nat) : Encoding.Statement (.lower l tag pan) :=
  Encoding.of_short rfl rfl
theorem Encoding.discSet (l : Link) (tag : Byte) (pan pos : Nat) : Encoding.Statement (.discSet l tag pan pos) :=
  Encoding.of_short rfl rfl
theorem Encoding.addReset (l : Link) (tag : Byte) (pan : Nat) : Encoding.Statement (.addReset l tag pan) :=
  Encoding.of_short rfl rfl
theorem Encoding.isolate (l : Link) (tag : Byte) (pan : Nat) : Encoding.Statement (.isolate l tag pan) :=
  Encoding.of_short rfl rfl
theorem Encoding.restore (l : Link) (tag : Byte) (pan : Nat) : Encoding.Statement (.restore l tag pan) :=
  Encoding.of_short rfl rfl
theorem Encoding.panRead (l : Link) (tag : Byte) (pan : Nat) : Encoding.Statement (.panRead l tag pan) :=
  Encoding.of_short rfl rfl
theorem Encoding.forceTableWrite (l : Link) (tag : Byte) (cls point force : Nat) :
    Encoding.Statement (.forceTableWrite l tag cls point force) :=
  Encoding.of_short rfl rfl
theorem Encoding.forceTableWriteNext (l : Link) (tag : Byte) (force : Nat) :
    Encoding.Statement (.forceTableWriteNext l tag force) :=
  Encoding.of_short rfl rfl
theorem Encoding.forceTableRead (l : Link) (tag : Byte) (cls point : Nat) :
    Encoding.Statement (.forceTableRead l tag cls point) :=
  Encoding.of_short rfl rfl
theorem Encoding.forceTableReadNext (l : Link) (tag : Byte) : Encoding.Statement (.forceTableReadNext l tag) :=
  Encoding.of_short rfl rfl
theorem Encoding.forceRead (l : Link) (tag : Byte) (pan : Nat) : Encoding.Statement (.forceRead l tag pan) :=
  Encoding.of_short rfl rfl
theorem Encoding.breakerClose (l : Link) (tag : Byte) : Encoding.Statement (.breakerClose l tag) :=
  Encoding.of_short rfl rfl
theorem Encoding.breakerOpen (l : Link) (tag : Byte) : Encoding.Statement (.breakerOpen l tag) :=
  Encoding.of_short rfl rfl
theorem Encoding.select (l : Link) (tag : Byte) (pos : Nat) : Encoding.Statement (.select l tag pos) :=
  Encoding.of_short rfl rfl
theorem Encoding.earthPermit (l : Link) (tag : Byte) (op : Nat) : Encoding.Statement (.earthPermit l tag op) :=
  Encoding.of_short rfl rfl
theorem Encoding.breakerRead (l : Link) (tag : Byte) : Encoding.Statement (.breakerRead l tag) :=
  Encoding.of_short rfl rfl
theorem Encoding.mapInsert (l : Link) (tag : Byte) (kind start length systemAfter swap panLimit : Nat) :
    Encoding.Statement (.mapInsert l tag kind start length systemAfter swap panLimit) :=
  Encoding.of_short rfl rfl
theorem Encoding.mapDelete (l : Link) (tag : Byte) (id : Nat) : Encoding.Statement (.mapDelete l tag id) :=
  Encoding.of_short rfl rfl
theorem Encoding.mapRead (l : Link) (tag : Byte) (index : Nat) : Encoding.Statement (.mapRead l tag index) :=
  Encoding.of_short rfl rfl
theorem Encoding.mapReadNext (l : Link) (tag : Byte) : Encoding.Statement (.mapReadNext l tag) :=
  Encoding.of_short rfl rfl
theorem Encoding.mapStatus (l : Link) (tag : Byte) : Encoding.Statement (.mapStatus l tag) := Encoding.of_short rfl rfl
theorem Encoding.roofReset (l : Link) (tag : Byte) : Encoding.Statement (.roofReset l tag) := Encoding.of_short rfl rfl
theorem Encoding.seqRead (l : Link) (tag : Byte) : Encoding.Statement (.seqRead l tag) := Encoding.of_short rfl rfl
theorem Encoding.iceMode (l : Link) (tag : Byte) (enable suspect confirmed permit : Nat) :
    Encoding.Statement (.iceMode l tag enable suspect confirmed permit) :=
  Encoding.of_short rfl rfl
theorem Encoding.heat (l : Link) (tag : Byte) (pan op : Nat) : Encoding.Statement (.heat l tag pan op) :=
  Encoding.of_short rfl rfl
theorem Encoding.iceWeather (l : Link) (tag : Byte) (op : Nat) : Encoding.Statement (.iceWeather l tag op) :=
  Encoding.of_short rfl rfl
theorem Encoding.iceRead (l : Link) (tag : Byte) : Encoding.Statement (.iceRead l tag) := Encoding.of_short rfl rfl
theorem Encoding.authRequest (l : Link) (tag : Byte) : Encoding.Statement (.authRequest l tag) :=
  Encoding.of_short rfl rfl
theorem Encoding.authRelease (l : Link) (tag : Byte) : Encoding.Statement (.authRelease l tag) :=
  Encoding.of_short rfl rfl
theorem Encoding.authRead (l : Link) (tag : Byte) : Encoding.Statement (.authRead l tag) := Encoding.of_short rfl rfl
theorem Encoding.lowerAll (l : Link) (tag : Byte) : Encoding.Statement (.lowerAll l tag) := Encoding.of_short rfl rfl
theorem Encoding.configWrite (l : Link) (tag : Byte) (item index value : Nat) :
    Encoding.Statement (.configWrite l tag item index value) :=
  Encoding.of_short rfl rfl
theorem Encoding.configRead (l : Link) (tag : Byte) (item index : Nat) :
    Encoding.Statement (.configRead l tag item index) :=
  Encoding.of_short rfl rfl
theorem Encoding.configCommit (l : Link) (tag : Byte) : Encoding.Statement (.configCommit l tag) :=
  Encoding.of_short rfl rfl
theorem Encoding.configReopen (l : Link) (tag : Byte) : Encoding.Statement (.configReopen l tag) :=
  Encoding.of_short rfl rfl
theorem Encoding.noticeRead (l : Link) (tag : Byte) : Encoding.Statement (.noticeRead l tag) :=
  Encoding.of_short rfl rfl
theorem Encoding.noticeClear (l : Link) (tag : Byte) (causes : BitVec 16) :
    Encoding.Statement (.noticeClear l tag causes) :=
  Encoding.of_short rfl rfl
theorem Encoding.noticeEnable (l : Link) (tag : Byte) (causes : BitVec 16) :
    Encoding.Statement (.noticeEnable l tag causes) :=
  Encoding.of_short rfl rfl
theorem Encoding.faultRead (l : Link) (tag : Byte) : Encoding.Statement (.faultRead l tag) := Encoding.of_short rfl rfl
theorem Encoding.faultClear (l : Link) (tag : Byte) : Encoding.Statement (.faultClear l tag) :=
  Encoding.of_short rfl rfl
theorem Encoding.unknownCommand (l : Link) (tag : Byte) (code : Byte) :
    Encoding.Statement (.unknownCommand l tag code) :=
  Encoding.of_short rfl rfl
theorem Encoding.frameComplete (l : Link) (byte : Byte) : Encoding.Statement (.frameComplete l byte) :=
  Encoding.of_short rfl rfl
theorem Encoding.faultyByte (l : Link) (byte : Byte) (tail : ByteTail) : Encoding.Statement (.faultyByte l byte tail) :=
  Encoding.of_short rfl rfl
theorem Encoding.frameGapTimeout (l : Link) : Encoding.Statement (.frameGapTimeout l) := Encoding.of_short rfl rfl
theorem Encoding.receiverIdle (l : Link) : Encoding.Statement (.receiverIdle l) := Encoding.of_short rfl rfl
theorem Encoding.responseSent (l : Link) : Encoding.Statement (.responseSent l) := Encoding.of_short rfl rfl
theorem Encoding.linkReset (l : Link) : Encoding.Statement (.linkReset l) := Encoding.of_short rfl rfl
theorem Encoding.breakEnd (l : Link) : Encoding.Statement (.breakEnd l) := Encoding.of_short rfl rfl
theorem Encoding.holdOffEnd (l : Link) : Encoding.Statement (.holdOffEnd l) := Encoding.of_short rfl rfl
theorem Encoding.travelPulse (dir : TravelDir) (x : PulseLine) : Encoding.Statement (.travelPulse dir x) :=
  Encoding.of_short rfl rfl
theorem Encoding.speedIntervalEnd : Encoding.Statement (.speedIntervalEnd) := Encoding.of_short rfl rfl
theorem Encoding.lineSample (x : BitVec 16) : Encoding.Statement (.lineSample x) := Encoding.of_short rfl rfl
theorem Encoding.sampleLoss : Encoding.Statement (.sampleLoss) := Encoding.of_short rfl rfl
theorem Encoding.contactSenseChange (p : Pan) (active : Bool) : Encoding.Statement (.contactSenseChange p active) :=
  Encoding.of_short rfl rfl
theorem Encoding.loweredLimitChange (p : Pan) (active : Bool) : Encoding.Statement (.loweredLimitChange p active) :=
  Encoding.of_short rfl rfl
theorem Encoding.pressureSample (p : Pan) (kPa : Int) : Encoding.Statement (.pressureSample p kPa) :=
  Encoding.of_short rfl rfl
theorem Encoding.pressureGap (p : Pan) : Encoding.Statement (.pressureGap p) := Encoding.of_short rfl rfl
theorem Encoding.settleComplete (p : Pan) : Encoding.Statement (.settleComplete p) := Encoding.of_short rfl rfl
theorem Encoding.raiseTimeout (p : Pan) : Encoding.Statement (.raiseTimeout p) := Encoding.of_short rfl rfl
theorem Encoding.contactLost (p : Pan) : Encoding.Statement (.contactLost p) := Encoding.of_short rfl rfl
theorem Encoding.lowerTimeout (p : Pan) : Encoding.Statement (.lowerTimeout p) := Encoding.of_short rfl rfl
theorem Encoding.disconnectorFeedback (p : Pan) (reading : Option DiscPos) :
    Encoding.Statement (.disconnectorFeedback p reading) :=
  Encoding.of_short rfl rfl
theorem Encoding.discMoveTimeout (p : Pan) : Encoding.Statement (.discMoveTimeout p) := Encoding.of_short rfl rfl
theorem Encoding.breakerFeedback (reading : BreakerReading) : Encoding.Statement (.breakerFeedback reading) :=
  Encoding.of_short rfl rfl
theorem Encoding.breakerCloseTimeout : Encoding.Statement (.breakerCloseTimeout) := Encoding.of_short rfl rfl
theorem Encoding.breakerOpenTimeout : Encoding.Statement (.breakerOpenTimeout) := Encoding.of_short rfl rfl
theorem Encoding.lineLostWatchExpiry : Encoding.Statement (.lineLostWatchExpiry) := Encoding.of_short rfl rfl
theorem Encoding.autoReclose : Encoding.Statement (.autoReclose) := Encoding.of_short rfl rfl
theorem Encoding.selectorFeedback (reading : Option SelPos) : Encoding.Statement (.selectorFeedback reading) :=
  Encoding.of_short rfl rfl
theorem Encoding.selectorMoveTimeout : Encoding.Statement (.selectorMoveTimeout) := Encoding.of_short rfl rfl
theorem Encoding.earthSwitchFeedback (earthed : Bool) : Encoding.Statement (.earthSwitchFeedback earthed) :=
  Encoding.of_short rfl rfl
theorem Encoding.confirmLimitExpiry : Encoding.Statement (.confirmLimitExpiry) := Encoding.of_short rfl rfl
theorem Encoding.arcPulse (p : Pan) (x : PulseLine) : Encoding.Statement (.arcPulse p x) := Encoding.of_short rfl rfl
theorem Encoding.arcBinEnd : Encoding.Statement (.arcBinEnd) := Encoding.of_short rfl rfl
theorem Encoding.temperatureWord (tenths : Int) : Encoding.Statement (.temperatureWord tenths) :=
  Encoding.of_short rfl rfl
theorem Encoding.tempStale : Encoding.Statement (.tempStale) := Encoding.of_short rfl rfl
theorem Encoding.tempSubstituteSample : Encoding.Statement (.tempSubstituteSample) := Encoding.of_short rfl rfl
theorem Encoding.releaseTimerExpiry : Encoding.Statement (.releaseTimerExpiry) := Encoding.of_short rfl rfl
theorem Encoding.clearDwellExpiry : Encoding.Statement (.clearDwellExpiry) := Encoding.of_short rfl rfl
theorem Encoding.heaterOnTimeLimit (p : Pan) : Encoding.Statement (.heaterOnTimeLimit p) := Encoding.of_short rfl rfl
theorem Encoding.heaterRestEnd (p : Pan) : Encoding.Statement (.heaterRestEnd p) := Encoding.of_short rfl rfl
theorem Encoding.supervisionLapse : Encoding.Statement (.supervisionLapse) := Encoding.of_short rfl rfl
theorem Encoding.byteReceived (l : Link) (byte : Byte) : Encoding.Statement (.byteReceived l byte) :=
  Encoding.of_short rfl rfl

end Sys2Proof.Laws
end

