-- ==== Sys2Proof/Tests/Slice0.lean ====
section
/-! SUPPORT. Tests. Expected values come from the worked examples of the spec, which each comment names, from the rules by
hand, and for the CRCs of frames from a separate computation by R177. `witness_<Name>` shows, for each statement with
hypotheses, a state and operands that meet the hypotheses of each of its clauses. -/

namespace Sys2Proof.Tests

open Sys2Proof Sys2Proof.Machine

-- The tests are checked one after another: each waits for what stands before it, and many waiting at once take much memory.
set_option Elab.async false

/-! ### WellFormed: an ill-formed command for each check -/

theorem test_wf_refuses_wide_operands :
    ([.positionFix 16777216, .setFormation 16777216 0, .setFormation 0 16777216, .raise 256 1, .raise 1 256, .lower 256,
      .discSet 256 1, .discSet 1 256, .addReset 256, .isolate 256, .restore 256, .panRead 256, .forceTableWrite 256 0 40,
      .forceTableWrite 1 256 40, .forceTableWrite 1 0 256, .forceTableWriteNext 256, .forceTableRead 256 0,
      .forceTableRead 1 256, .forceRead 256, .select 256, .earthPermit 256] : List Cmd).all (fun c => !c.wf) = true := by
  decide

theorem test_wf_refuses_wide_operands_more :
    ([.mapInsert 256 0 1 0 0 1, .mapInsert 1 4294967296 1 0 0 1, .mapInsert 1 0 65536 0 0 1, .mapInsert 1 0 1 256 0 1,
      .mapInsert 1 0 1 0 256 1, .mapInsert 1 0 1 0 0 256, .mapDelete 65536, .mapRead 256, .iceMode 256 1 1 1,
      .iceMode 1 256 1 1, .iceMode 1 1 256 1, .iceMode 1 1 1 256, .heat 256 1, .heat 1 256, .iceWeather 256,
      .configWrite 256 0 0, .configWrite 1 256 0, .configWrite 1 0 4294967296, .configRead 256 0, .configRead 1 256,
      .unknown 0x30, .badLength 0x31] : List Cmd).all (fun c => !c.wf) = true := by
  decide

theorem test_wf_admits_full_fields :
    ([.positionFix 16777215, .mapInsert 255 4294967295 65535 255 255 255, .configWrite 255 255 4294967295, .unknown 0xFF,
      .badLength 0x30] : List Cmd).all Cmd.wf = true := by
  decide

theorem test_wf_row : (Instr.raise .a 5 256 1).wf = false ∧ (Instr.raise .a 5 255 1).wf = true ∧ Instr.powerOn.wf = true := by
  decide

/-! ### Frames written byte by byte (R176, R177, R183, R184) -/

/-- The check value of R177. -/
theorem test_crc_check_value : crc [0x31, 0x32, 0x33, 0x34, 0x35, 0x36, 0x37, 0x38, 0x39] = 0x29B1 := by decide +kernel

theorem test_frame_raise : commandFrame 5 (.raise 1 2) = [0xC3, 0x04, 0x08, 0x05, 0x01, 0x02, 0xE5, 0x4A] := by
  decide +kernel
theorem test_frame_position_fix :
    commandFrame 1 (.positionFix 20000) = [0xC3, 0x05, 0x05, 0x01, 0x00, 0x4E, 0x20, 0x12, 0x53] := by decide +kernel
theorem test_frame_line_read : commandFrame 2 .lineRead = [0xC3, 0x02, 0x07, 0x02, 0x1B, 0x29] := by decide +kernel
theorem test_frame_force_table_write :
    commandFrame 3 (.forceTableWrite 1 8 140) = [0xC3, 0x05, 0x0F, 0x03, 0x01, 0x08, 0x8C, 0x5D, 0xA9] := by
  decide +kernel
theorem test_frame_breaker_close : commandFrame 4 .breakerClose = [0xC3, 0x02, 0x14, 0x04, 0x2D, 0xCF] := by
  decide +kernel
theorem test_frame_map_insert :
    commandFrame 9 (.mapInsert 2 152300 250 3 2 1) =
      [0xC3, 0x0C, 0x19, 0x09, 0x02, 0x00, 0x02, 0x52, 0xEC, 0x00, 0xFA, 0x03, 0x02, 0x01, 0xF0, 0xC7] := by
  decide +kernel
theorem test_frame_roof_reset : commandFrame 7 .roofReset = [0xC3, 0x02, 0x1E, 0x07, 0xF2, 0x67] := by decide +kernel
theorem test_frame_ice_mode :
    commandFrame 8 (.iceMode 1 3 3 1) = [0xC3, 0x06, 0x20, 0x08, 0x01, 0x03, 0x03, 0x01, 0x0D, 0x58] := by decide +kernel
theorem test_frame_auth_request : commandFrame 0 .authRequest = [0xC3, 0x02, 0x24, 0x00, 0x68, 0xDE] := by decide +kernel
theorem test_frame_config_write :
    commandFrame 1 (.configWrite 8 3 4) = [0xC3, 0x08, 0x28, 0x01, 0x08, 0x03, 0x00, 0x00, 0x00, 0x04, 0x4F, 0x4A] := by
  decide +kernel
/-- PAN and CONFIG: the first and the last flag of the order of R198. -/
theorem test_frame_notice_clear :
    commandFrame 6 (.noticeClear 0x8001) = [0xC3, 0x04, 0x2D, 0x06, 0x01, 0x80, 0x86, 0xDB] := by decide +kernel

theorem test_frames_read_back :
    Cmd.ofFrame 0x08 [1, 2] = .raise 1 2 ∧ Cmd.ofFrame 0x05 [0x00, 0x4E, 0x20] = .positionFix 20000
      ∧ Cmd.ofFrame 0x19 [2, 0x00, 0x02, 0x52, 0xEC, 0x00, 0xFA, 3, 2, 1] = .mapInsert 2 152300 250 3 2 1
      ∧ Cmd.ofFrame 0x2D [0x01, 0x80] = .noticeClear 0x8001 ∧ Cmd.ofFrame 0x08 [1] = .badLength 0x08
      ∧ Cmd.ofFrame 0x31 [] = .unknown 0x31 := by
  decide +kernel

/-! ### The worked examples of the spec -/

/-- Table 1-2: speeds while a train stops. -/
theorem test_speeds_of_a_stop :
    speedOf [1000, 1000, 1000, 1000, 800] = 9600 ∧ speedOf [1000, 1000, 1000, 800, 500] = 8600
      ∧ speedOf [1000, 800, 500, 300, 100] = 5400 ∧ speedOf [100, 0, 0, 0, 0] = 200 ∧ speedOf [0, 0, 0, 0, 0] = 0 := by
  decide

/-- Table 1-3: the pulse that enters REVERSING and the pulse that leaves it. -/
theorem test_rollback :
    (let t := { Travel.initial with front := 152397700, revRun := 1900 }.pulse false 100
     t.front = 152397600 ∧ t.revRun = 2000 ∧ t.direction = .reversing)
      ∧ (let t := { Travel.initial with front := 152399200, fwdRun := 1900, direction := .reversing }.pulse true 100
         t.front = 152399300 ∧ t.fwdRun = 2000 ∧ t.revRun = 0 ∧ t.direction = .normal) := by
  decide +kernel

/-- Table 1-4: offsets before and after a cab change. -/
theorem test_offsets :
    offsetOf .endA 180000 40000 20000 4000 = 184000 ∧ offsetOf .endB 180000 40000 20000 4000 = 56000
      ∧ offsetOf .endA 180000 40000 20000 16000 = 196000 ∧ offsetOf .endB 180000 40000 20000 16000 = 44000 := by
  decide

/-- The windows of section 2.9: 3 kV, 1.5 kV, heavy ripple, 25 kV, 15 kV and a dead section. -/
theorem test_raw_classes :
    (⟨480, 721440, 1085092320, 0, none, none⟩ : Window).rawClass = .sys .dc30
      ∧ (⟨480, 432000, 390528100, 0, none, none⟩ : Window).rawClass = .sys .dc15
      ∧ (⟨480, 432000, 395712000, 0, none, none⟩ : Window).rawClass = .unclassified
      ∧ (⟨480, 1440, 75000004500, 5, some 95, some 97⟩ : Window).rawClass = .sys .ac25
      ∧ (⟨480, -960, 27000001920, 2, some 288, some 289⟩ : Window).rawClass = .sys .ac15
      ∧ (⟨480, 4800, 14400000, 0, none, none⟩ : Window).rawClass = .dead := by
  decide +kernel

/-- The AC force profile of Table 4-2. -/
def table42 : List Nat := [70, 75, 80, 88, 95, 102, 110, 126, 140]

/-- Section 4.5 and Table 4-4: profile forces, setpoints and targets. -/
theorem test_forces :
    kmhOf 69444 = 250 ∧ profileForce table42 250 = 114 ∧ setpointOf 114 (some .scrape) 15 = 129
      ∧ targetOf 40 300 500 129 = 191 ∧ kmhOf 10972 = 39 ∧ profileForce table42 39 = 74 ∧ kmhOf 10973 = 40
      ∧ profileForce table42 319 = 139 ∧ profileForce table42 450 = 140 ∧ setpointOf 195 (some .scrape) 15 = 200
      ∧ profileForce [0, 0, 0, 0, 120, 115, 0, 0, 0] 173 = 119 ∧ targetOf 20 512 500 119 = 258 := by
  decide +kernel

/-- Table 4-3 and the braking that follows it: the ramp of the commanded pressure. -/
theorem test_ramp : slewOf 20 191 0 = 20 ∧ slewOf 20 191 180 = 191 ∧ slewOf 20 170 191 = 171 ∧ slewOf 20 170 171 = 170 := by
  decide

/-- The roof in service with Link A the holder, AC25 detected, the selector at AC25 and the pantographs down. -/
def ready : State :=
  { State.reset with
    cfg := { Store.initial with committed := true }
    seq := { Sequencer.initial with mode := .inService }
    auth := { Authority.initial with holder := some .a }
    ldet := { Detector.initial with detected := .raw (.sys .ac25) } }

/-- A number of ms after power-on. -/
def later (ms : Nat) (s : State) : State := s.modClk fun c => { c with time := BitVec.ofNat 32 ms, total := ms }

/-- Pantograph 1 in a state and a role. -/
def headIs (x : PanState) (d : Option Duty) (s : State) : State := s.modPan .p1 fun c => { c with state := x, role := d }

/-- The receiver of Link A. -/
def rxIs (r : Receiver) : State := State.reset.modPort .a fun q => { q with rx := r }

/-- The roof of section 6.10: pantograph 2 COLLECTING with offset 18 500 mm, at 83 333 mm/s. -/
def roof610 : State :=
  { ready with
    pch := { ready.pch with p2 := { Channel.initial with state := .raised, role := some .collecting } }
    cfg := { ready.cfg with items := { Items.default with panClass := ⟨.ac, .ac, .dc, .dc⟩ } }
    trv := { Travel.initial with front := 149300000, speed := 83333, offsets := ⟨26000, 18500, 26000, 12000⟩ } }

/-- Entry 57 of section 6.10. -/
def entry57 : Entry := ⟨57, .systemChange .dc30 false 1, 152300, 250, .a, .armed, some .p4, false, false⟩

/-- A roof whose one entry is ACTIVE, with the context its activation made, brought to a stage. -/
def atStage (x : Section) (st : Stage) (f : SeqCtx → SeqCtx) (s : State) : State :=
  let e := { entry57 with sect := x, state := .active }
  { s with
    map := { RouteMap.initial with entries := [e] }
    seq := { s.seq with ctx := some (f { s.newCtx e with stage := st }) } }

/-- A system change to DC 3 kV with the pantographs lowered and the selector swapped. -/
def change : Section := .systemChange .dc30 false 1

/-- The roof of section 6.10 with every pantograph lowered and the selector at a position. -/
def lowered610 (y : LineSys) : State :=
  { roof610 with pch := .all .initial, bsc := { Power.initial with selector := .rest (.sys y) } }

/-- Section 6.10: the action points with and without lowering. -/
theorem test_action_points :
    roof610.actionPoint entry57 = 152035168
      ∧ roof610.actionPoint { entry57 with sect := .neutral 2, start := 152700 } = 152643501 := by
  decide +kernel

/-- Section 6.10: entry 57 arms at 149 300 000 mm, and not one pulse before. -/
theorem test_arming :
    roof610.arms { entry57 with state := .pending } = true
      ∧ (roof610.modTrv fun t => { t with front := 149299900 }).arms { entry57 with state := .pending } = false := by
  decide +kernel

/-- Table 8-5: the sample that completes the run of 60, an invalid word in band, and the edges of the band. -/
theorem test_icing_run :
    ({ Ice.initial with run := 59 }.sample (inBand (-4)) 0).level1 = true ∧ inBand 35 = false ∧ inBand 18 = true
      ∧ inBand 1999 = true ∧ inBand (-100) = true ∧ inBand (-101) = false ∧ inBand 20 = true ∧ inBand 21 = false := by
  decide +kernel

/-- Table 8-6: the rolling count before and after the bin end. -/
theorem test_rolling_count :
    (⟨4, [1, 1, 2, 1, 2, 2, 3, 2, 2]⟩ : ArcRing).rolling = 20
      ∧ (⟨4, [1, 1, 2, 1, 2, 2, 3, 2, 2]⟩ : ArcRing).binEnd = ⟨0, [1, 2, 1, 2, 2, 3, 2, 2, 4]⟩
      ∧ (⟨4, [1, 1, 2, 1, 2, 2, 3, 2, 2]⟩ : ArcRing).binEnd.rolling = 19 := by
  decide

/-- Table 11-2: the first check that each of the three commits meets. -/
theorem test_commit_checks :
    (let it := { Items.default with panClass := ⟨.ac, .ac, .ac, .dc⟩, panPreferred := ⟨none, none, some .p3, none⟩ }
     let full := ⟨List.replicate 9 70, List.replicate 9 70⟩
     commitCheck it ⟨List.replicate 8 70 ++ [0], List.replicate 8 70 ++ [0]⟩ = some .points
       ∧ commitCheck it full = some (.target .dc30)
       ∧ commitCheck { it with panPreferred := ⟨none, none, some .p4, none⟩ } full = none) := by
  decide +kernel

/-! ### Single steps -/

/-- An unknown code and a wrong length are answered by the checks of R181. -/
theorem test_checks_of_a_take :
    (∃ t, exec (.unknownCommand .b 9 0x31) State.reset = .next t ∧ t.lnk.b.tx = [.response 0x31 9 .unknownCommand []])
      ∧ ∃ t, exec (.frameComplete .a 0x2F) (rxIs (.receiving [0x02, 0x08, 0x05, 0xF6])) = .next t
          ∧ t.lnk.a.flags.crc = true := ⟨⟨_, rfl, by decide +kernel⟩, ⟨_, rfl, by decide +kernel⟩⟩

/-- R175: 0xC3 and 0x01 on the line, the least significant data bit first, with parity bits 0 and 1. -/
theorem test_byte_levels :
    byteLevels 0xC3 =
        [.space, .mark, .mark, .space, .space, .space, .space, .mark, .mark, .space, .mark]
      ∧ byteLevels 0x01 =
        [.space, .mark, .space, .space, .space, .space, .space, .space, .space, .mark, .mark] := by
  decide +kernel

/-- R175, R178: a wrong parity bit and a stop bit at space are BYTE_ERROR, and the line then rests where the stop bit left it. -/
theorem test_byte_errors :
    (∃ t, exec (.faultyByte .a 0x01 ⟨false, .mark⟩) (rxIs .idle) = .next t ∧ t.lnk.a.flags.byte = true ∧ t.lines.rx.a = .mark)
      ∧ ∃ t, exec (.faultyByte .a 0x00 ⟨false, .space⟩) (rxIs .idle) = .next t ∧ t.lnk.a.rx = .skipping
          ∧ (later 2 t).breakDue .a = true ∧ (later 1 t).quietDue .a = false :=
  ⟨⟨_, rfl, by decide +kernel, by decide +kernel⟩, ⟨_, rfl, by decide +kernel, by decide +kernel, by decide +kernel⟩⟩

/-- R3: a pulse held active is accepted once. -/
theorem test_pulse_accepted_once :
    ∃ t u, exec (.travelPulse .aForward (.activeFor 20)) ready = .next t ∧ t.trv.front = 100
      ∧ exec (.travelPulse .aForward (.activeFor 500)) t = .next u ∧ u.trv.front = 100 :=
  ⟨_, _, rfl, by decide +kernel, rfl, by decide +kernel⟩

/-- R18: a pulse is judged by the width in force when its line went active. -/
theorem test_pulse_keeps_its_width :
    ∃ t u, exec (.travelPulse .aForward .goesActive) ready = .next t
      ∧ exec (.travelPulse .aForward (.activeFor 20))
          (t.modCfg fun c => { c with items := { c.items with pulseMinWidth := 500 } }) = .next u ∧ u.trv.front = 100 :=
  ⟨_, _, rfl, rfl, by decide +kernel⟩

/-- R19: a travel pulse line found active at power-on went active then, at 20 µs, and is accepted anew. -/
theorem test_pulse_at_power_on :
    ∃ t u v, exec .powerOn { ready with lines := { ready.lines with travelPulse := .accepted } } = .next t
      ∧ exec (.travelPulse .aForward (.activeFor 19)) t = .next u ∧ u.trv.front = 0
      ∧ exec (.travelPulse .aForward (.activeFor 20)) u = .next v ∧ v.trv.front = 100 :=
  ⟨_, _, _, rfl, rfl, by decide +kernel, rfl, by decide +kernel⟩

/-- R183: a duration above the range of its field is reported as its greatest value. -/
theorem test_elapsed_saturates :
    (let s := later 4294967296 (headIs .lowering none ready)
     s.panElapsed (s.ch .p1)) = 4294967295 := by decide +kernel

/-- Section 10.11: behind a raise of Link A a SYNC of Link M is not answered, and one of Link B is denied. -/
theorem test_sync_behind_a_raise :
    ∃ t u, exec (.sync .m 1) { ready with longOps := [⟨.a, .raise .p2, false⟩] } = .next t ∧ t.lnk.m.tx = []
      ∧ t.lnk.m.blocked = true ∧ exec (.sync .b 2) t = .next u ∧ u.lnk.b.tx = [.response 0x03 2 .syncDenied []] :=
  ⟨_, _, rfl, by decide +kernel, by decide +kernel, rfl, by decide +kernel⟩

/-- A breaker demanded CLOSE opens at the event that ends its interlock (R81): the window of another system. -/
theorem test_interlock_watch :
    ∃ t, exec .sampleLoss
        (headIs .raised (some .collecting)
          (later 2 { ready with
            bsc := { Power.initial with breaker := .closed }
            ldet := { ready.ldet with stream := .running } })) = .next t ∧ t.bsc.breaker = .opening :=
  ⟨_, rfl, by decide +kernel⟩

/-- A trip of the COLLECTING pantograph opens the breaker (R49), and fills the fault record (R200). -/
theorem test_trip :
    ∃ t, exec (.pressureSample .p1 701)
        (headIs .raised (some .collecting) { ready with bsc := { Power.initial with breaker := .closed } }) = .next t
      ∧ t.bsc.breaker = .opening ∧ t.pch.p1.state = .dropped ∧ (t.fault.map (·.kind)) = some .addTrip :=
  ⟨_, rfl, by decide +kernel, by decide +kernel, by decide +kernel⟩

/-- An earthing switch found EARTHED without a permit puts the roof in ROOF_SAFE (R93, R137). -/
theorem test_roof_safe :
    ∃ t, exec (.earthSwitchFeedback true) ready = .next t ∧ t.seq.mode = .roofSafe ∧ t.lnk.a.attention = true :=
  ⟨_, rfl, by decide +kernel, by decide +kernel⟩

/-! ### Witnesses: a state and operands that meet the hypotheses of each clause of a statement -/

/-- Link A with an update of its port. -/
def portIs (f : Port → Port) (s : State) : State := s.modPort .a f

theorem witness_StepTakesTheFront :
    ({ State.reset with pending := [.nop .a 0] } : State).pending = .nop .a 0 :: [] ∧ State.reset.pending = [] := ⟨rfl, rfl⟩

theorem witness_OperandBytesCarryTheCommand :
    (Cmd.positionFix 16777215).wf = true ∧ ∀ code, Cmd.positionFix 16777215 ≠ .badLength code :=
  ⟨by decide, fun _ h => by cases h⟩

theorem witness_FrameOffersItsCommand :
    (Cmd.raise 1 2).wf = true ∧ (∀ code, Cmd.raise 1 2 ≠ .badLength code)
      ∧ ((rxIs (.receiving [0x04, 0x08, 0x05, 0x01, 0x02, 0xE5])).lnk.get .a).inBreak = false
      ∧ ((rxIs (.receiving [0x04, 0x08, 0x05, 0x01, 0x02, 0xE5])).lnk.get .a).rx =
          .receiving [0x04, 0x08, 0x05, 0x01, 0x02, 0xE5]
      ∧ commandFrame 5 (.raise 1 2) = 0xC3 :: ([0x04, 0x08, 0x05, 0x01, 0x02, 0xE5] ++ [0x4A]) :=
  ⟨by decide, fun _ h => (by cases h), rfl, rfl, by decide +kernel⟩

/-- Break; IDLE and the header; the first length byte, the least and the greatest, and a later byte; SKIPPING. -/
theorem witness_BytesBuildAFrame :
    ((portIs (fun q => { q with inBreak := true }) State.reset).lnk.get .a).inBreak = true
      ∧ (((rxIs .idle).lnk.get .a).inBreak = false ∧ ((rxIs .idle).lnk.get .a).rx = .idle)
      ∧ (((rxIs (.receiving [])).lnk.get .a).rx = .receiving [] ∧ (2 ≤ (2 : Byte).toNat ∧ (60 : Byte).toNat ≤ 60)
          ∧ frameWhole ([] ++ [2]) = false ∧ frameWhole ([] ++ [60]) = false)
      ∧ (((rxIs (.receiving [2])).lnk.get .a).rx = .receiving [2] ∧ frameWhole ([2] ++ [1]) = false)
      ∧ ((rxIs .skipping).lnk.get .a).rx = .skipping := by
  decide +kernel

theorem witness_FaultyBytesAreFlagged :
    (State.reset.lnk.get .a).tx = []
      ∧ ((portIs (fun q => { q with tx := [.attention true] }) State.reset).lnk.get .a).tx = .attention true :: []
      ∧ 11 * (txBytes (.attention true)).length ≤ 77
      ∧ (((rxIs .idle).lnk.get .a).inBreak = false ∧ ((rxIs .idle).lnk.get .a).rx ≠ .skipping)
      ∧ ((ByteTail.mk true .mark).parity ≠ parityBit 0xC3 ∧ (ByteTail.mk false .space).stop = .space)
      ∧ ((rxIs .skipping).lnk.get .a).rx = .skipping
      ∧ (((rxIs .idle).lnk.get .a).rx = .idle ∧ (0xC2 : Byte) ≠ 0xC3)
      ∧ (((rxIs (.receiving [])).lnk.get .a).rx = .receiving [] ∧ ¬ (2 ≤ (1 : Byte).toNat ∧ (1 : Byte).toNat ≤ 60)
          ∧ ¬ (2 ≤ (61 : Byte).toNat ∧ (61 : Byte).toNat ≤ 60))
      ∧ (((rxIs (.receiving [2, 1, 0, 0])).lnk.get .a).rx = .receiving [2, 1, 0, 0]
          ∧ frameWhole ([2, 1, 0, 0] ++ [0]) = true ∧ crc ([2, 1, 0, 0] ++ [0]) ≠ 0#16) := by
  decide +kernel

/-- The receive lines at space. -/
def atSpace (s : State) : State := s.modLines fun x => { x with rx := .all .space }

theorem witness_LinkTimersAct :
    (later 1 (rxIs (.receiving [2]))).gapDue .a = true ∧ (later 1 (rxIs .skipping)).quietDue .a = true
      ∧ (later 20 (portIs (fun q => { q with holdOff := some 0 }) State.reset)).holdOffDue .a = true
      ∧ (atSpace State.reset).lines.rx.get .a = .space ∧ State.reset.lines.rx.get .a = .mark := by
  decide +kernel

/-- Link A with frames handed to its transmitter and frames in its queue. -/
def linkWith (tx : List TxFrame) (queue : List RxFrame) : State :=
  portIs (fun q => { q with tx := tx, queue := queue, awaiting := true }) State.reset

theorem witness_SentFramesLeave :
    ((linkWith [.response 1 2 .ok []] []).lnk.get .a).queue = []
      ∧ ((linkWith [.response 1 2 .ok []] []).lnk.get .a).tx = .response 1 2 .ok [] :: []
      ∧ ((linkWith [.syncDone 2] []).lnk.get .a).tx = .syncDone 2 :: []
      ∧ ((linkWith [.busy 1 2] []).lnk.get .a).tx = .busy 1 2 :: []
      ∧ ((linkWith [.attention true] []).lnk.get .a).tx = .attention true :: []
      ∧ ((linkWith [.response 1 2 .ok []] [⟨3, .nop⟩]).lnk.get .a).queue = ⟨3, .nop⟩ :: []
      ∧ ((linkWith [.response 1 2 .ok []] [⟨3, .nop⟩]).lnk.get .a).blocked = false
      ∧ ((linkWith [.syncDone 2] [⟨3, .nop⟩]).lnk.get .a).queue = ⟨3, .nop⟩ :: []
      ∧ ((linkWith [.syncDone 2] [⟨3, .nop⟩]).lnk.get .a).tx = .syncDone 2 :: [] := by
  decide

/-- Three frames waiting behind a response, and a full queue. -/
theorem witness_BusyLinksQueueOrAnswerBusy :
    (Instr.nop .a 1).offered = some (.a, 1, .nop)
      ∧ ((linkWith [] (List.replicate 3 ⟨3, .nop⟩)).lnk.get .a).queue.length < 4
      ∧ ((linkWith [] (List.replicate 3 ⟨3, .nop⟩)).lnk.get .a).awaiting = true
      ∧ 4 ≤ ((linkWith [] (List.replicate 4 ⟨3, .nop⟩)).lnk.get .a).queue.length := by
  decide

/-- The holder is Link B; a link may have requested and parked a command. -/
def heldByB (r : Option Link) (k : Option Parked) : State :=
  { ready with auth := { Authority.initial with holder := some .b, requester := r, parked := k } }

theorem witness_LinkResetEmptiesTheLink :
    ((later 2 (atSpace (portIs (fun q => { q with holdOff := some 0 }) State.reset))).breakDue .a = true
        ∧ ((portIs (fun q => { q with holdOff := some 0 }) State.reset).lnk.get .a).holdOff ≠ none)
      ∧ ((later 2 (atSpace State.reset)).breakDue .a = true ∧ ((later 2 (atSpace State.reset)).lnk.get .a).holdOff = none)
      ∧ ((2 : Time) - (State.reset.lnk.get .a).rxAt).toNat = 2 := by
  decide +kernel

/-- A reset of a link with a SYNC waiting, of one without, of a requester with a parked command and without one, with a change
owed and an entry ACTIVE or none, and of a holder. -/
theorem witness_LinkResetEmptiesTheLink_owners :
    (let c : SyncCtx := ⟨.a, 1⟩
     let s := { ready with sync := some c, longOps := [⟨.a, .select, true⟩] }
     s.sync = some c ∧ c.owner = .a ∧ c.owner ≠ .b) ∧ ready.sync = none
      ∧ ((heldByB (some .a) (some ⟨.breakerOpen, 1⟩)).auth.requester = some .a
          ∧ (heldByB (some .a) (some ⟨.breakerOpen, 1⟩)).auth.parked = some ⟨.breakerOpen, 1⟩
          ∧ (heldByB (some .a) none).auth.parked = none ∧ (heldByB (some .a) none).auth.owed = none
          ∧ ((heldByB (some .a) none).modAuth fun a => { a with owed := some .release }).auth.owed ≠ none
          ∧ (heldByB (some .a) none).entryActive = false)
      ∧ (ready.auth.requester ≠ some .a ∧ ready.auth.holder = some .a) := by
  decide +kernel

theorem witness_LinkCommands :
    (({ ready with sync := some ⟨.m, 1⟩ } : State).free .a ∧ ({ ready with sync := some ⟨.m, 1⟩ } : State).sync ≠ none)
      ∧ (ready.free .a ∧ ready.sync = none ∧ ready.longOps = [])
      ∧ (({ ready with longOps := [⟨.a, .select, false⟩] } : State).free .a
          ∧ ({ ready with longOps := [⟨.a, .select, false⟩] } : State).longOps ≠ [])
      ∧ (({ ready with sync := some ⟨.m, 1⟩ } : State).sync = some ⟨.m, 1⟩
          ∧ (∃ o ∈ ({ ready with longOps := [⟨.a, .select, true⟩] } : State).longOps, o.marked = true)
          ∧ ∀ o ∈ ({ ready with longOps := [⟨.a, .select, false⟩] } : State).longOps, o.marked = false) := by
  decide

theorem witness_QueriesReadAndChangeNothing : ready.free .a := by decide

theorem witness_IndexedQueries :
    ready.free .b ∧ Pan.num .p1 = 1 ∧ Pan.num .p4 = 4 ∧ (slotOf 1 0).isSome = true ∧ (slotOf 30 0).isSome = true
      ∧ (slotOf 4 4).isSome = true ∧ (slotOf 31 0).isSome = false ∧ (slotOf 1 1).isSome = false
      ∧ (slotOf 4 0).isSome = false ∧ (slotOf 4 5).isSome = false := by
  decide +kernel

/-- Link A with a cursor and the last command taken. -/
def cursorAt (c : Cursor) (code : Byte) (s : State) : State := portIs (fun q => { q with cursor := c, lastTaken := some code }) s

theorem witness_ForceTableReads :
    (classOf 1 = some .ac ∧ classOf 2 = some .dc) ∧ classOf 0 = none ∧ classOf 3 = none
      ∧ ((cursorAt (.tableRead .ac 7) 0x11 ready).free .a
          ∧ ((cursorAt (.tableRead .ac 7) 0x11 ready).lnk.get .a).cursor = .tableRead .ac 7
          ∧ ((cursorAt (.tableRead .ac 7) 0x11 ready).lnk.get .a).lastTaken = some 0x11)
      ∧ ((cursorAt (.tableRead .dc 8) 0x12 ready).lnk.get .a).cursor = .tableRead .dc 8
      ∧ (ready.lnk.get .a).cursor = .none
      ∧ ((cursorAt (.tableRead .ac 7) 0x07 ready).lnk.get .a).lastTaken = some 0x07 := by
  decide

/-- The map with entries 57 and 58, PENDING. -/
def mapped : State :=
  { ready with map := { RouteMap.initial with
      entries := [{ entry57 with state := .pending }, ⟨58, .neutral 2, 152700, 150, .b, .pending, none, false, false⟩] } }

theorem witness_MapReads :
    (mapped.map.entries[1]?).isSome = true ∧ mapped.map.entries.length = 2
      ∧ ((cursorAt (.map 57) 0x1B mapped).free .a ∧ (mapped.map.entries.map (·.id)).Nodup
          ∧ ((mapped.map.entries[0]?).map (·.id)) = some 57 ∧ ((mapped.map.entries[0 + 1]?).map (·.id)) = some 58
          ∧ ((cursorAt (.map 57) 0x1B mapped).lnk.get .a).lastTaken = some 0x1B)
      ∧ (∀ e ∈ (cursorAt (.map 9) 0x01 mapped).map.entries, e.id ≠ 9)
      ∧ (((cursorAt (.map 58) 0x1C mapped).map.entries[1]?).map (·.id) = some 58
          ∧ (cursorAt (.map 58) 0x1C mapped).map.entries.length = 1 + 1
          ∧ ((cursorAt (.map 58) 0x1C mapped).lnk.get .a).cursor = .map 58)
      ∧ ((cursorAt (.map 57) 0x07 mapped).lnk.get .a).lastTaken = some 0x07
      ∧ (mapped.lnk.get .a).cursor = .none
      ∧ ({ mapped.map with action := some ⟨57, -1⟩ } : RouteMap).action = some ⟨entry57.id, -1⟩
      ∧ mapped.map.action = none := by
  decide +kernel

theorem witness_ResultsFitTheFrame :
    ∃ u st bytes, runCmd .a 1 .iceRead ready = (u, some (st, bytes)) := ⟨_, _, _, rfl⟩

theorem witness_AuthorityClassCheck :
    (Instr.lower .a 1 1).offered = some (.a, 1, .lower 1) ∧ isAuthority (.lower 1) = true
      ∧ ((heldByB none none).free .a ∧ (heldByB none none).auth.holder ≠ some .a
          ∧ (heldByB none none).auth.requester ≠ some .a)
      ∧ ((heldByB (some .a) none).auth.requester = some .a ∧ (heldByB (some .a) none).auth.parked = none)
      ∧ (heldByB (some .a) (some ⟨.breakerOpen, 1⟩)).auth.parked ≠ none
      ∧ (let s := ready.modSeq fun q => { q with mode := .roofSafe }
         s.commands .a ∧ s.serviceRefusal = some .roofSafe ∧ s.roofRefusal = some .roofSafe)
      ∧ (ready.commands .a ∧ ready.serviceRefusal = none ∧ ready.roofRefusal = none) := by
  decide +kernel

/-- A mode in force. -/
def modeIs (m : Mode) (s : State) : State := s.modSeq fun q => { q with mode := m }

/-- Each refusal: an entry ACTIVE and an offset above its range; ROOF_SAFE and the numbers beside 1 to 4; for ICE_MODE also
CONFIG_PENDING, and a response beside 1 to 3. -/
theorem witness_AuthorityClassCheck_refusals :
    (FirstUnmet [(atStage change .opening id ready).notLocked, (0 ≤ 500000 ∧ 0 ≤ 500000, .badOperand)] (some .entryLocked)
        ∧ FirstUnmet [ready.notLocked, (500001 ≤ 500000 ∧ 0 ≤ 500000, .badOperand)] (some .badOperand))
      ∧ (FirstUnmet [(modeIs .roofSafe ready).notSafe, (1 ≤ 1 ∧ 1 ≤ 4, .badOperand)] (some .roofSafe)
        ∧ FirstUnmet [ready.notSafe, (1 ≤ 0 ∧ 0 ≤ 4, .badOperand)] (some .badOperand)
        ∧ FirstUnmet [ready.notSafe, ((1 ≤ 5 ∧ 5 ≤ 4) ∧ (1 = 1 ∨ 1 = 2), .badOperand)] (some .badOperand))
      ∧ (∀ c : Prop, FirstUnmet [(modeIs .configPending ready).notPending, (modeIs .configPending ready).notSafe,
            (c, .badOperand)] (some .notConfigured)
          ∧ FirstUnmet [(modeIs .roofSafe ready).notPending, (modeIs .roofSafe ready).notSafe, (c, .badOperand)]
            (some .roofSafe))
      ∧ FirstUnmet [ready.notPending, ready.notSafe, ((1 = 1 ∨ 1 = 2) ∧ (1 ≤ 4 ∧ 4 ≤ 3) ∧ (1 ≤ 1 ∧ 1 ≤ 3) ∧ (1 = 1 ∨ 1 = 2),
          .badOperand)] (some .badOperand) := by
  unfold FirstUnmet State.notLocked State.notSafe State.notPending
  refine ⟨⟨.inr ⟨fun h => ?_, rfl⟩, .inl ⟨fun e h => (nomatch h), .inr ⟨by decide, rfl⟩⟩⟩,
    ⟨.inr ⟨by decide, rfl⟩, .inl ⟨by decide, .inr ⟨by decide, rfl⟩⟩, .inl ⟨by decide, .inr ⟨by decide, rfl⟩⟩⟩,
    fun c => ⟨.inr ⟨by decide, rfl⟩, .inl ⟨by decide, .inr ⟨by decide, rfl⟩⟩⟩,
    .inl ⟨by decide, .inl ⟨by decide, .inr ⟨by decide, rfl⟩⟩⟩⟩
  exact h _ (.head _) rfl

theorem witness_SetFormationRecomputesOffsets : ready.commands .a ∧ 500000 ≤ 500000 ∧ ready.entryActive = false := by
  decide +kernel

/-- The roof with pantograph 1 down, in any operation and with any waiting flag, meets Table 3-4 for it. -/
theorem meets_table (j : Option Job) (w : Bool) :
    ∀ x ∈ (ready.modPan .p1 fun c => { c with job := j, raiseWaiting := w }).raiseTable .p1 .collecting, x.1 := by
  simp only [State.raiseTable, List.forall_mem_cons]
  exact ⟨nofun, nofun, rfl, rfl, fun _ => ⟨.ac25, rfl, rfl⟩, fun _ q => by cases q <;> exact fun h => Bool.noConfusion h.1,
    (fun h => nomatch h), Nat.zero_lt_two, ⟨rfl, rfl⟩, (fun _ h => nomatch h), by simp⟩

/-- No operation in place, and one of ICE. -/
theorem witness_RaiseIsGranted :
    (let s := ready.modPan .p1 fun c => { c with job := none, raiseWaiting := false }
     s.commands .a ∧ s.entryActive = false ∧ s.admits .p1 (.authority .a) = true)
      ∧ (ready.modPan .p1 fun c => { c with job := some ⟨.ice, .discMove .connected⟩, raiseWaiting := false }).admits .p1
          (.authority .a) = true
      ∧ ∀ j, ∀ x ∈ (ready.modPan .p1 fun c => { c with job := j, raiseWaiting := false }).raiseTable .p1 .collecting, x.1 :=
  ⟨by decide +kernel, by decide +kernel, fun j => meets_table j false⟩

/-- A pantograph owned by SEQ; one ISOLATED; the other role raised; a SCRAPE raise with no COLLECTING one; a pantograph in
LOWERING, and one whose disconnector moves to CONNECTED; one RAISED in the role. -/
theorem witness_RaiseIsRefusedOrWaits :
    (ready.modPan .p1 fun c => { c with job := some ⟨.sequencer, .lower⟩ }).admits .p1 (.authority .a) = false
      ∧ ((headIs .isolated none ready).commands .a ∧ (headIs .isolated none ready).serviceRefusal = none
          ∧ (headIs .isolated none ready).admits .p1 (.authority .a) = true
          ∧ ((headIs .isolated none ready).ch .p1).state = .isolated)
      ∧ (((headIs .raised (some .collecting) ready).ch .p1).state.isRaised = true
          ∧ ((headIs .raised (some .collecting) ready).ch .p1).role ≠ some .scrape)
      ∧ ((ready.ch .p1).state = .lowered ∧ (ready.ch .p1).disc ≠ .moving (discNeed .scrape)
          ∧ FirstUnmet (ready.raiseTable .p1 .scrape) (some .interlock))
      ∧ ((headIs .lowering none ready).serviceRefusal = none ∧ (headIs .lowering none ready).admits .p1 (.authority .a) = true
          ∧ ((headIs .lowering none ready).ch .p1).state = .lowering
          ∧ ((headIs .lowering none ready).ch .p1).disc = .resting .connected)
      ∧ ((ready.modPan .p1 fun c => { c with disc := .moving .connected }).ch .p1).disc = .moving (discNeed .collecting)
      ∧ ((headIs .raised (some .collecting) ready).admits .p1 (.authority .a) = true
          ∧ ((headIs .raised (some .collecting) ready).ch .p1).state = .raised
          ∧ ((headIs .raised (some .collecting) ready).ch .p1).role = some .collecting) := by
  refine ⟨by decide +kernel, by decide +kernel, by decide +kernel, ⟨by decide +kernel, by decide +kernel, ?_⟩,
    by decide +kernel, by decide +kernel, by decide +kernel⟩
  exact .inl ⟨by decide, .inl ⟨by decide, .inl ⟨by decide, .inr ⟨by decide, rfl⟩⟩⟩⟩

/-- Pantograph 1 with an operation in place. -/
def jobIs (j : Job) (s : State) : State := s.modPan .p1 fun c => { c with job := some j }

/-- A raise that has waited, with the conditions met and with a pantograph already COLLECTING; a raise that waits on, and one that
does not wait; RAISING with a RAISE in place and with a LOWER; the ranks. -/
theorem witness_RaiseIsRefusedOrWaits_ends :
    (let s := ready.modPan .p1 fun c => { c with job := some ⟨.sequencer, .raise .collecting⟩, raiseWaiting := true }
     (s.ch .p1).job = some ⟨.sequencer, .raise .collecting⟩ ∧ (s.ch .p1).raiseWaiting = true ∧ (s.ch .p1).state = .lowered
      ∧ (∀ q, (s.ch .p1).disc ≠ .moving q) ∧ (∀ x ∈ s.raiseTable .p1 .collecting, x.1)
      ∧ FirstUnmet ((modeIs .roofSafe s).raiseTable .p1 .collecting) (some .roofSafe)
      ∧ ((headIs .lowering none s).ch .p1).state ≠ .lowered)
      ∧ (ready.ch .p1).raiseWaiting = false
      ∧ (let s := jobIs ⟨.ice, .raise .collecting⟩ (headIs .raising (some .collecting) ready)
         s.commands .a ∧ s.serviceRefusal = none ∧ s.admits .p1 (.authority .a) = true ∧ (s.ch .p1).state = .raising
          ∧ (s.ch .p1).role = some .collecting ∧ (s.ch .p1).job = some ⟨.ice, .raise .collecting⟩)
      ∧ (let s := jobIs ⟨.authority .b, .lower⟩ (headIs .settling (some .collecting) ready)
         s.admits .p1 (.authority .a) = true ∧ (s.ch .p1).state = .settling
          ∧ ∀ src e, (s.ch .p1).job ≠ some ⟨src, .raise e⟩)
      ∧ (Source.sequencer.Outranks (.authority .a) ∧ (Source.authority .b).Outranks .ice
          ∧ ¬ (Source.authority .b).Outranks (.authority .a)) := by
  refine ⟨⟨rfl, rfl, rfl, nofun, meets_table _ true, ?_, by decide⟩, rfl, by decide +kernel, ⟨by decide +kernel, rfl, nofun⟩,
    .inl ⟨rfl, nofun⟩, .inr ⟨⟨.b, rfl⟩, rfl⟩, by simp [Source.Outranks]⟩
  exact .inl ⟨by decide, .inr ⟨by decide, rfl⟩⟩

/-- The roof with the breaker in a state. -/
def breakerIs (b : Breaker) (s : State) : State := s.modBsc fun q => { q with breaker := b }

/-- A roof whose interlock holds. -/
def live (b : Breaker) : State := breakerIs b (headIs .raised (some .collecting) ready)

theorem witness_LowerWaitsForTheBreaker :
    ((headIs .raised (some .scrape) ready).commands .a ∧ (headIs .raised (some .scrape) ready).roofRefusal = none
        ∧ (headIs .raised (some .scrape) ready).admits .p1 (.authority .a) = true
        ∧ ((headIs .raised (some .scrape) ready).ch .p1).state.isRaised = true)
      ∧ ((breakerIs .closed (headIs .raised (some .collecting) ready)).commands .a
          ∧ (breakerIs .closed (headIs .raised (some .collecting) ready)).roofRefusal = none
          ∧ ((breakerIs .closed (headIs .raised (some .collecting) ready)).ch .p1).role ≠ some .scrape
          ∧ (breakerIs .closed (headIs .raised (some .collecting) ready)).bsc.breaker = .closed)
      ∧ (breakerIs .failed (headIs .raised (some .collecting) ready)).bsc.breaker = .failed
      ∧ (ready.commands .a ∧ (ready.ch .p1).state = .lowered)
      ∧ ((headIs .lowering none ready).ch .p1).state = .lowering
      ∧ ((headIs .isolated none ready).ch .p1).state = .isolated := by
  decide +kernel

/-- A lower that waits with the breaker OPEN, and with it CLOSED; a pantograph of SEQ, which is busy; one of ICE, and one of a
link that held the authority before, which are preempted; one of the same link, which is replaced. -/
theorem witness_LowerWaitsForTheBreaker_arbiter :
    (let s := (jobIs ⟨.sequencer, .lower⟩ (live .opened)).modPan .p1 fun c => { c with lowerReq := true }
     (s.ch .p1).job = some ⟨.sequencer, .lower⟩ ∧ (s.ch .p1).lowerReq = true ∧ s.bsc.breaker = .opened
      ∧ (breakerIs .closed s).bsc.breaker ≠ .opened)
      ∧ (ready.ch .p1).lowerReq = false
      ∧ (jobIs ⟨.sequencer, .raise .collecting⟩ ready).admits .p1 (.authority .a) = false
      ∧ (jobIs ⟨.ice, .raise .scrape⟩ ready).admits .p1 (.authority .a) = true
      ∧ (jobIs ⟨.authority .b, .raise .collecting⟩ ready).admits .p1 (.authority .a) = true
      ∧ (let s := jobIs ⟨.authority .a, .raise .collecting⟩ (live .closed)
         s.commands .a ∧ s.roofRefusal = none ∧ s.admits .p1 (.authority .a) = true
          ∧ (s.ch .p1).state.isRaised = true ∧ s.bsc.breaker = .closed) := by
  decide +kernel

/-- The holder's DISC_SET preempts a move of ICE: the last result is ABORTED, and the drive turns (R52, R56). -/
theorem test_disc_set_preempts :
    ∃ t, exec (.discSet .a 1 1 1) ((jobIs ⟨.ice, .discMove .disconnected⟩ ready).modPan .p1 fun c =>
        { c with disc := .moving .disconnected }) = .next t
      ∧ t.pch.p1.lastResult = some ⟨.ice, .discMove .disconnected, .aborted⟩ ∧ t.pch.p1.disc = .moving .connected
      ∧ t.pch.p1.job = some ⟨.authority .a, .discMove .connected⟩ :=
  ⟨_, rfl, by decide +kernel, by decide +kernel, by decide +kernel⟩

/-- A pantograph of SEQ; a disconnector that moves while its pantograph is LOWERING; a DROPPED pantograph. -/
theorem witness_DiscSetMovesTheDisconnector_more :
    (jobIs ⟨.sequencer, .lower⟩ ready).admits .p1 (.authority .a) = false
      ∧ (let s := jobIs ⟨.ice, .discMove .connected⟩ ((headIs .lowering none ready).modPan .p1 fun c =>
           { c with disc := .moving .connected })
         s.commands .a ∧ s.roofRefusal = none ∧ s.admits .p1 (.authority .a) = true ∧ (s.ch .p1).state ≠ .dropped
          ∧ (s.ch .p1).state ≠ .isolated ∧ (s.ch .p1).disc = .moving .connected)
      ∧ ((headIs .dropped none ready).ch .p1).state = .dropped := by
  decide +kernel

theorem witness_DiscSetMovesTheDisconnector :
    ready.commands .a ∧ ready.roofRefusal = none ∧ ready.admits .p1 (.authority .a) = true ∧ (ready.ch .p1).state = .lowered
      ∧ (ready.ch .p1).disc = .resting .connected ∧ DiscPos.connected ≠ .disconnected
      ∧ ((headIs .raised none ready).ch .p1).state ≠ .lowered
      ∧ ((headIs .raised none ready).ch .p1).disc = .resting .connected := by
  decide +kernel

theorem witness_AddResetReleasesADropped :
    (headIs .dropped none ready).commands .a ∧ (headIs .dropped none ready).seq.mode ≠ .roofSafe
      ∧ ((headIs .dropped none ready).ch .p1).state = .dropped ∧ (headIs .dropped none ready).lines.lowered.get .p1 = true
      ∧ ((headIs .dropped none ready).modLines fun x => { x with lowered := .all false }).lines.lowered.get .p1 = false
      ∧ (ready.ch .p1).state ≠ .dropped := by
  decide +kernel


theorem witness_BreakerCommands :
    (live .opened).commands .a ∧ (live .opened).serviceRefusal = none ∧ (live .opened).interlock = true
      ∧ (live .opened).bsc.breaker = .opened ∧ ready.interlock = false ∧ (live .closing).roofRefusal = none
      ∧ (live .closing).bsc.breaker = .closing ∧ (live .failed).bsc.breaker = .failed
      ∧ (live .opening).bsc.breaker = .opening ∧ (live .closed).interlock = true := by
  decide +kernel

theorem witness_SelectMovesTheSelector :
    ready.commands .a ∧ ready.serviceRefusal = none ∧ ready.bsc.selector = .rest (.sys .ac25) ∧ SelPos.sys .ac25 ≠ .opened
      ∧ ready.bsc.breaker = .opened ∧ ready.connectedLowered = true ∧ (live .closed).bsc.breaker ≠ .opened
      ∧ (ready.modBsc fun q => { q with selector := .moving none .opened }).bsc.selector = .moving none .opened
      ∧ (betweenClasses (some (.sys .ac25)) .opened = true ∧ (live .opened).connectedLowered = false)
      ∧ betweenClasses (some (.sys .ac25)) (.sys .ac15) = false := by
  decide +kernel

theorem witness_IceModeAndHeat :
    ready.commands .a ∧ ready.seq.mode = .inService ∧ pairOf 1 = some true ∧ pairOf 2 = some false
      ∧ suspectOf 3 = some .heat ∧ confirmedOf 3 = some .heatAndScrape
      ∧ ((headIs .isolated none ready).ch .p1).state = .isolated := by
  decide +kernel

/-- Entry 57 is overrun from a front 26 000 + 10 000 mm behind its end at 152 550 m. -/
theorem witness_PositionFixSetsTheOdometer :
    ready.free .m ∧ ready.holderOrM .m = true ∧ ready.seq.mode ≠ .configPending ∧ 4294967 ≤ 4294967
      ∧ ready.holderOrM .b = false
      ∧ (State.reset.free .m ∧ State.reset.holderOrM .m = true ∧ State.reset.seq.mode = .configPending)
      ∧ (let s := { roof610 with map := { RouteMap.initial with entries := [entry57] } }
         s.free .m ∧ s.holderOrM .m = true ∧ (s.map.entries.map (·.id)).Nodup ∧ entry57 ∈ s.map.entries
          ∧ entry57.state ≠ .active ∧ s.trv.front ≤ 152586 * 1000
          ∧ (entry57.start + entry57.length) * 1000 + largestOffset s.trv.offsets s.usablePans
              + s.cfg.items.clearMargin * 1000 = 152586 * 1000
          ∧ entry57.sect = .systemChange .dc30 false 1) := by
  decide +kernel

/-- The sequence of entry 57 in CLEARING with no pantograph raised at its start, and a system change PENDING behind its section. -/
def swept : State :=
  let s := atStage change .clearing (fun c => { c with roofLive := false }) (lowered610 .ac25)
  s.modMap fun m => { m with entries := m.entries ++ [⟨58, change, 152700, 150, .b, .pending, none, false, false⟩] }

/-- A front that overruns entry 58 and ends the sequence of entry 57, one that does not, and a map with nothing overrun. -/
theorem witness_PositionFixSetsTheOdometer_ends :
    swept.EndsAtFront 153000000 (swept.trv.front ≤ 153000000) swept.seq.ctx ∧ swept.seq.ctx.isSome = true
      ∧ ready.EndsAtFront 153000000 True none ∧ (swept.map.entries.map (·.id)).Nodup
      ∧ (∃ before e, swept.map.entries = before ++ e :: [] ∧ swept.Overruns 153000000 e ∧ e.sect = change)
      ∧ ∀ e ∈ ready.map.entries, ¬ ready.Overruns 153000000 e := by
  refine ⟨.inr ⟨rfl, ⟨by decide +kernel, ⟨_, .tail _ (.head _), ?_⟩, _, rfl, by decide +kernel, by decide +kernel⟩, ?_⟩,
    by decide +kernel, .inl ⟨rfl, fun h => ?_⟩, by decide +kernel, ⟨[_], _, rfl, ?_, rfl⟩, fun e h => by cases h⟩
  · unfold State.Overruns
    decide +kernel
  · rintro c ⟨⟩
    rfl
  · obtain ⟨_, ⟨_, h, _⟩, _⟩ := h
    cases h
  · unfold State.Overruns
    decide +kernel

/-- R103: the ACTIVE entry 57, of index 0, leaves before the overrun entry 58, which the last removal names; the fault is OVERRUN.
So at a fix, and at the pulse that reaches 152 850 m + 26 m + 10 m. -/
theorem test_last_removal_by_index :
    (∃ t, exec (.positionFix .a 1 153000) swept = .next t ∧ t.map.entries = [] ∧ t.seq.ctx.isNone = true
      ∧ t.map.lastRemoval.map (fun r => (r.id, r.reason)) = some (58, .overrun)
      ∧ (t.fault.map (·.kind)) = some .overrun)
      ∧ ∃ t, exec (.travelPulse .aForward (.activeFor 20)) (swept.modTrv fun v => { v with front := 152885900 }) = .next t
        ∧ t.map.entries = [] ∧ t.map.lastRemoval.map (fun r => (r.id, r.reason)) = some (58, .overrun) :=
  ⟨⟨_, rfl, by decide +kernel, by decide +kernel, by decide +kernel, by decide +kernel⟩,
   ⟨_, rfl, by decide +kernel, by decide +kernel⟩⟩

/-- A roof on which the earthing permit can be given. -/
def dead : State := ready.modLdet fun d => { d with detected := .raw .dead }

theorem witness_EarthPermitFollowsItsConditions :
    dead.free .m ∧ dead.holderOrM .m = true ∧ dead.seq.mode ≠ .roofSafe ∧ dead.permitHolds = true
      ∧ ready.permitHolds = false ∧ dead.lines.earthed = false
      ∧ (dead.modLines fun x => { x with earthed := true }).lines.earthed = true
      ∧ (dead.free .b ∧ dead.holderOrM .b = false)
      ∧ (dead.modSeq fun q => { q with mode := .roofSafe }).seq.mode = .roofSafe := by
  decide +kernel

theorem witness_MapInsertPlacesAnEntry :
    mapped.free .b ∧ mapped.seq.mode ≠ .configPending ∧ 4294967 ≤ 4294967 ∧ 1 ≤ 2000
      ∧ sectionOf 1 0 0 2 = some (.neutral 2) ∧ mapped.insertRefusal 4294967 2000 = none
      ∧ mapped.insertRefusal 0 1 = none ∧ mapped.map.entries.length ≤ 64 := by
  decide +kernel

theorem witness_MapInsertIsRefused :
    State.reset.free .a ∧ State.reset.seq.mode = .configPending ∧ mapped.seq.mode ≠ .configPending
      ∧ 4294967 < 4294968 ∧ 2000 < 2001 ∧ sectionOf 4 0 0 1 = none ∧ sectionOf 3 0 0 0 ≠ none := by
  decide +kernel

theorem witness_MapDeleteRemovesTheEntry :
    mapped.free .a ∧ (∀ e ∈ mapped.map.entries, e.id ≠ 1) ∧ (∀ e ∈ mapped.map.entries, e.id ≠ 0)
      ∧ (mapped.map.entries.map (·.id)).Nodup ∧ mapped.map.entries.any (fun e => e.source = .a && e.state ≠ .active) = true
      ∧ mapped.map.entries.any (fun e => e.source ≠ .a) = true ∧ (heldByB none none).holderOrM .a = false := by
  decide +kernel

theorem witness_RoofResetRestoresTheRoof :
    let s := headIs .dropped none (modeIs .roofSafe ready)
    s.free .a ∧ s.auth.holder = some .a ∧ s.StandsDown ∧ s.seq.mode = .roofSafe ∧ s.lines.earthed = false :=
  ⟨by decide +kernel, rfl, fun p => by cases p <;> decide +kernel, rfl, rfl⟩

/-- Another link; EARTHED without a permit in ROOF_SAFE; a pantograph RAISED, and one DROPPED with its lowered limit inactive. -/
theorem witness_RoofResetRestoresTheRoof_refused :
    let checks := fun (l : Link) (s : State) =>
      [(s.auth.holder = some l ∨ l = .m, Status.authNotHeld),
       (¬ (s.seq.mode = .roofSafe ∧ s.lines.earthed = true ∧ s.bsc.permit = false), Status.interlock),
       (s.StandsDown, Status.notQuiescent)]
    FirstUnmet (checks .b ready) (some .authNotHeld)
      ∧ FirstUnmet (checks .m ((modeIs .roofSafe ready).modLines fun x => { x with earthed := true })) (some .interlock)
      ∧ FirstUnmet (checks .a (live .opened)) (some .notQuiescent)
      ∧ FirstUnmet (checks .a ((headIs .dropped none ready).modLines fun x => { x with lowered := .all false }))
          (some .notQuiescent) :=
  ⟨.inr ⟨by decide, rfl⟩, .inl ⟨by decide, .inr ⟨by decide, rfl⟩⟩,
   .inl ⟨by decide, .inl ⟨by decide, .inr ⟨fun h => absurd (h .p1) (by decide), rfl⟩⟩⟩,
   .inl ⟨by decide, .inl ⟨by decide, .inr ⟨fun h => absurd (h .p1) (by decide), rfl⟩⟩⟩⟩

/-- The roof in ROOF_SAFE with an ARMED entry and no context; IN_SERVICE with the roof down in a sequence, failed and not. -/
theorem witness_RoofResetRestoresTheRoof_map :
    (let s := { ready with map := { RouteMap.initial with entries := [entry57] }, seq := { ready.seq with mode := .roofSafe } }
     s.free .a ∧ s.roofDown = true ∧ s.seq.ctx = none ∧ s.map.entries.any (fun e => e.state = .armed) = true)
      ∧ (let s := atStage change .selecting id (lowered610 .ac25)
         s.free .a ∧ s.holderOrM .a = true ∧ s.roofDown = true ∧ s.seq.mode = .inService
          ∧ s.seq.ctx.any (fun c => c.failure = none) = true)
      ∧ (let s := atStage change .recovering (fun c => { c with failure := some ⟨.noTarget, .raising, none⟩ })
            (lowered610 .ac25)
         s.roofDown = true ∧ s.seq.ctx.any (fun c => c.failure = some ⟨.noTarget, .raising, none⟩) = true) := by
  decide +kernel

/-- LOWER_ALL in a sequence, failed and not, and in none. -/
theorem witness_LowerAllLowersTheRoof_map :
    (let s := atStage change .opening id roof610
     s.free .b ∧ s.seq.ctx.any (fun c => c.failure = none && c.entry.id = 57) = true)
      ∧ (atStage change .recovering (fun c => { c with failure := some ⟨.noTarget, .raising, none⟩ }) roof610).seq.ctx.any
          (fun c => c.failure = some ⟨.noTarget, .raising, none⟩) = true
      ∧ roof610.free .b ∧ roof610.seq.ctx = none := by
  decide +kernel

theorem witness_WeatherAndFaultClear :
    ready.free .m ∧ ready.seq.mode ≠ .roofSafe ∧ pairOf 1 = some true ∧ Link.b ≠ .m ∧ ready.holderOrM .a = true
      ∧ ready.holderOrM .b = false
      ∧ (ready.modSeq fun q => { q with mode := .roofSafe }).seq.mode = .roofSafe := by
  decide +kernel

theorem witness_LowerAllLowersTheRoof : (live .closed).free .b ∧ (live .closed).roofDown = false := by decide +kernel

/-- A LOWER_ALL in flight with the roof down, and with a pantograph up; none in flight. -/
theorem witness_LowerAllLowersTheRoof_ends :
    (let s := { ready with longOps := [⟨.b, .lowerAll, true⟩] }
     s.StandsDown ∧ (∃ o ∈ s.longOps, o.kind = .lowerAll))
      ∧ ¬ (live .closed).StandsDown ∧ (∀ o ∈ ready.longOps, o.kind ≠ .lowerAll) ∧ ready.roofDown = true :=
  ⟨⟨fun p => by cases p <;> decide +kernel, _, .head _, rfl⟩, fun h => absurd (h .p1) (by decide), nofun, by decide +kernel⟩

/-- No link holds the authority. -/
def unheld : State := { ready with auth := .initial }

theorem witness_AuthRequestGrantsOrWaits :
    (ready.free .a ∧ ready.auth.holder = some .a)
      ∧ ((heldByB (some .a) none).auth.holder ≠ some .a ∧ (heldByB (some .a) none).auth.requester = some .a)
      ∧ ((heldByB (some .m) none).auth.requester = some .m ∧ Link.m ≠ .a)
      ∧ ((heldByB none none).auth.requester = none ∧ (heldByB none none).auth.holder = some .b)
      ∧ (unheld.modTrv fun t => { t with speed := 1 }).deferred (some .b) = true
      ∧ (unheld.free .a ∧ unheld.auth.holder = none ∧ unheld.auth.requester = none
          ∧ unheld.deferred (some .a) = false) := by
  decide +kernel

theorem witness_LeadingEndChangeClearsTheMap :
    unheld.free .b ∧ unheld.auth.holder = none ∧ unheld.auth.requester = none ∧ unheld.deferred (some .b) = false
      ∧ unheld.endChanges .b = true ∧ unheld.endChanges .a = false ∧ unheld.deferred (some .a) = false := by
  decide +kernel

theorem witness_ReleaseAndLapseOweAChange :
    (ready.free .a ∧ ready.auth.holder = some .a ∧ ready.auth.owed = none)
      ∧ ((heldByB (some .a) none).auth.requester = some .a ∧ (heldByB (some .a) none).auth.owed = none)
      ∧ (heldByB none none).auth.requester ≠ some .a
      ∧ ((heldByB (some .a) (some ⟨.breakerOpen, 1⟩)).modAuth fun a => { a with owed := some .release }).auth.owed ≠ none
      ∧ ((heldByB (some .a) none).modAuth fun a => { a with owed := some .release }).deferred none = false
      ∧ (ready.modAuth fun a => { a with owed := some .release }).auth.owed ≠ none
      ∧ (later 1000 (ready.modAuth fun a => { a with supervision := some ⟨0, 1000⟩ })).lapseDue = true := by
  decide +kernel

/-- A change owed to a requester of the other end at standstill, one that no request follows, a request with no holder, one that
motion defers, and none; a parked command under a holder and under none; a command row of a holder. -/
theorem witness_ReleaseAndLapseOweAChange_grants :
    (let s := (heldByB (some .a) (some ⟨.breakerOpen, 1⟩)).modAuth fun a => { a with owed := some .release, leading := .endB }
     s.auth.owed ≠ none ∧ (∀ e ∈ s.map.entries, e.state ≠ .active) ∧ s.auth.requester = some .a
      ∧ s.endChanges .a = true ∧ s.trv.speed = 0 ∧ (s.modTrv fun t => { t with speed := 1 }).trv.speed ≠ 0)
      ∧ ((ready.modAuth fun a => { a with owed := some .lapse }).auth.owed ≠ none
          ∧ (ready.modAuth fun a => { a with owed := some .lapse }).auth.requester = none)
      ∧ ((ready.modAuth fun a => { a with holder := none, requester := some .m }).auth.holder = none
          ∧ ready.endChanges .m = false)
      ∧ (ready.auth.owed = none ∧ ready.auth.requester = none)
      ∧ (let s := ready.modAuth fun a => { a with parked := some ⟨.breakerOpen, 1⟩ }
         s.auth.parked = some ⟨.breakerOpen, 1⟩ ∧ s.auth.holder = some .a)
      ∧ ((Instr.breakerOpen .a 1).offered = some (.a, 1, .breakerOpen) ∧ isAuthority .breakerOpen = true
          ∧ ready.commands .a) := by
  decide +kernel

/-- A write of PULSE_LENGTH at the end of its range; ARC_SET and ARC_CLEAR one apart and met; items and indices at the edges of
Table 11-1; a roof that is quiescent and one that is not. -/
theorem witness_ConfigWriteWritesTheItem :
    State.reset.free .m ∧ State.reset.seq.mode = .configPending
      ∧ (slotOf 1 0).map (fun t => (t.lo, t.hi)) = some (10, 2000)
      ∧ ((slotOf 27 0).isSome = true ∧ State.reset.cfg.items.arcClear < 6 ∧ 5 ≤ State.reset.cfg.items.arcClear)
      ∧ ((slotOf 28 0).isSome = true ∧ 19 < State.reset.cfg.items.arcSet ∧ State.reset.cfg.items.arcSet ≤ 20)
      ∧ (ready.free .m ∧ ready.quiescent = true ∧ ready.seq.mode = .inService)
      ∧ ((live .closed).seq.mode ≠ .configPending ∧ (live .closed).quiescent = false) := by
  decide +kernel

theorem witness_ConfigWriteWritesTheItem_items :
    ItemExists 30 0 ∧ ItemExists 9 4 ∧ ¬ ItemExists 31 0 ∧ ¬ ItemExists 0 0 ∧ ¬ ItemExists 4 0 ∧ ¬ ItemExists 1 1 := by
  simp [ItemExists]

/-- The power-on configuration with every force point at 40 N. -/
def loaded : State := State.reset.modCfg fun c => { c with tables := ⟨List.replicate 9 40, List.replicate 9 40⟩ }

/-- In IN_SERVICE a write of PAN_POSITION of pantograph 1 keeps the checks at the car length, and fails one beyond it. -/
theorem witness_ConfigWriteWritesTheItem_checks :
    (∀ slot, slotOf 4 1 = some slot → ChecksPass (slot.write 25000 loaded.cfg.items) loaded.cfg.tables)
      ∧ (∀ slot, slotOf 4 1 = some slot → ¬ ChecksPass (slot.write 25001 loaded.cfg.items) loaded.cfg.tables)
      ∧ (slotOf 4 1).map (fun t => t.hi) = some 30000 := by
  have e : ∀ slot, slotOf 4 1 = some slot →
      slot = ⟨0, 30000, fun i => i.panPosition.get .p1, fun v i => { i with panPosition := i.panPosition.set .p1 v }⟩ :=
    fun _ h => (Option.some.inj h).symm
  refine ⟨fun slot h => ?_, fun slot h k => absurd (k.2.1 .p1) ?_, rfl⟩
  · obtain rfl := e slot h
    refine ⟨fun f h => ?_, fun p => by cases p <;> unfold PositionPasses <;> decide, fun y p h => ?_⟩
    · simp [loaded, State.modCfg] at h
      omega
    · cases y <;> cases p <;> revert h <;> decide
  · obtain rfl := e slot h
    unfold PositionPasses
    decide

theorem witness_CommitAndReopen :
    (loaded.free .m ∧ loaded.seq.mode = .configPending) ∧ (ready.free .m ∧ ready.quiescent = true)
      ∧ (ready.free .a ∧ Link.a ≠ .m) ∧ (live .closed).seq.mode ≠ .configPending ∧ (live .closed).quiescent = false
      ∧ State.reset.quiescent = false := by
  decide +kernel

/-- Each report: no points written, pantographs 2 and 3 beyond the car, and AC pantographs named for both DC systems. -/
theorem witness_CommitAndReopen_reports :
    ChecksPass loaded.cfg.items loaded.cfg.tables
      ∧ FirstFailed State.reset.cfg.items State.reset.cfg.tables .points
      ∧ FirstFailed { loaded.cfg.items with panPosition := ⟨25000, 25001, 25001, 0⟩ } loaded.cfg.tables (.position .p2)
      ∧ FirstFailed { loaded.cfg.items with panAlternate := ⟨some .p1, none, some .p1, some .p2⟩ } loaded.cfg.tables
          (.target .dc30) := by
  have pts : PointsPass loaded.cfg.tables := fun f h => by
    simp [loaded, State.modCfg] at h
    omega
  refine ⟨⟨pts, fun p => ?_, fun y p h => ?_⟩, fun h => absurd (h 0 (.inl ?_)) (by decide), ⟨pts, ?_, fun q h => ?_⟩,
    ⟨pts, fun p => ?_, fun h => absurd (h .p1 (.inr rfl)) (by decide), fun z h p k => ?_⟩⟩
  · cases p <;> unfold PositionPasses <;> decide
  · cases y <;> cases p <;> revert h <;> decide
  · decide
  · unfold PositionPasses
    decide
  · cases q <;> unfold PositionPasses <;> revert h <;> decide
  · cases p <;> unfold PositionPasses <;> decide
  · cases z <;> cases p <;> revert h k <;> decide

/-- Pantograph 1 with an operation of ICE in place. -/
def owned (op : Op) : State := ready.modPan .p1 fun c => { c with job := some ⟨.ice, op⟩ }

/-- CONFIG_PENDING and a quiescent roof in service; another link; a roof that is not quiescent. -/
theorem witness_ConfigurationActs_class :
    (State.reset.free .m ∧ State.reset.Configures) ∧ (ready.free .m ∧ ready.Configures) ∧ (ready.free .a ∧ Link.a ≠ .m)
      ∧ ((live .closed).free .m ∧ (live .closed).seq.mode ≠ .configPending ∧ (live .closed).quiescent = false) :=
  ⟨⟨by decide +kernel, .inl rfl⟩, ⟨by decide +kernel, .inr (by decide +kernel)⟩, by decide +kernel, by decide +kernel⟩

theorem witness_ConfigurationActs :
    ((ready.ch .p1).state = .lowered ∧ (ready.ch .p1).job = none ∧ ((headIs .raised none ready).ch .p1).state ≠ .lowered
        ∧ ((owned .lower).ch .p1).job ≠ none ∧ ((owned .lower).ch .p1).state = .lowered)
      ∧ (((headIs .isolated none ready).ch .p1).state = .isolated
          ∧ (headIs .isolated none ready).lines.lowered.get .p1 = true
          ∧ ((headIs .isolated none ready).modLines fun x => { x with lowered := .all false }).lines.lowered.get .p1 = false)
      ∧ (classOf 2 = some .dc ∧ classOf 3 = none ∧ (8 : Nat) ≤ 8 ∧ (39 : Nat) < 40 ∧ (200 : Nat) < 201)
      ∧ (let s := ready.modPort .m fun q => { q with cursor := .tableWrite .dc 7, lastTaken := some 0x10 }
         s.free .m ∧ (s.lnk.get .m).cursor = .tableWrite .dc 7 ∧ (s.lnk.get .m).lastTaken = some 0x10)
      ∧ (let s := ready.modPort .m fun q => { q with cursor := .tableWrite .dc 8, lastTaken := some 0x04 }
         s.free .m ∧ (s.lnk.get .m).cursor = .tableWrite .dc 8 ∧ (s.lnk.get .m).lastTaken ≠ some 0x0F
          ∧ (s.lnk.get .m).lastTaken ≠ some 0x10 ∧ (s.lnk.get .m).lastTaken ≠ some 0x01)
      ∧ (ready.lnk.get .m).cursor = .none := by
  decide +kernel

theorem witness_PowerOnSetsEveryBlock :
    (∀ p, (ready.lines.discFb.get p).isSome = true) ∧ ready.lines.selectorFb.isSome = true ∧ ready.lines.earthed = false :=
  ⟨fun p => by cases p <;> rfl, rfl, rfl⟩

/-- The travel pulse line in a state. -/
def pulsing (x : PulseState) : State := ready.modLines fun y => { y with travelPulse := x }

theorem witness_TravelPulseMovesTheFront :
    (ready.lines.travelPulse = .inactive ∧ 19 < ready.cfg.items.pulseMinWidth ∧ ready.cfg.items.pulseMinWidth ≤ 20)
      ∧ (pulsing .accepted).lines.travelPulse = .accepted ∧ (pulsing (.active 20)).lines.travelPulse = .active 20
      ∧ (true = true ↔ (ready.auth.leading = .endA ∧ TravelDir.aForward = .aForward
          ∨ ready.auth.leading = .endB ∧ TravelDir.aForward = .bForward))
      ∧ (false = true ↔ (ready.auth.leading = .endA ∧ TravelDir.bForward = .aForward
          ∨ ready.auth.leading = .endB ∧ TravelDir.bForward = .bForward))
      ∧ (let s := { roof610 with
            map := { RouteMap.initial with entries := [entry57] }, trv := { roof610.trv with front := 152585900 } }
         (s.map.entries.map (·.id)).Nodup ∧ entry57 ∈ s.map.entries ∧ entry57.state ≠ .active
          ∧ (entry57.start + entry57.length) * 1000 + largestOffset s.trv.offsets s.usablePans
              + s.cfg.items.clearMargin * 1000 ≤ s.trv.front + s.cfg.items.pulseLength) := by
  decide +kernel

theorem witness_SpeedIntervalEnds :
    ((live .closed).ch .p1).state.isRaised = true ∧ ((live .closed).ch .p2).state.isRaised = false := by
  decide +kernel

/-- A stream RUNNING whose samples have been below the reference band, with a count since the last crossing. -/
def below (n : Option Nat) : State :=
  ready.modLdet fun d => { d with stream := .running, lowSeen := true, lastCross := n }

/-- A window one sample short of its end with a sum of squares, a sum and periods of 96 samples. -/
def almost (sum : Int) (sq k : Nat) : State :=
  ready.modLdet fun d => { d with stream := .running, win := ⟨479, sum, sq, k, some 96, some 96⟩ }

/-- What a last-window record holds after a sample of 0. -/
def recorded (f : WindowRecord → Bool) (s : State) : Bool := (takeSample 0 s).ldet.last.any f

/-- A stream RUNNING with a number of samples in the window. -/
def window (n : Nat) : State := ready.modLdet fun d => { d with stream := .running, win := { Window.fresh with n := n } }

theorem witness_SamplesFillTheWindow :
    ((window 478).ldet.stream = .running ∧ (window 478).ldet.win.n + 1 < 480) ∧ ready.ldet.stream ≠ .running
      ∧ (window 479).ldet.win.n + 1 = 480 ∧ (later 2 (window 0)).lossDue = true
      ∧ ((below (some 95)).ldet.lowSeen = true ∧ (below (some 95)).ldet.mRef + 500 ≤ (500 : BitVec 16).toInt)
      ∧ ((below (some 1021)).ldet.lastCross = some 1021 ∧ 1021 + 1 ≠ 1023)
      ∧ ((below (some 1022)).ldet.lastCross = some 1022 ∧ (below none).ldet.lastCross = none)
      ∧ ¬ ((below none).ldet.lowSeen = true ∧ (below none).ldet.mRef + 500 ≤ (499 : BitVec 16).toInt)
      ∧ recorded (fun w => 400 ≤ w.totalRms * 2 && 1 ≤ w.periods && 5000 ≤ w.acRms * 2 && w.pMin = some 96
          && w.raw = .sys .ac25) (almost 0 75000000000 5) = true
      ∧ recorded (fun w => 400 ≤ w.totalRms * 2 && w.acRms * 2 < 5000 && w.raw = .sys .dc15)
          (almost 432000 390528100 0) = true := by
  decide +kernel

/-- A roof at AC25 that detects another system, and no system; a selector that comes to rest at DC 3 kV and at AC25; the window
that confirms DC 1.5 kV. -/
theorem witness_SamplesFillTheWindow_check :
    (.raw (.sys .dc30) ≠ ready.ldet.detected ∧ ready.Mismatch (.raw (.sys .dc30)) ∧ ready.Mismatch (.raw .unclassified))
      ∧ (.raw .dead ≠ ready.ldet.detected ∧ ¬ ready.Mismatch (.raw .dead))
      ∧ (({ ready with bsc := { ready.bsc with selector := .rest (.sys .dc30) } } : State).Mismatch ready.ldet.detected
          ∧ ¬ ({ ready with bsc := { ready.bsc with selector := .rest (.sys .ac25) } } : State).Mismatch ready.ldet.detected)
      ∧ (let s := (almost 432000 390528100 0).modLdet fun d => { d with candidate := some (.sys .dc15), count := 7 }
         (takeSample 0 s).ldet.detected = .raw (.sys .dc15) ∧ s.ldet.win.n + 1 = 480 ∧ s.fault = none
          ∧ s.Mismatch (.raw (.sys .dc15))) := by
  refine ⟨⟨by decide, ⟨by decide, .ac25, rfl, .inr ⟨.dc30, by decide, rfl⟩⟩, by decide, .ac25, rfl, .inl rfl⟩, ⟨by decide, ?_⟩,
    ⟨⟨by decide, .dc30, rfl, .inr ⟨.ac25, by decide, rfl⟩⟩, ?_⟩, by decide +kernel, by decide +kernel, rfl, by decide, .ac25,
    rfl, .inr ⟨.dc15, by decide, rfl⟩⟩
  · rintro ⟨-, y, -, h | ⟨z, -, h⟩⟩ <;> cases h
  · rintro ⟨-, y, ⟨⟩, h | ⟨z, k, h⟩⟩
    · cases h
    · cases h
      exact k rfl

theorem witness_SquareRootsRoundDown : 281474976710655 < 2 ^ 48 := by decide

theorem witness_InputsMoveTheirPantograph :
    ((headIs .raising none ready).ch .p1).state = .raising ∧ ((headIs .settling none ready).ch .p1).state = .settling
      ∧ (((headIs .raised none ready).ch .p1).state = .raised ∧ ((headIs .raised none ready).ch .p1).loss = none)
      ∧ (ready.ch .p1).state.isRaised = false ∧ ((headIs .lowering none ready).ch .p1).state = .lowering
      ∧ (ready.ch .p1).state = .lowered ∧ ((headIs .dropped none ready).ch .p1).state = .dropped := by
  decide +kernel

/-- Pantograph 1 RAISED with a commanded pressure of 100 kPa and a count of low samples. -/
def pressed (below : Nat) : State :=
  ((headIs .raised (some .collecting) ready).modPan .p1 fun c => { c with below := below }).modForce .p1 fun f =>
    { f with pCmd := 100 }

theorem witness_PressureSamplesGuardTheHead :
    (ready.ch .p1).state.isRaised = false ∧ ((pressed 0).ch .p1).state.isRaised = true
      ∧ (((pressed 0).freg.get .p1).pCmd : Int) - (pressed 0).cfg.items.dropThreshold ≤ 40
      ∧ 39 < (((pressed 0).freg.get .p1).pCmd : Int) - (pressed 0).cfg.items.dropThreshold
      ∧ ((pressed 0).ch .p1).below = 0 ∧ 1 ≤ ((pressed 1).ch .p1).below ∧ (-21 : Int) < -20 ∧ (700 : Int) < 701
      ∧ (later 20 (pressed 0)).pressureDue .p1 = true := by
  decide +kernel

/-- SETTLING with the target reached and 15 kPa to either side, with the timer stopped and running; and with the target not
reached. -/
theorem witness_PressureSamplesGuardTheHead_settling :
    let s := (headIs .settling (some .collecting) (pressed 0)).modForce .p1 fun f => { f with target := some 100 }
    (s.ch .p1).state = .settling ∧ (s.freg.get .p1).target = some (s.freg.get .p1).pCmd
      ∧ ((s.freg.get .p1).pCmd : Int) - 15 = 85 ∧ ((s.freg.get .p1).pCmd : Int) + 15 = 115 ∧ (s.ch .p1).settle = none
      ∧ ((s.modPan .p1 fun c => { c with settle := some 7 }).ch .p1).settle = some 7
      ∧ ((takePressure .p1 115 s).ch .p1).state ≠ .dropped ∧ ((takePressure .p1 116 s).ch .p1).state ≠ .dropped
      ∧ ((pressed 0).freg.get .p1).target ≠ some ((pressed 0).freg.get .p1).pCmd := by
  decide +kernel

theorem witness_PantographLimitsAct :
    (later 1500 ((headIs .settling none ready).modPan .p1 fun c => { c with settle := some 0 })).settleDue .p1 = true
      ∧ (later 12000 (headIs .raising none ready)).raiseDue .p1 = true
      ∧ (later 500 ((headIs .raised none ready).modPan .p1 fun c => { c with loss := some 0 })).contactDue .p1 = true
      ∧ (later 8000 (headIs .lowering none ready)).lowerDue .p1 = true
      ∧ (((owned (.raise .scrape)).ch .p1).job = some ⟨.ice, .raise .scrape⟩
          ∧ ((owned .lower).ch .p1).job = some ⟨.ice, .lower⟩ ∧ (ready.ch .p1).job = none)
      ∧ ((ready.modLines fun x => { x with lowered := .all false }).lines.lowered.get .p1 = false) := by
  decide +kernel

/-- The disconnector of pantograph 1 on its way to DISCONNECTED. -/
def discMoving : State := ready.modPan .p1 fun c => { c with disc := .moving .disconnected }

theorem witness_DisconnectorEvents :
    (discMoving.ch .p1).disc = .moving .disconnected ∧ (ready.ch .p1).disc = .resting .connected
      ∧ (none : Option DiscPos) ≠ some .connected ∧ (later 2000 discMoving).discDue .p1 = true
      ∧ discMoving.lines.discFb.get .p1 ≠ some .disconnected := by
  decide +kernel

/-- The move that reaches its limit with its operation in place and with none; a LOWER in place of it. -/
theorem witness_DisconnectorEvents_outcome :
    (let s := later 2000 (discMoving.modPan .p1 fun c => { c with job := some ⟨.ice, .discMove .disconnected⟩ })
     s.discDue .p1 = true ∧ (s.ch .p1).job = some ⟨.ice, .discMove .disconnected⟩
      ∧ (s.ch .p1).disc = .moving .disconnected ∧ s.lines.discFb.get .p1 ≠ some .disconnected)
      ∧ (discMoving.ch .p1).job = none
      ∧ ((discMoving.modPan .p1 fun c => { c with job := some ⟨.ice, .lower⟩ }).ch .p1).job
          = some ⟨.ice, .lower⟩ := by
  decide +kernel

theorem witness_BreakerEvents :
    (live .closing).bsc.breaker = .closing ∧ (live .opening).bsc.breaker = .opening ∧ (live .closed).bsc.breaker = .closed
      ∧ (live .opened).bsc.breaker = .opened ∧ BreakerReading.invalid ≠ .opened
      ∧ ((later 300 (live .closing)).closeDue = true ∧ (live .closing).lines.breakerFb ≠ .closed)
      ∧ (let s := (later 200 (live .opening)).modLines fun x => { x with breakerFb := .closed }
         s.openDue = true ∧ s.lines.breakerFb ≠ .opened ∧ s.reports = [])
      ∧ (let s := (later 300 (live .closing)).modLines fun x => { x with breakerFb := .invalid }
         s.closeDue = true ∧ s.lines.breakerFb ≠ .opened ∧ s.lines.breakerFb ≠ .closed ∧ s.reports = [])
      ∧ ((live .closed).interlock = true ∧ (breakerIs .closed ready).interlock = false) := by
  decide +kernel

/-- The selector on its way from AC25 to OPEN. -/
def selMoving : State := ready.modBsc fun q => { q with selector := .moving (some (.sys .ac25)) .opened }

theorem witness_SelectorAndEarthEvents :
    selMoving.bsc.selector = .moving (some (.sys .ac25)) .opened ∧ ready.bsc.selector = .rest (.sys .ac25)
      ∧ (none : Option SelPos) ≠ some (.sys .ac25) ∧ (later 4000 selMoving).moveDue = true
      ∧ selMoving.lines.selectorFb ≠ some .opened ∧ ready.lines.earthed = false ∧ ready.bsc.permit = false
      ∧ ready.reports = [] ∧ (dead.modBsc fun q => { q with permit := true }).bsc.permit = true := by
  decide +kernel

/-- A move that goes on, and one whose breaker has left OPEN; a selector at rest. -/
theorem witness_SelectorAndEarthEvents_move :
    selMoving.MoveGoesOn (some (.sys .ac25)) .opened ∧ ¬ (breakerIs .opening selMoving).MoveGoesOn (some (.sys .ac25)) .opened
      ∧ ∀ left sought, ready.bsc.selector ≠ .moving left sought :=
  ⟨⟨rfl, .inr fun p => by cases p <;> decide⟩, fun h => absurd h.1 (by decide), fun _ _ h => by cases h⟩

/-- A permit with its four conditions met, and with each of them ended. -/
theorem witness_SelectorAndEarthEvents_permit :
    let s := dead.modBsc fun q => { q with permit := true }
    (∀ p, (s.ch p).state = .lowered ∨ (s.ch p).state = .isolated) ∧ s.bsc.breaker = .opened
      ∧ s.ldet.detected = .raw .dead ∧ s.trv.speed = 0
      ∧ (((headIs .raising none s).ch .p1).state ≠ .lowered ∧ ((headIs .raising none s).ch .p1).state ≠ .isolated)
      ∧ (breakerIs .closed s).bsc.breaker ≠ .opened ∧ ready.ldet.detected ≠ .raw .dead
      ∧ (s.modTrv fun t => { t with speed := 1 }).trv.speed ≠ 0
      ∧ (s.modLines fun x => { x with earthed := true }).lines.earthed = true :=
  ⟨fun p => by cases p <;> exact .inl rfl, by decide +kernel⟩

/-- ROOF_SAFE entry in service and none in ROOF_SAFE; the second faults of a sequence that the trip of pantograph 2 failed. -/
theorem witness_SelectorAndEarthEvents_roof_safe :
    ready.seq.mode ≠ .roofSafe ∧ (ready.modSeq fun q => { q with mode := .roofSafe }).seq.mode = .roofSafe
      ∧ (live .closed).bsc.breaker ≠ .opened
      ∧ (let s := atStage change .recovering
            (fun c => { c with failure := some ⟨.fault .addTrip, .raising, some .p2⟩ }) roof610
         s.seq.mode ≠ .roofSafe ∧ s.seq.ctx.any (fun c => c.stage = .recovering
            && c.failure.all (fun f => f.reason ≠ .fault .addTrip ∨ f.pan ≠ some .p4)
            && c.failure.any (fun f => f.reason = .fault .addTrip ∧ f.pan = some .p2)) = true) := by
  decide +kernel

/-- The sequence of entry 57 in CONFIRMING. -/
def confirming (d : Detected) : State :=
  (atStage change .confirming (fun c => { c with confirmLen := 2000 }) roof610).modLdet fun x => { x with detected := d }

/-- A front behind every clearing threshold of entry 57. -/
def cleared (s : State) : State := s.modTrv fun t => { t with front := 152800000 }

/-- A reclose 59 999 ms back, and one 60 000 ms back. -/
theorem witness_LineAndSequenceLimits :
    (later 61000 (ready.modBsc fun q => { q with watch := .running 60000 })).watchDue = true
      ∧ ((61000 - 1001 : Time).toNat < 60000 ∧ 60000 ≤ (61000 - 1000 : Time).toNat)
      ∧ ((later 2000 ((live .opened).modBsc fun q => { q with recloseTimer := some 0 })).recloseDue = true
          ∧ (live .opened).interlock = true ∧ ready.interlock = false)
      ∧ ((later 2000 (confirming .unknown)).seq.ctx.isSome = true ∧ (later 2000 (confirming .unknown)).confirmDue = true)
      ∧ (let s := later 2000 (confirming (.raw .unclassified))
         s.confirmDue = true ∧ s.ldet.detected ≠ .raw .dead ∧ s.ldet.detected ≠ .unknown
          ∧ s.seq.ctx.any (fun c => s.ldet.detected.lineSys ≠ c.expected) = true)
      ∧ (let s := { roof610 with
            map := { RouteMap.initial with entries := [entry57], action := some ⟨57, 149300000⟩ } }
         entry57.state = .armed ∧ s.entryActive = false ∧ (149300000 : Int) ≤ s.trv.front
          ∧ ¬ (149300001 : Int) ≤ s.trv.front) := by
  decide +kernel

/-- The line-lost watch with its conditions, stopped and spent, and without them; the reclose timer likewise. -/
theorem witness_LineAndSequenceLimits_watches :
    (let s := (headIs .raised (some .collecting) dead).modBsc fun q => { q with traction := true }
     s.WatchRuns ∧ s.bsc.watch = .stopped ∧ (s.modBsc fun q => { q with watch := .spent }).bsc.watch ≠ .stopped)
      ∧ ¬ ready.WatchRuns
      ∧ (let s := (live .opened).modBsc fun q => { q with reclose := true, traction := true }
         s.RecloseRuns ∧ s.bsc.recloseTimer = none ∧ (s.modBsc fun q => { q with recloseTimer := some 0 }).bsc.recloseTimer ≠ none)
      ∧ ¬ ready.RecloseRuns :=
  ⟨⟨⟨rfl, rfl, ⟨⟨.p1, by decide, by decide⟩, by decide, by decide⟩, fun _ h => by cases h⟩, rfl, by decide⟩,
   fun h => absurd h.1 (by decide),
   ⟨⟨rfl, rfl, by decide, ⟨⟨.p1, by decide, by decide⟩, by decide, by decide⟩, .ac25, by decide, by decide⟩, by decide, by decide⟩,
   fun h => absurd h.1 (by decide)⟩

/-- The stages: OPENING with the breaker CLOSED and OPEN, LOWERING with a pantograph up, with all down before a move of the
selector, and with none to make, and SELECTING at the position sought. -/
theorem witness_LineAndSequenceLimits_opening_to_selecting :
    (let s := breakerIs .closed (atStage change .opening id roof610)
     s.seq.ctx.any (fun c => c.stage = .opening && c.form = .lowering) = true ∧ s.bsc.breaker ≠ .opened)
      ∧ (atStage change .opening id roof610).bsc.breaker = .opened
      ∧ (atStage change .lowering id roof610).up .p2 = true
      ∧ (let s := atStage change .lowering id (lowered610 .ac25)
         (∀ p, s.up p = false) ∧ s.seq.ctx.any (fun c => c.expected = some .dc30) = true
          ∧ s.systemPosition ≠ some .dc30 ∧ s.bsc.selector = .rest (.sys .ac25) ∧ s.bsc.breaker = .opened
          ∧ s.connectedLowered = true)
      ∧ (let s := atStage .lowerZone .lowering id (lowered610 .ac25)
         (∀ p, s.up p = false) ∧ s.seq.ctx.any (fun c => c.form = .lowerZone) = true)
      ∧ (let s := atStage change .selecting (fun c => { c with form := .lowering }) (lowered610 .dc30)
         s.seq.ctx.any (fun c => c.expected = s.systemPosition && c.expected.isSome) = true) := by
  refine ⟨by decide +kernel, by decide +kernel, by decide +kernel, ?_, ?_, by decide +kernel⟩
  · exact ⟨fun p => by cases p <;> decide +kernel, by decide +kernel⟩
  · exact ⟨fun p => by cases p <;> decide +kernel, by decide +kernel⟩

/-- The forms that ride through: OPENING with a pantograph scraping where the section passes one, LOWERING with it up and with it
down, no scraper to lower, and a ride-through whose selector stands at the other system of the class; the pantographs of the
clearing offset. -/
theorem witness_LineAndSequenceLimits_riding_through :
    (let s := atStage (.neutral 1) .opening id (headIs .raised (some .scrape) roof610)
     s.seq.ctx.all (fun c => c.form = .neutral && c.entry.sect.panLimit = some 1) = true ∧ s.bsc.breaker = .opened
      ∧ (s.ch .p1).state.isRaised = true ∧ (s.ch .p1).role = some .scrape)
      ∧ (let s := atStage (.neutral 1) .lowering (fun c => { c with scrapers := c.scrapers.set .p1 true })
           (headIs .lowering (some .scrape) roof610)
         s.up .p1 = true ∧ (headIs .lowered none s).up .p1 = false)
      ∧ (atStage (.neutral 2) .opening id roof610).seq.ctx.all (fun c => c.entry.sect.panLimit ≠ some 1) = true
      ∧ (let s := atStage (.systemChange .ac15 false 2) .opening id (lowered610 .ac25)
         s.seq.ctx.all (fun c => c.form = .rideThrough && c.expected = some .ac15) = true ∧ LineSys.ac25 ≠ .ac15
          ∧ LineSys.ac25.cls = LineSys.ac15.cls ∧ s.systemPosition ≠ some .ac15)
      ∧ (atStage change .clearing id roof610).seq.ctx.all (fun c => c.candidate = some .p4 && c.roofLive
          && (c.raisedAt.get .p2).isSome) = true
      ∧ (atStage change .clearing id (lowered610 .dc30)).seq.ctx.all (fun c => !c.roofLive
          && Pan.all.all fun p => c.raisedAt.get p = none) = true := by
  decide +kernel

/-- CLEARING one mm before its threshold and at it, with the roof live or not, with a candidate and without; RAISING with the
candidate RAISED; CONFIRMING at the expected system with traction wanted and not, with the breaker OPEN, CLOSING and OPENING, and
with the close interlock ceased; CLOSING with the breaker CLOSED and OPEN. -/
theorem witness_LineAndSequenceLimits_clearing_to_closing :
    (let s := atStage change .clearing id roof610
     s.seq.ctx.all (fun c => s.trv.front < (c.entry.start + c.entry.length) * 1000 + c.clearing
        + s.cfg.items.clearMargin * 1000) = true)
      ∧ (let s := cleared (atStage change .clearing (fun c => { c with roofLive := false }) roof610)
         s.seq.ctx.all (fun c => !c.roofLive && (c.entry.start + c.entry.length) * 1000 + c.clearing
            + s.cfg.items.clearMargin * 1000 ≤ s.trv.front) = true)
      ∧ (cleared (atStage change .clearing (fun c => { c with candidate := none }) roof610)).seq.ctx.all (fun c =>
            c.roofLive && c.form = .lowering) = true
      ∧ (let s := cleared (atStage change .clearing
            (fun c => { c with form := .lowering, roofLive := true, candidate := some .p4 }) (lowered610 .dc30))
         (s.ch .p4).state = .lowered ∧ (s.ch .p4).job = none ∧ s.raiseRefusal .p4 .collecting = none)
      ∧ (cleared (atStage (.neutral 2) .clearing id roof610)).seq.ctx.all (fun c => c.roofLive && c.form = .neutral) = true
      ∧ (let s := atStage change .raising (fun c => { c with step := .lift, candidate := some .p2 }) roof610
         (s.ch .p2).state = .raised ∧ s.seq.ctx.all (fun c => c.roofLive && c.form = .lowering) = true)
      ∧ (let s := atStage (.neutral 2) .confirming (fun c => { c with traction := true })
            { roof610 with ldet := { Detector.initial with detected := .raw (.sys .ac25) } }
         s.seq.ctx.all (fun c => c.expected = s.ldet.detected.lineSys && c.roofLive) = true ∧ s.interlock = true
          ∧ s.bsc.breaker = .opened ∧ (breakerIs .closing s).interlock = true
          ∧ (s.modLines fun x => { x with earthed := true }).interlock = false ∧ (breakerIs .opening s).bsc.breaker = .opening)
      ∧ ((breakerIs .closed (atStage change .closing id roof610)).bsc.breaker = .closed
          ∧ (atStage change .closing id roof610).bsc.breaker = .opened) := by
  decide +kernel

/-- DC 3 kV with pantograph 3 preferred and 4 the alternate: 3 fails, 4 fails, another fails; and with none configured; RECOVERING with the roof
down, and with the breaker CLOSED. -/
theorem witness_LineAndSequenceLimits_failures :
    (let s := atStage change .raising (fun c => { c with candidate := some .p3 })
        (roof610.modCfg fun c => { c with items := { c.items with
          panPreferred := ⟨none, none, some .p3, none⟩, panAlternate := ⟨none, none, some .p4, none⟩ } })
     s.RetriesWith .dc30 .p3 .p4 ∧ s.RetriesWith .dc30 .p4 .p3 ∧ s.RetriesWith .dc30 .p1 .p3 ∧ (s.ch .p3).job = none
      ∧ s.seq.ctx.all (fun c => !c.retryUsed && c.expected = some .dc30) = true)
      ∧ (∀ q, ¬ (atStage change .raising id roof610).RetriesWith .dc30 .p3 q)
      ∧ (let s := atStage change .recovering
            (fun c => { c with failure := some ⟨.noTarget, .raising, none⟩ }) (lowered610 .dc30)
         s.bsc.breaker = .opened ∧ s.seq.ctx.all (fun c => c.failure.isSome && !c.raised.p4) = true)
      ∧ (breakerIs .closed (atStage change .recovering id roof610)).bsc.breaker ≠ .opened := by
  refine ⟨⟨⟨by unfold State.RetryFits; decide +kernel, .inr ⟨by decide +kernel, ?_⟩⟩,
      ⟨by unfold State.RetryFits; decide +kernel, .inl (by decide +kernel)⟩,
      ⟨by unfold State.RetryFits; decide +kernel, .inl (by decide +kernel)⟩, by decide +kernel, by decide +kernel⟩,
    fun q => ?_, by decide +kernel, by decide +kernel⟩
  · rintro d h ⟨k, -⟩
    exact k (Option.some.inj h).symm
  · rintro ⟨-, h | ⟨h, -⟩⟩ <;> cases q <;> exact absurd h (by decide)

/-- SELECTING: a move of another in progress at the end of LOWERING and in the wait, a refused request (a move between
classes with a connected pantograph up, and one with the breaker CLOSED), and one that is taken. -/
theorem witness_LineAndSequenceLimits_selecting :
    (let s := (atStage change .lowering id (lowered610 .ac25)).modBsc fun q => { q with
        selector := .moving (some (.sys .ac25)) .opened }
     s.seq.ctx.any (fun c => c.form = .lowering && c.expected = some .dc30) = true ∧ s.systemPosition ≠ some .dc30
      ∧ s.bsc.selector = .moving (some (.sys .ac25)) .opened ∧ Pan.all.all (fun p => !s.up p) = true)
      ∧ ((breakerIs .closed (atStage change .lowering id (lowered610 .ac25))).bsc.breaker ≠ .opened)
      ∧ (let s := atStage change .selecting (fun c => { c with step := .awaitMove }) roof610
         s.seq.ctx.any (fun c => c.step = .awaitMove && c.expected = some .dc30) = true ∧ s.systemPosition ≠ some .dc30
          ∧ betweenClasses s.bsc.selector.leaves (.sys .dc30) = true ∧ s.connectedLowered = false)
      ∧ (let s := atStage change .selecting (fun c => { c with step := .awaitMove }) (lowered610 .ac25)
         s.bsc.selector = .rest (.sys .ac25) ∧ s.bsc.breaker = .opened ∧ s.connectedLowered = true) := by
  decide +kernel

/-- RAISING begins (`s`, behind the threshold with the roof live): a scraping candidate, one whose RAISE is refused, one
DROPPED, and one DISCONNECTED. In RAISING: each step with what it waits for and without. -/
theorem witness_LineAndSequenceLimits_raising :
    (let s := cleared (atStage change .clearing (fun c => { c with candidate := some .p1 }) roof610)
     s.seq.ctx.any (fun c => c.roofLive && c.form = .lowering && (c.entry.start + c.entry.length) * 1000 + c.clearing
          + s.cfg.items.clearMargin * 1000 ≤ s.trv.front) = true
      ∧ ((headIs .raised (some .scrape) s).ch .p1).state.isRaised = true
      ∧ ((headIs .raised (some .scrape) s).lines.lowered.get .p1 = true
          ∧ (s.modLines fun x => { x with lowered := .all false }).lines.lowered.get .p1 = false)
      ∧ ((s.ch .p1).state = .lowered ∧ (s.ch .p1).disc = .resting .connected
          ∧ (s.raiseRefusal .p1 .collecting).isSome = true)
      ∧ ((headIs .dropped none s).ch .p1).state = .dropped
      ∧ ((s.modPan .p1 fun c => { c with disc := .resting .disconnected }).ch .p1).disc = .resting .disconnected
      ∧ (s.ch .p1).job = none)
      ∧ (let s := atStage change .raising (fun c => { c with step := .lowerFirst, candidate := some .p1 }) (lowered610 .ac25)
         (s.ch .p1).state = .lowered ∧ (s.ch .p1).job = none ∧ s.raiseRefusal .p1 .collecting = none
          ∧ ((headIs .lowering none s).ch .p1).state ≠ .lowered
          ∧ ((s.modPan .p1 fun c => { c with disc := .moving .connected }).ch .p1).disc ≠ .resting .connected
          ∧ (s.ch .p1).state ≠ .raised) := by
  decide +kernel

/-- The collecting pantograph of a sequence: the collector of a neutral section, a granted and a joined candidate, and none;
the stages whose failure R131 and R128 tell apart; a LOWER_TIMEOUT of a role that R137 does not take. -/
theorem witness_LineAndSequenceLimits_collecting :
    (atStage (.neutral 2) .clearing id roof610).seq.ctx.any (fun c => c.collecting = some .p2 && c.stage ≠ .recovering) = true
      ∧ (atStage change .confirming (fun c => { c with raised := c.raised.set .p4 true }) roof610).seq.ctx.any
          (fun c => c.collecting = some .p4 && c.form = .lowering) = true
      ∧ (atStage change .closing (fun c => { c with joined := true }) roof610).seq.ctx.any
          (fun c => c.collecting = some .p4 && c.stage ≠ .raising && c.stage ≠ .confirming) = true
      ∧ (atStage change .raising id roof610).seq.ctx.any (fun c => c.collecting = none) = true
      ∧ (atStage change .lowering id roof610).seq.ctx.any (fun c => c.stage = .lowering && c.form = .lowering) = true
      ∧ some Duty.scrape ≠ some .collecting ∧ roof610.bsc.breaker = .opened
      ∧ Reason.fault .disconnectorFail ≠ .fault .lowerTimeout ∧ (∀ r, OpOutcome.done ≠ .failed r) := by
  refine ⟨by decide +kernel, by decide +kernel, by decide +kernel, by decide +kernel, by decide +kernel, by decide,
    by decide +kernel, by decide, by simp⟩

/-- The arc pulse input of pantograph 1 in a state. -/
def arcing (x : PulseState) : State := ready.modLines fun y => { y with arcPulse := y.arcPulse.set .p1 x }

theorem witness_ArcsAndTemperaturesCount :
    (ready.lines.arcPulse.get .p1 = .inactive ∧ 49 < ready.cfg.items.arcMinWidth ∧ ready.cfg.items.arcMinWidth ≤ 50)
      ∧ ((arcing .accepted).lines.arcPulse.get .p1 = .accepted ∧ (arcing (.active 50)).lines.arcPulse.get .p1 = .active 50)
      ∧ ((headIs .settling none ready).ch .p1).state = .settling ∧ (ready.ch .p1).state ≠ .settling
      ∧ (ready.ch .p1).state ≠ .raised ∧ (-500 : Int) ≤ -500 ∧ (800 : Int) ≤ 800 ∧ (-501 : Int) < -500
      ∧ (800 : Int) < 801 ∧ (later 5000 ready).staleDue = true
      ∧ (later 1000 (ready.modIce fun i => { i with tempState := .stale })).substituteDue = true := by
  decide +kernel

/-- The heater of pantograph 1 in a state. -/
def heaterIs (o : HeaterOut) : State := ready.modIce fun i => { i with heaters := i.heaters.set .p1 ⟨o, false⟩ }

theorem witness_IceLimitsAct :
    (later 300000 ready).releaseDue = true
      ∧ (later 60000 (ready.modIce fun i => { i with state := .confirmed, clearDwell := some 0 })).dwellDue = true
      ∧ (later 600000 (heaterIs (.on 0))).heaterOnDue .p1 = true
      ∧ (later 120000 (heaterIs (.rest 0))).heaterRestDue .p1 = true := by
  decide +kernel

/-- Pantograph 1 COLLECTING on AC25 with a number of arcs in its current bin, in an ice state. -/
def arcsIn (n : Nat) (x : IceState) : State :=
  (headIs .raised (some .collecting) ready).modIce fun i => { i with state := x, arcs := i.arcs.set .p1 { i.arcs.p1 with current := n } }

/-- One collector and none; ICE_WATCH, ICE_SUSPECT and ICE_CONFIRMED with each of their conditions and without. -/
theorem witness_IceLimitsAct_states :
    (∀ q, (arcsIn 0 .watch).IceCollects q ↔ q = .p1) ∧ (arcsIn 0 .watch).ldet.detected = .raw (.sys .ac25)
      ∧ (∀ p, ¬ ready.IceCollects p)
      ∧ ((arcsIn 0 .watch).ice.state = .watch ∧ (arcsIn 0 .watch).ice.run ≠ 60 ∧ (arcsIn 0 .watch).ice.weather = false
          ∧ ((arcsIn 0 .watch).modIce fun i => { i with weather := true }).ice.weather = true)
      ∧ (arcsIn 20 .suspect).cfg.items.arcSet ≤ (arcsIn 20 .suspect).level2
      ∧ ((arcsIn 19 .suspect).level2 < (arcsIn 19 .suspect).cfg.items.arcSet ∧ (arcsIn 19 .suspect).ice.releaseReached = false
          ∧ ((arcsIn 19 .suspect).modIce fun i => { i with releaseReached := true }).ice.releaseReached = true)
      ∧ ((arcsIn 5 .confirmed).level2 ≤ (arcsIn 5 .confirmed).cfg.items.arcClear ∧ (arcsIn 5 .confirmed).ice.clearDwell = none
          ∧ ((arcsIn 6 .confirmed).modIce fun i => { i with clearDwell := some 0 }).ice.clearDwell ≠ none)
      ∧ (arcsIn 6 .confirmed).cfg.items.arcClear < (arcsIn 6 .confirmed).level2 := by
  refine ⟨fun q => ?_, rfl, fun p => ?_, by decide +kernel⟩
  · cases q <;> unfold State.IceCollects <;> decide
  · cases p <;> unfold State.IceCollects <;> decide

/-- ICE_CONFIRMED with HEAT_AND_SCRAPE permitted at 20 000 mm/s: pantograph 2 collects, and 1 of its class stands ahead of it,
with its disconnector in a state; the procedure stands in a state. -/
def icy (d : Disc) (x : Scrape) : State :=
  { roof610 with
    pch := { roof610.pch with p1 := { Channel.initial with disc := d } }
    trv := { roof610.trv with speed := 20000, offsets := ⟨4000, 18500, 26000, 12000⟩ }
    iceEval := true
    ice := { Ice.initial with state := .confirmed, confResp := .heatAndScrape, permit := true, proc := x } }

theorem witness_IceLimitsAct_scrape :
    (let s := icy (.resting .connected) .idle
     s.startable = some .p1 ∧ s.iceEval = true ∧ s.ice.proc = .idle ∧ (s.ch .p1).job = none
      ∧ (s.ch .p1).disc = .resting .connected)
      ∧ (ready.iceEval = false ∧ ready.startable = none ∧ ready.ice.proc = .idle)
      ∧ (let s := icy (.resting .disconnected) .idle
         s.startable = some .p1 ∧ (s.ch .p1).disc = .resting .disconnected ∧ s.raiseRefusal .p1 .scrape = none)
      ∧ (let s := (icy (.resting .disconnected) .idle).modBsc fun q => { q with permit := true }
         s.startable = some .p1 ∧ s.raiseRefusal .p1 .scrape ≠ none)
      ∧ (icy .failed (.raise .p1 false)).ice.proc = .raise .p1 false
      ∧ (let s := icy (.resting .disconnected) (.disconnect .p1 false)
         s.ice.proc = .disconnect .p1 false ∧ s.startable = some .p1 ∧ (s.ch .p1).job = none
          ∧ s.raiseRefusal .p1 .scrape = none ∧ s.ice.proc.held = some .p1)
      ∧ (let s := headIs .raised (some .scrape) (icy (.resting .disconnected) (.on .p1))
         s.ice.proc = .on .p1 ∧ (s.ch .p1).state.isRaised = true ∧ (s.ch .p1).role = some .scrape ∧ s.scrapeHolds .p1 = true
          ∧ (s.modTrv fun t => { t with speed := 16666 }).scrapeHolds .p1 = false ∧ (s.ch .p1).job = none
          ∧ (s.modLines fun x => { x with lowered := .all false }).lines.lowered.get .p1 = false)
      ∧ ((icy (.resting .disconnected) (.on .p1)).ch .p1).state.isRaised = false
      ∧ ((icy (.resting .disconnected) (.lower .p1)).ice.proc = .lower .p1
          ∧ ((icy (.resting .disconnected) (.lower .p1)).ch .p1).state ≠ .lowering
          ∧ ((headIs .lowering none (icy (.resting .disconnected) (.lower .p1))).ch .p1).state = .lowering) := by
  decide +kernel

/-- A source above ICE owns pantograph 1; a request stands, its conditions holding or ceased. -/
theorem witness_IceLimitsAct_standing :
    (let s := (icy (.resting .connected) .idle).modPan .p1 fun c => { c with job := some ⟨.authority .a, .discMove .connected⟩ }
     s.startable = some .p1 ∧ (s.ch .p1).job = some ⟨.authority .a, .discMove .connected⟩ ∧ Source.authority .a ≠ .ice)
      ∧ (let s := icy .failed (.disconnect .p1 true)
         s.startable = some .p1 ∧ s.ice.proc = .disconnect .p1 true ∧ (s.ch .p1).disc ≠ .resting .disconnected
          ∧ (s.modTrv fun t => { t with speed := 0 }).startable ≠ some .p1)
      ∧ (let s := icy (.resting .disconnected) (.raise .p1 true)
         s.startable = some .p1 ∧ s.ice.proc = .raise .p1 true ∧ s.raiseRefusal .p1 .scrape = none)
      ∧ (ready.heaterWanted .p1 = false ∧ (ready.modIce fun i => { i with heaters := .all ⟨.off, true⟩ }).heaterWanted .p1 = true) := by
  decide +kernel

/-- Pantographs 1 and 3 of the collector's class at two offsets, with one entry of pan_limit 1 at a start. -/
def twoCandidates (o1 o3 start : Nat) : State :=
  let s := icy (.resting .connected) .idle
  { s with
    cfg := { s.cfg with items := { s.cfg.items with panClass := .all .ac } }
    trv := { s.trv with offsets := ⟨o1, 18500, o3, 20000⟩ }
    map := { RouteMap.initial with entries := [{ entry57 with sect := .neutral 1, start := start }] } }

/-- R13, R154, R155: the front-most of two candidates starts, of two at one offset the lower-numbered; a front inside its exclusion
span, which begins 100 000 mm before it here, makes ICE wait, and the other is not chosen. -/
theorem test_front_most_candidate :
    (twoCandidates 4000 4000 160000).startable = some .p1 ∧ (twoCandidates 4000 3999 160000).startable = some .p3
      ∧ (twoCandidates 4500 3999 149396).startable = none ∧ (twoCandidates 4500 3999 149397).startable = some .p3 := by
  decide +kernel

/-- One COLLECTING pantograph RAISED, and pantograph 1 a candidate ahead of it. -/
theorem witness_IceLimitsAct_candidate :
    (icy (.resting .connected) .idle).CollectsAlone .p2 ∧ (icy (.resting .connected) .idle).ScrapeCandidate .p2 .p1
      ∧ ∀ c, ¬ ((ready.ch c).state = .raised ∧ (ready.ch c).role = some .collecting) := by
  refine ⟨fun d => by cases d <;> decide, ⟨by decide, .inl (by decide), by decide, by decide⟩, fun c => ?_⟩
  cases c <;> decide

/-- No scrape pantograph with pantograph 1 DROPPED, and one with it LOWERED; the report owed and made. -/
theorem witness_IceLimitsAct_no_scraper :
    (let s := headIs .dropped none (icy (.resting .connected) .idle)
     s.CollectsAlone .p2 ∧ s.NoScraper .p2 ∧ s.iceEval = true ∧ s.ice.noPanReported = false
      ∧ (s.modIce fun i => { i with noPanReported := true }).ice.noPanReported = true)
      ∧ ¬ (icy (.resting .connected) .idle).NoScraper .p2 := by
  refine ⟨⟨fun d => by cases d <;> decide, ⟨by unfold State.ScrapeWanted; decide, fun p => ?_⟩, rfl, rfl, rfl⟩, fun h => ?_⟩
  · cases p <;> unfold State.StandsAhead <;> decide
  · exact absurd (h.2 .p1 rfl (.inl (by decide))) (by decide)

/-- R156: ICE's LOWER in SCRAPE_LOWER is ABORTED by the holder's LOWER, and the procedure is idle while S is LOWERING. -/
theorem test_scrape_lower_preempted :
    ∃ t, exec (.lower .a 1 1) ((icy (.resting .disconnected) (.lower .p1)).modPan .p1 fun c =>
        { c with state := .lowering, job := some ⟨.ice, .lower⟩ }) = .next t
      ∧ t.ice.proc = .idle ∧ t.pch.p1.state = .lowering :=
  ⟨_, rfl, by decide +kernel, by decide +kernel⟩

/-- Entry 57 ARMED with target 4, which the staging of section 6.10 takes with 4 its preferred one; with none configured the
staging takes none (R106, R107). -/
theorem witness_InputsMoveTheirPantograph_staging :
    let s := { roof610 with map := { RouteMap.initial with entries := [entry57] } }
    let t := s.modCfg fun c => { c with items := { c.items with panPreferred := ⟨none, none, some .p4, none⟩ } }
    s.map.entries.map (fun e => if e.state = .armed then s.staged e else e) ≠ s.map.entries
      ∧ t.map.entries.map (fun e => if e.state = .armed then t.staged e else e) = t.map.entries := by
  decide +kernel

/-- One millisecond before its limit each row is not due. -/
theorem witness_LimitsNotDueDoNothing :
    (rxIs (.receiving [2])).gapDue .a = false ∧ (rxIs .skipping).quietDue .a = false
      ∧ (later 19 (portIs (fun q => { q with holdOff := some 0 }) State.reset)).holdOffDue .a = false
      ∧ (later 1 (atSpace State.reset)).breakDue .a = false
      ∧ (later 1 (window 0)).lossDue = false ∧ (later 19 (pressed 0)).pressureDue .p1 = false
      ∧ ready.settleDue .p1 = false ∧ (later 11999 (headIs .raising none ready)).raiseDue .p1 = false
      ∧ ready.contactDue .p1 = false ∧ (later 7999 (headIs .lowering none ready)).lowerDue .p1 = false
      ∧ (later 1999 discMoving).discDue .p1 = false ∧ (later 299 (live .closing)).closeDue = false
      ∧ (later 199 (live .opening)).openDue = false ∧ ready.watchDue = false ∧ ready.recloseDue = false
      ∧ (later 3999 selMoving).moveDue = false ∧ (later 1999 (confirming .unknown)).confirmDue = false
      ∧ (later 4999 ready).staleDue = false ∧ ready.substituteDue = false ∧ (later 299999 ready).releaseDue = false
      ∧ ready.dwellDue = false ∧ (later 599999 (heaterIs (.on 0))).heaterOnDue .p1 = false
      ∧ (later 119999 (heaterIs (.rest 0))).heaterRestDue .p1 = false ∧ ready.lapseDue = false
      ∧ (ready.modClk fun c => { c with speedClock := 100 }).clk.speedClock = 100
      ∧ .speedIntervalEnd ∈ dueRows (ready.modClk fun c => { c with speedClock := 100 })
      ∧ .arcBinEnd ∉ dueRows (ready.modClk fun c => { c with binClock := 999 }) := by
  decide +kernel

/-- The roof in ROOF_SAFE with a filled fault record. -/
def faulted : State :=
  { ready with
    seq := { ready.seq with mode := .roofSafe }
    fault := some ⟨.lineLost, none, none, 0, 0, .unknown, .opened, none, 0⟩ }

/-- A response sent in that state, with a LOWER in the queue behind it. -/
theorem witness_FaultRecordAndRoofSafeStand :
    let s := { faulted with lnk := (linkWith [.response 1 2 .ok []] [⟨3, .lower 1⟩]).lnk }
    Instr.responseSent .a ≠ .powerOn
      ∧ (∀ l b, Instr.responseSent .a ≠ .frameComplete l b ∧ Instr.responseSent .a ≠ .byteReceived l b
          ∧ Instr.responseSent .a ≠ .faultyByte l b (sentTail b))
      ∧ (∃ t, exec (.responseSent .a) s = .next t) ∧ s.fault.isSome = true ∧ s.seq.mode = .roofSafe
      ∧ (s.lnk.get .a).queue = [⟨3, .lower 1⟩]
      ∧ (∀ l, ∀ f ∈ (s.lnk.get l).queue, f.cmd ≠ .faultClear ∧ f.cmd ≠ .roofReset)
      ∧ (∀ l tag, Instr.responseSent .a ≠ .faultClear l tag ∧ Instr.responseSent .a ≠ .roofReset l tag) :=
  ⟨by simp, by simp, ⟨_, rfl⟩, rfl, rfl, rfl, fun l => by cases l <;> decide, by simp⟩

/-- A state that meets every invariant has a next state: the roof with two entries in its map and an event waiting. -/
def busy : State := { mapped with pending := [.lowerAll .b 1] }

theorem witness_StepKeepsTheLinks : busy.Attended ∧ busy.QueuesServed ∧ ∃ t, step busy = .next t :=
  ⟨fun l => by cases l <;> rfl, fun l => by cases l <;> exact ⟨by decide, by decide⟩, _, rfl⟩

theorem witness_StepKeepsTheMapInOrder : busy.MapOrdered ∧ ∃ t, step busy = .next t :=
  ⟨by unfold State.MapOrdered Span.before; decide +kernel, _, rfl⟩

theorem witness_StepKeepsRaiseLimits : (live .closed).RaiseLimits ∧ ∃ t, step (live .closed) = .next t :=
  ⟨by unfold State.RaiseLimits; decide +kernel, _, rfl⟩

/-- The defaults of Table 11-1 lie in their ranges. -/
theorem default_items_bounded : Items.default.Bounded := by
  intro item x slot h
  unfold slotOf at h
  split at h <;> first
    | cases h
    | (unfold roofSlot at h; split at h <;> cases h; decide)
    | (unfold panSlot at h
       obtain ⟨p, -, rfl⟩ := Option.map_eq_some_iff.1 h
       cases p <;> decide)
    | (unfold sysSlot at h
       obtain ⟨y, -, rfl⟩ := Option.map_eq_some_iff.1 h
       cases y <;> decide)

theorem witness_StepKeepsTheBounds : busy.Bounded ∧ ∃ t, step busy = .next t :=
  ⟨{ travel := by unfold Travel.Bounded; decide +kernel
     detector := by unfold Detector.Bounded; decide +kernel
     tables := ⟨default_items_bounded, by unfold PointBounded; decide +kernel⟩
     forces := fun p => by cases p <;> decide +kernel
     rings := fun p => by cases p <;> (unfold ArcRing.Bounded; decide +kernel)
     level1 := by decide +kernel }, _, rfl⟩

end Sys2Proof.Tests
end

/-! ### The force table queries (R68) -/

namespace Sys2Proof.Machine

section ForceTableReads

variable {s u : State} {l : Link} {tag : Byte} {c : PClass} {i k : Nat} {st : Status} {bytes : List Byte}

/-- A continuation passes its first test exactly behind its opening command, itself or NOP (R185). -/
theorem continues_iff {opening next : Byte} : s.continues l opening next = true ↔
    (s.lnk.get l).lastTaken = some opening ∨ (s.lnk.get l).lastTaken = some next
      ∨ (s.lnk.get l).lastTaken = some Cmd.nop.code := by
  unfold State.continues
  cases (s.lnk.get l).lastTaken <;> simp [or_assoc]

/-! A query on a free link has no reaction behind it, so its state and its answer are the whole step. -/

theorem follow_of_quiet {x : Cmd} (h : followUp x = .quiet) (a : Answer) : follow x a s = s := by
  simp [follow, h]

/-- A command answered ILLEGAL_SEQUENCE is answered but not recorded (R181). -/
theorem takeCmd_outOfSequence {x : Cmd} (h : runCmd l tag x s = refuse u .illegalSequence) :
    takeCmd l tag x s = follow x (some (.illegalSequence, [])) (u.answeredOutOfSequence l tag x.code) := by
  simp only [takeCmd, h, refuse, recordTaken, handAnswer, hand, State.answeredOutOfSequence, State.modPort,
    PerLink.set_set, PerLink.get_set_same]

theorem exec_quiet_answered {r : Instr} {x : Cmd} (ho : r.offered = some (l, tag, x)) (hq : followUp x = .quiet)
    (hfree : s.free l) (hrun : runCmd l tag x (superviseFrame l s) = (u, some (st, bytes)))
    (hst : st ≠ .illegalSequence) : exec r s = .next (u.answered l tag x.code st bytes) := by
  rw [exec_free ho hfree, takeCmd_answered hrun hst, follow_of_quiet hq]

theorem exec_quiet_outOfSequence {r : Instr} {x : Cmd} (ho : r.offered = some (l, tag, x)) (hq : followUp x = .quiet)
    (hfree : s.free l) (hrun : runCmd l tag x (superviseFrame l s) = refuse u .illegalSequence) :
    exec r s = .next (u.answeredOutOfSequence l tag x.code) := by
  rw [exec_free ho hfree, takeCmd_outOfSequence hrun, follow_of_quiet hq]

/-! FORCE_TABLE_READ, case by case. -/

theorem exec_forceTableRead (hfree : s.free l)
    (hrun : cmdForceTableRead l k i (superviseFrame l s) = (u, some (st, bytes))) (hst : st ≠ .illegalSequence) :
    exec (.forceTableRead l tag k i) s = .next (u.answered l tag 0x11 st bytes) :=
  exec_quiet_answered (x := .forceTableRead k i) rfl rfl hfree hrun hst

theorem cmdForceTableRead_of_point (hc : classOf k = some c) (hi : i ≤ 8) :
    cmdForceTableRead l k i s = query (setCursor l (.tableRead c i) s) (s.tableResult c i) := by
  simp [cmdForceTableRead, hc, hi]

theorem cmdForceTableRead_of_badOperand (h : classOf k = none ∨ 9 ≤ i) :
    cmdForceTableRead l k i s = refuse (setCursor l .none s) .badOperand := by
  unfold cmdForceTableRead
  cases hc : classOf k with
  | none => rfl
  | some c =>
    have hi : 9 ≤ i := by simpa [hc] using h
    exact if_neg (by omega)

/-! FORCE_TABLE_READ_NEXT, case by case. -/

theorem exec_forceTableReadNext (hfree : s.free l)
    (hrun : cmdForceTableReadNext l (superviseFrame l s) = (u, some (st, bytes))) (hst : st ≠ .illegalSequence) :
    exec (.forceTableReadNext l tag) s = .next (u.answered l tag 0x12 st bytes) :=
  exec_quiet_answered (x := .forceTableReadNext) rfl rfl hfree hrun hst

theorem exec_forceTableReadNext_outOfSequence (hfree : s.free l)
    (hrun : cmdForceTableReadNext l (superviseFrame l s) = refuse u .illegalSequence) :
    exec (.forceTableReadNext l tag) s = .next (u.answeredOutOfSequence l tag 0x12) :=
  exec_quiet_outOfSequence (x := .forceTableReadNext) rfl rfl hfree hrun

theorem cmdForceTableReadNext_of_point (hcur : (s.lnk.get l).cursor = .tableRead c i)
    (hseq : s.continues l (Cmd.forceTableRead 0 0).code Cmd.forceTableReadNext.code = true) (hi : i < 8) :
    cmdForceTableReadNext l s = query (setCursor l (.tableRead c (i + 1)) s) (s.tableResult c (i + 1)) := by
  simp [cmdForceTableReadNext, hcur, hseq, Nat.not_le.2 hi]

theorem cmdForceTableReadNext_of_last (hcur : (s.lnk.get l).cursor = .tableRead c i)
    (hseq : s.continues l (Cmd.forceTableRead 0 0).code Cmd.forceTableReadNext.code = true) (hi : 8 ≤ i) :
    cmdForceTableReadNext l s = refuse (setCursor l .none s) .badOperand := by
  simp [cmdForceTableReadNext, hcur, hseq, hi]

theorem cmdForceTableReadNext_of_otherCommand
    (hseq : s.continues l (Cmd.forceTableRead 0 0).code Cmd.forceTableReadNext.code = false) :
    cmdForceTableReadNext l s = refuse s .illegalSequence := by
  unfold cmdForceTableReadNext
  cases (s.lnk.get l).cursor with
  | tableRead c i => simp [hseq]
  | none | map _ | tableWrite _ _ => rfl

theorem cmdForceTableReadNext_of_otherCursor (hcur : ∀ c i, (s.lnk.get l).cursor ≠ .tableRead c i) :
    cmdForceTableReadNext l s = refuse s .illegalSequence := by
  unfold cmdForceTableReadNext
  cases h : (s.lnk.get l).cursor with
  | tableRead c i => exact absurd h (hcur c i)
  | none | map _ | tableWrite _ _ => rfl

/-! The point returned. -/

/-- The tables are read as they stand before the frame. -/
theorem superviseFrame_tableResult (l : Link) (s : State) (c : PClass) (i : Nat) :
    (superviseFrame l s).tableResult c i = s.tableResult c i := by
  rw [superviseFrame_auth]
  rfl

theorem tableResult_eq (s : State) (c : PClass) (i : Nat) : s.tableResult c i =
    be 1 (match c with | .ac => 1 | .dc => 2) ++ be 1 i ++ be 2 (40 * i)
      ++ be 1 ((s.cfg.tables.get c)[i]?.getD 0) := by
  unfold State.tableResult tablePoint
  rw [List.getD_eq_getElem?_getD]
  cases c <;> rfl

end ForceTableReads

/-- Settles O13. The commands run in `superviseFrame l s`, whose links and tables are those of `s`; on a free link each case of
R68 is then the whole step. -/
theorem forceTableReads : Obligations.ForceTableReads := by
  intro l tag s hfree
  refine ⟨fun c k i hc hi => ?opening, fun k i h => ?refused, fun c i hcur hlast => ?continuation,
    fun h => ?outOfSequence, tableResult_eq s⟩
  case opening =>
    rw [← superviseFrame_tableResult l]
    exact exec_forceTableRead hfree (cmdForceTableRead_of_point hc hi) (by decide)
  case refused => exact exec_forceTableRead hfree (cmdForceTableRead_of_badOperand h) (by decide)
  case continuation =>
    rw [← superviseFrame_lnk l] at hcur hlast
    have hseq := continues_iff.2 hlast
    refine ⟨fun hi => ?_, fun hi => ?_⟩
    · rw [← superviseFrame_tableResult l]
      exact exec_forceTableReadNext hfree (cmdForceTableReadNext_of_point hcur hseq hi) (by decide)
    · exact exec_forceTableReadNext hfree (cmdForceTableReadNext_of_last hcur hseq hi) (by decide)
  case outOfSequence =>
    apply exec_forceTableReadNext_outOfSequence hfree
    rw [← superviseFrame_lnk l] at h
    obtain hcur | ⟨hopening, hnext, hnop⟩ := h
    · exact cmdForceTableReadNext_of_otherCursor hcur
    · refine cmdForceTableReadNext_of_otherCommand (Bool.eq_false_iff.2 fun hseq => ?_)
      obtain h | h | h := continues_iff.1 hseq
      exacts [hopening h, hnext h, hnop h]

end Sys2Proof.Machine

/-! ### The earthing permit (R93, R94) -/

namespace Sys2Proof.Machine

section EarthPermit

variable {s t u : State} {l : Link} {tag code : Byte} {n : Nat} {st : Status} {bytes : List Byte}
  {cs : Link → List Notice}

/-! The fields that the command reads stand at the restart of the supervision timer (R164), which no rule of R94 reads. -/

@[simp] theorem superviseFrame_seq (l : Link) (s : State) : (superviseFrame l s).seq = s.seq := by
  rw [superviseFrame_auth]

@[simp] theorem superviseFrame_bsc (l : Link) (s : State) : (superviseFrame l s).bsc = s.bsc := by
  rw [superviseFrame_auth]

@[simp] theorem superviseFrame_earthed (l : Link) (s : State) : (superviseFrame l s).earthed = s.lines.earthed := by
  rw [superviseFrame_auth]
  rfl

@[simp] theorem superviseFrame_permitHolds (l : Link) (s : State) :
    (superviseFrame l s).permitHolds = s.permitHolds := by
  rw [superviseFrame_auth]
  rfl

@[simp] theorem superviseFrame_holderOrM (l k : Link) (s : State) :
    (superviseFrame l s).holderOrM k = s.holderOrM k := by
  unfold superviseFrame
  split <;> rfl

/-! A command that acts on the roof, on a free link: a refusal is the whole step, and behind OK the reactions follow. -/

theorem exec_roof_refused {r : Instr} {x : Cmd} (ho : r.offered = some (l, tag, x)) (hx : followUp x = .roof)
    (hfree : s.free l) (hrun : runCmd l tag x (superviseFrame l s) = refuse u st) (heff : st.effective = false)
    (hst : st ≠ .illegalSequence) : exec r s = .next (u.answered l tag x.code st []) := by
  rw [exec_free ho hfree, takeCmd_answered hrun hst]
  simp [follow, hx, heff]

theorem exec_roof_ok {r : Instr} {x : Cmd} (ho : r.offered = some (l, tag, x)) (hx : followUp x = .roof)
    (hfree : s.free l) (hrun : runCmd l tag x (superviseFrame l s) = query u bytes) :
    exec r s = .next (settle (u.answered l tag x.code .ok bytes)) := by
  rw [exec_free ho hfree, takeCmd_answered hrun (by decide)]
  simp [follow, hx, Status.effective]

/-! Causes raised (R198). -/

theorem raises_refl (s : State) : s.Raises s fun _ => [] := fun k => by simp [causeBits]

theorem raises_notice (c : Notice) (s : State) : s.Raises (notice c s) fun _ => [c] := fun k => by
  rw [notice_get]
  simp [Port.raise, causeBits]

/-- Causes raised before a command is answered stand beside its answer. -/
theorem State.Raises.answered (h : s.Raises t cs) :
    s.Answers (t.answered l tag code st bytes) l tag code st bytes cs := fun k => by
  simp only [State.answered, State.modPort_lnk, PerLink.get_set]
  split
  · next hk => rw [hk, h l]
  · exact h k

/-- The restart of the supervision timer leaves the links. -/
theorem raises_superviseFrame : (superviseFrame l s).Raises u cs ↔ s.Raises u cs := by
  unfold State.Raises
  rw [superviseFrame_lnk]

/-! What a change of the permit does. -/

theorem setPermit_raises (b : Bool) (s : State) :
    s.Raises (setPermit b s) fun _ => if s.bsc.permit = b then [] else [.earth] := by
  unfold setPermit
  split
  · exact raises_refl s
  · exact raises_notice .earth _

theorem setPermit_bsc (b : Bool) (s : State) : (setPermit b s).bsc = { s.bsc with permit := b } := by
  unfold setPermit
  split
  · next h => rw [← h]
  · rfl

/-- The breaker control and the links alone change. -/
theorem setPermit_rest (b : Bool) (s : State) : { setPermit b s with bsc := s.bsc, lnk := s.lnk } = s := by
  unfold setPermit
  split <;> rfl

/-! EARTH_PERMIT, case by case. -/

theorem cmdEarthPermit_of_notHeld (hheld : s.holderOrM l = false) :
    cmdEarthPermit l n s = refuse s .authNotHeld := by
  simp [cmdEarthPermit, hheld]

theorem pairOf_of_other (hfirst : n ≠ 1) (hsecond : n ≠ 2) : pairOf n = none := by
  unfold pairOf
  split
  · exact absurd rfl hfirst
  · exact absurd rfl hsecond
  · rfl

theorem cmdEarthPermit_of_badOperand (hheld : s.holderOrM l = true) (hgive : n ≠ 1) (hwithdraw : n ≠ 2) :
    cmdEarthPermit l n s = refuse s .badOperand := by
  simp [cmdEarthPermit, hheld, pairOf_of_other hgive hwithdraw]

theorem cmdEarthPermit_give (hheld : s.holderOrM l = true) : cmdEarthPermit l 1 s =
    if s.seq.mode = .roofSafe then refuse s .roofSafe
    else if s.permitHolds = false then refuse s .interlock
    else query (setPermit true s) [] := by
  simp [cmdEarthPermit, hheld, pairOf]

theorem cmdEarthPermit_withdraw (hheld : s.holderOrM l = true) : cmdEarthPermit l 2 s =
    if s.earthed = true then refuse s .interlock else query (setPermit false s) [] := by
  simp [cmdEarthPermit, hheld, pairOf]

theorem exec_earthPermit_refused (hfree : s.free l)
    (hrun : cmdEarthPermit l n (superviseFrame l s) = refuse (superviseFrame l s) st) (heff : st.effective = false)
    (hst : st ≠ .illegalSequence) :
    exec (.earthPermit l tag n) s = .next ((superviseFrame l s).answered l tag 0x17 st []) :=
  exec_roof_refused (x := .earthPermit n) rfl rfl hfree hrun heff hst

/-- A permit given or withdrawn, with notice EARTH where it changes. -/
theorem exec_earthPermit_sets {b : Bool} (hfree : s.free l)
    (hrun : cmdEarthPermit l n (superviseFrame l s) = query (setPermit b (superviseFrame l s)) []) :
    ∃ u, exec (.earthPermit l tag n) s = .next (settle u)
      ∧ s.Answers u l tag 0x17 .ok [] (fun _ => if s.bsc.permit = b then [] else [.earth])
      ∧ u.bsc = { s.bsc with permit := b } ∧ { u with bsc := s.bsc, lnk := s.lnk } = superviseFrame l s := by
  have hraises := setPermit_raises b (superviseFrame l s)
  have hbsc := setPermit_bsc b (superviseFrame l s)
  have hrest := setPermit_rest b (superviseFrame l s)
  rw [raises_superviseFrame, superviseFrame_bsc] at hraises
  rw [superviseFrame_bsc] at hbsc
  rw [superviseFrame_bsc, superviseFrame_lnk] at hrest
  exact ⟨_, exec_roof_ok (x := .earthPermit n) rfl rfl hfree hrun, hraises.answered, hbsc, hrest⟩

end EarthPermit

/-- Settles O27. The command runs in `superviseFrame l s`, where the conditions of R93 and R94 are those of `s`; on a free link
its answer is then the whole step, and what it does is what `setPermit` does. -/
theorem earthPermitFollowsItsConditions : Obligations.EarthPermitFollowsItsConditions := by
  intro l tag s hfree
  refine ⟨fun n hheld => ?notHeld, fun hheld => ?held⟩
  case notHeld =>
    exact exec_earthPermit_refused hfree (cmdEarthPermit_of_notHeld (by simpa using hheld)) rfl (by decide)
  case held =>
    have hheld : (superviseFrame l s).holderOrM l = true := by simpa using hheld
    have hgive := cmdEarthPermit_give hheld
    have hwithdraw := cmdEarthPermit_withdraw hheld
    refine ⟨fun n h1 h2 => ?badOperand, fun hsafe => ?roofSafe, fun hsafe hcond => ?given, fun hsafe hcond => ?notGiven,
      fun hswitch => ?withdrawn, fun hswitch => ?notWithdrawn⟩
    case badOperand =>
      exact exec_earthPermit_refused hfree (cmdEarthPermit_of_badOperand hheld h1 h2) rfl (by decide)
    case roofSafe => exact exec_earthPermit_refused hfree (by simp [hgive, hsafe]) rfl (by decide)
    case given => exact exec_earthPermit_sets hfree (by simp [hgive, hsafe, hcond])
    case notGiven => exact exec_earthPermit_refused hfree (by simp [hgive, hsafe, hcond]) rfl (by decide)
    case withdrawn =>
      have hcauses : (if s.bsc.permit then [Notice.earth] else []) = if s.bsc.permit = false then [] else [.earth] := by
        cases s.bsc.permit <;> rfl
      rw [hcauses]
      exact exec_earthPermit_sets hfree (by simp [hwithdraw, hswitch])
    case notWithdrawn => exact exec_earthPermit_refused hfree (by simp [hwithdraw, hswitch]) rfl (by decide)

end Sys2Proof.Machine

/-! ### The commands on the route map (R98 to R103, R116, R117) -/

namespace Sys2Proof.Machine

section RouteMapCommands

variable {s u : State} {l : Link} {tag : Byte} {d e : Entry} {i k : Nat} {kind start length after swap limit : Nat}
  {st : Status} {bytes : List Byte}

/-! The commands run in `superviseFrame l s`, where what they read of the map and the odometer is that of `s` (R164). -/

@[simp] theorem superviseFrame_map (l : Link) (s : State) : (superviseFrame l s).map = s.map := by
  rw [superviseFrame_auth]

@[simp] theorem superviseFrame_trv (l : Link) (s : State) : (superviseFrame l s).trv = s.trv := by
  rw [superviseFrame_auth]

@[simp] theorem superviseFrame_clk (l : Link) (s : State) : (superviseFrame l s).clk = s.clk := by
  rw [superviseFrame_auth]

@[simp] theorem superviseFrame_iceEval (l : Link) (s : State) : (superviseFrame l s).iceEval = s.iceEval := by
  rw [superviseFrame_auth]

@[simp] theorem superviseFrame_insertRefusal (l : Link) (s : State) (start length : Nat) :
    (superviseFrame l s).insertRefusal start length = s.insertRefusal start length := by
  simp [State.insertRefusal]

@[simp] theorem superviseFrame_entryResult (l : Link) (s : State) (i : Nat) (e : Entry) :
    (superviseFrame l s).entryResult i e = s.entryResult i e := by
  simp [State.entryResult]

/-! An id names at most one entry (R99), so a search by id meets the entry that holds it. -/

theorem find_id_of_mem (hids : (s.map.entries.map (·.id)).Nodup) (he : e ∈ s.map.entries) :
    (s.map.entries.find? fun d => d.id = e.id) = some e := by
  cases hfind : s.map.entries.find? fun d => d.id = e.id with
  | none => exact absurd (decide_eq_true rfl) (List.find?_eq_none.1 hfind e he)
  | some d =>
    have hd : d.id = e.id := by simpa using List.find?_some hfind
    rw [List.inj_on_of_nodup_map hids (List.mem_of_find?_eq_some hfind) he hd]

theorem findIdx_id_of_getElem (hids : (s.map.entries.map (·.id)).Nodup) (hk : s.map.entries[k]? = some d) :
    (s.map.entries.findIdx? fun e => e.id = d.id) = some k := by
  obtain ⟨hlt, rfl⟩ := List.getElem?_eq_some_iff.1 hk
  refine List.findIdx?_eq_some_iff_getElem.2 ⟨hlt, by simp, fun j hj hid => ?_⟩
  have hjk : j = k := (hids.getElem_inj_iff (hi := by simpa using hj.trans hlt) (hj := by simpa using hlt)).1
    (by simpa using hid)
  omega

/-! MAP_READ, case by case (R116). -/

theorem exec_mapRead (hfree : s.free l)
    (hrun : cmdMapRead l i (superviseFrame l s) = (u, some (st, bytes))) (hst : st ≠ .illegalSequence) :
    exec (.mapRead l tag i) s = .next (u.answered l tag 0x1B st bytes) :=
  exec_quiet_answered (x := .mapRead i) rfl rfl hfree hrun hst

theorem cmdMapRead_of_entry (hi : i ≤ 63) (he : s.map.entries[i]? = some e) :
    cmdMapRead l i s = query (setCursor l (.map e.id) s) (s.entryResult i e) := by
  simp [cmdMapRead, returnEntry, Nat.not_lt.2 hi, he]

theorem cmdMapRead_of_pastLast (hi : i ≤ 63) (hlast : s.map.entries.length ≤ i) :
    cmdMapRead l i s = refuse (setCursor l .none s) .endOfMap := by
  simp [cmdMapRead, Nat.not_lt.2 hi, List.getElem?_eq_none hlast]

theorem cmdMapRead_of_badOperand (hi : 64 ≤ i) : cmdMapRead l i s = refuse (setCursor l .none s) .badOperand :=
  if_pos hi

/-! MAP_READ_NEXT, case by case (R117). -/

theorem exec_mapReadNext (hfree : s.free l)
    (hrun : cmdMapReadNext l (superviseFrame l s) = (u, some (st, bytes))) (hst : st ≠ .illegalSequence) :
    exec (.mapReadNext l tag) s = .next (u.answered l tag 0x1C st bytes) :=
  exec_quiet_answered (x := .mapReadNext) rfl rfl hfree hrun hst

theorem exec_mapReadNext_outOfSequence (hfree : s.free l)
    (hrun : cmdMapReadNext l (superviseFrame l s) = refuse u .illegalSequence) :
    exec (.mapReadNext l tag) s = .next (u.answeredOutOfSequence l tag 0x1C) :=
  exec_quiet_outOfSequence (x := .mapReadNext) rfl rfl hfree hrun

theorem cmdMapReadNext_of_entry (hcur : (s.lnk.get l).cursor = .map i)
    (hseq : s.continues l (Cmd.mapRead 0).code Cmd.mapReadNext.code = true)
    (hat : (s.map.entries.findIdx? fun e => e.id = i) = some k) (hnext : s.map.entries[k + 1]? = some e) :
    cmdMapReadNext l s = query (setCursor l (.map e.id) s) (s.entryResult (k + 1) e) := by
  simp [cmdMapReadNext, returnEntry, hcur, hseq, hat, hnext]

theorem cmdMapReadNext_of_last (hcur : (s.lnk.get l).cursor = .map i)
    (hseq : s.continues l (Cmd.mapRead 0).code Cmd.mapReadNext.code = true)
    (hat : (s.map.entries.findIdx? fun e => e.id = i) = some k) (hlast : s.map.entries.length = k + 1) :
    cmdMapReadNext l s = refuse (setCursor l .none s) .endOfMap := by
  simp [cmdMapReadNext, hcur, hseq, hat, List.getElem?_eq_none hlast.le]

theorem cmdMapReadNext_of_lost (hcur : (s.lnk.get l).cursor = .map i)
    (hseq : s.continues l (Cmd.mapRead 0).code Cmd.mapReadNext.code = true) (hlost : ∀ e ∈ s.map.entries, e.id ≠ i) :
    cmdMapReadNext l s = refuse (setCursor l .none s) .cursorLost := by
  have hat : (s.map.entries.findIdx? fun e => e.id = i) = none := by simpa using hlost
  simp [cmdMapReadNext, hcur, hseq, hat]

theorem cmdMapReadNext_of_otherCommand
    (hseq : s.continues l (Cmd.mapRead 0).code Cmd.mapReadNext.code = false) :
    cmdMapReadNext l s = refuse s .illegalSequence := by
  unfold cmdMapReadNext
  cases (s.lnk.get l).cursor with
  | map i => simp [hseq]
  | none | tableRead _ _ | tableWrite _ _ => rfl

theorem cmdMapReadNext_of_otherCursor (hcur : ∀ i, (s.lnk.get l).cursor ≠ .map i) :
    cmdMapReadNext l s = refuse s .illegalSequence := by
  unfold cmdMapReadNext
  cases h : (s.lnk.get l).cursor with
  | map i => exact absurd h (hcur i)
  | none | tableRead _ _ | tableWrite _ _ => rfl

/-! The layout of an entry (Table 10-2): the fields before its flags, then the flags and the action point. -/

/-- The fields of an entry before its flags, in the order of Table 10-2. -/
def entryFields (i : Nat) (e : Entry) : List Byte :=
  u8 i ++ be 2 e.id ++ u8 e.sect.num ++ be 4 e.start ++ be 2 e.length ++ sectionBytes e.sect
    ++ u8 (Link.num e.source) ++ u8 e.state.num ++ u8 (numOr0 Pan.num e.target)

theorem entryResult_of_action {x : Int} (h : s.map.action = some ⟨e.id, x⟩) : s.entryResult i e =
    entryFields i e ++ be 1 ((if e.late then 1 else 0) + (if e.noTarget then 2 else 0) + 4)
      ++ be 5 (x % 2 ^ 40).toNat := by
  have hflags : flagByte [e.late, e.noTarget, true] = (if e.late then 1 else 0) + (if e.noTarget then 2 else 0) + 4 := by
    cases e.late <;> cases e.noTarget <;> rfl
  have hpoint : (s.map.action.filter fun a => a.id = e.id) = some ⟨e.id, x⟩ := by
    simp [h, Option.filter]
  simp [State.entryResult, entryFields, hpoint, hflags, u8, sbe]

theorem entryResult_of_noAction (h : ∀ x : Int, s.map.action ≠ some ⟨e.id, x⟩) : s.entryResult i e =
    entryFields i e ++ be 1 ((if e.late then 1 else 0) + (if e.noTarget then 2 else 0)) ++ be 5 0 := by
  have hpoint : (s.map.action.filter fun a => a.id = e.id) = none := by
    refine Option.filter_eq_none_iff.2 fun a ha hid => h a.point ?_
    rw [ha, ← of_decide_eq_true hid]
  have hflags : flagByte [e.late, e.noTarget, false] = (if e.late then 1 else 0) + (if e.noTarget then 2 else 0) := by
    cases e.late <;> cases e.noTarget <;> rfl
  simp [State.entryResult, entryFields, hpoint, hflags, u8, sbe]

theorem sectionBytes_systemChange (y : LineSys) (w : Bool) (n : Nat) :
    sectionBytes (.systemChange y w n) = be 1 (LineSys.num y) ++ be 1 (if w then 1 else 0) ++ be 1 n := by
  cases w <;> rfl

/-! MAP_INSERT, its refusals (R100). -/

theorem exec_mapInsert_refused (hfree : s.free l)
    (hrun : cmdMapInsert l kind start length after swap limit (superviseFrame l s) = refuse (superviseFrame l s) st)
    (heff : st.effective = false) (hst : st ≠ .illegalSequence) :
    exec (.mapInsert l tag kind start length after swap limit) s =
      .next ((superviseFrame l s).answered l tag 0x19 st []) :=
  exec_roof_refused (x := .mapInsert kind start length after swap limit) rfl rfl hfree hrun heff hst

theorem cmdMapInsert_of_pending (hmode : s.seq.mode = .configPending) :
    cmdMapInsert l kind start length after swap limit s = refuse s .notConfigured :=
  if_pos hmode

theorem cmdMapInsert_of_badOperand (hmode : s.seq.mode ≠ .configPending)
    (hsect : insertSection kind start length after swap limit = none) :
    cmdMapInsert l kind start length after swap limit s = refuse s .badOperand := by
  simp [cmdMapInsert, hmode, hsect]

theorem cmdMapInsert_of_refusal {sect : Section} (hmode : s.seq.mode ≠ .configPending)
    (hsect : insertSection kind start length after swap limit = some sect)
    (href : s.insertRefusal start length = some st) :
    cmdMapInsert l kind start length after swap limit s = refuse s st := by
  simp [cmdMapInsert, hmode, hsect, href]

/-- The operands are in range exactly where they describe a section (R100). -/
theorem insertSection_eq_none : insertSection kind start length after swap limit = none ↔
    4294967 < start ∨ length = 0 ∨ 2000 < length ∨ sectionOf kind after swap limit = none := by
  unfold insertSection Config.routeMax
  split <;> grind

/-! MAP_DELETE (R102, R103). -/

/-- What a removal leaves (R103): the other entries, its record, some action point, and an evaluation owed to ICE; nothing else
changes. -/
theorem removeEntry_eq (e : Entry) (reason : RemovalReason) (s : State) : ∃ action,
    removeEntry e reason s = { s with
      map := ⟨s.map.entries.filter fun d => d.id ≠ e.id, s.map.nextId, action,
        some ⟨e.id, e.sect, reason, s.clk.time, s.trv.front / 1000⟩⟩
      iceEval := true } := by
  unfold removeEntry refreshAction
  dsimp only
  split
  · exact ⟨_, rfl⟩
  · split
    · exact ⟨_, rfl⟩
    · exact ⟨_, rfl⟩

theorem noticeOthers_raises (l : Link) (c : Notice) (s : State) :
    s.Raises (noticeOthers l c s) fun k => if k = l then [] else [c] := fun k => by
  rw [noticeOthers_get]
  split
  · next hk => simp [hk, causeBits]
  · next hk => simp [hk, Port.raise, causeBits]

/-- The links alone change. -/
theorem noticeOthers_eq (l : Link) (c : Notice) (s : State) :
    noticeOthers l c s = { s with lnk := (noticeOthers l c s).lnk } := by
  cases l <;> rfl

theorem exec_mapDelete_refused (hfree : s.free l)
    (hrun : cmdMapDelete l i (superviseFrame l s) = refuse (superviseFrame l s) st) (heff : st.effective = false)
    (hst : st ≠ .illegalSequence) :
    exec (.mapDelete l tag i) s = .next ((superviseFrame l s).answered l tag 0x1A st []) :=
  exec_roof_refused (x := .mapDelete i) rfl rfl hfree hrun heff hst

theorem cmdMapDelete_of_zero : cmdMapDelete l 0 s = refuse s .badOperand := rfl

theorem cmdMapDelete_of_noEntry (hi : i ≠ 0) (hnone : ∀ e ∈ s.map.entries, e.id ≠ i) :
    cmdMapDelete l i s = refuse s .noEntry := by
  have hfind : (s.map.entries.find? fun e => e.id = i) = none := by simpa using hnone
  simp [cmdMapDelete, hi, hfind]

theorem cmdMapDelete_of_entry (he : e ∈ s.map.entries) (hid : e.id ≠ 0)
    (hids : (s.map.entries.map (·.id)).Nodup) : cmdMapDelete l e.id s =
      if e.source ≠ l ∧ s.holderOrM l = false then refuse s .notOwner
      else if e.state = .active then refuse s .entryLocked
      else query (noticeOthers l .map (removeEntry e .deleted s)) [] := by
  simp [cmdMapDelete, hid, find_id_of_mem hids he]

/-- What a taken deletion does before its answer: the removal, with notice MAP on the other links. -/
theorem delete_effect (hu : u = noticeOthers l .map (removeEntry e .deleted s)) :
    s.Raises u (fun k => if k = l then [] else [.map])
      ∧ u.map.entries = s.map.entries.filter (fun d => d.id ≠ e.id) ∧ u.map.nextId = s.map.nextId
      ∧ u.map.lastRemoval = some ⟨e.id, e.sect, .deleted, s.clk.time, s.trv.front / 1000⟩
      ∧ { u with map := s.map, lnk := s.lnk, iceEval := s.iceEval } = s := by
  obtain ⟨action, hremove⟩ := removeEntry_eq e .deleted s
  rw [hremove] at hu
  subst hu
  exact ⟨noticeOthers_raises l .map _, by rw [noticeOthers_eq], by rw [noticeOthers_eq], by rw [noticeOthers_eq],
    by rw [noticeOthers_eq]⟩

theorem exec_mapDelete_removes (hfree : s.free l) (hrun : cmdMapDelete l e.id (superviseFrame l s) =
      query (noticeOthers l .map (removeEntry e .deleted (superviseFrame l s))) []) :
    ∃ u, exec (.mapDelete l tag e.id) s = .next (settle u)
      ∧ s.Answers u l tag 0x1A .ok [] (fun k => if k = l then [] else [.map])
      ∧ u.map.entries = s.map.entries.filter (fun d => d.id ≠ e.id) ∧ u.map.nextId = s.map.nextId
      ∧ u.map.lastRemoval = some ⟨e.id, e.sect, .deleted, s.clk.time, s.trv.front / 1000⟩
      ∧ { u with map := s.map, lnk := s.lnk, iceEval := s.iceEval } = superviseFrame l s := by
  obtain ⟨hraises, heffect⟩ := delete_effect (l := l) (e := e) (s := superviseFrame l s) rfl
  rw [raises_superviseFrame] at hraises
  rw [superviseFrame_map, superviseFrame_clk, superviseFrame_trv, superviseFrame_lnk, superviseFrame_iceEval] at heffect
  exact ⟨_, exec_roof_ok (x := .mapDelete e.id) rfl rfl hfree hrun, hraises.answered, heffect⟩

end RouteMapCommands

/-- Settles O14. The commands run in `superviseFrame l s`, whose links and map are those of `s`; on a free link each case of R116
and R117 is then the whole step. The layout is that of `entryFields`, with the action point behind it. -/
theorem mapReads : Obligations.MapReads := by
  intro l tag s hfree
  refine ⟨fun i e hi he => ?entry, fun i hi hlast => ?pastLast, fun i hi => ?badOperand,
    fun k d e hids hd he hcur hlast => ?next, fun i hcur hlost hlast => ?lost, fun k d hids hd hlen hcur hlast => ?behindLast,
    fun h => ?outOfSequence, fun i e fields flags hfields hflags => ?layout⟩
  case entry =>
    rw [← superviseFrame_entryResult l]
    exact exec_mapRead hfree (cmdMapRead_of_entry hi (by simpa using he)) (by decide)
  case pastLast => exact exec_mapRead hfree (cmdMapRead_of_pastLast hi (by simpa using hlast)) (by decide)
  case badOperand => exact exec_mapRead hfree (cmdMapRead_of_badOperand hi) (by decide)
  case next =>
    rw [← superviseFrame_map l] at hids hd he
    rw [← superviseFrame_lnk l] at hcur hlast
    rw [← superviseFrame_entryResult l]
    exact exec_mapReadNext hfree
      (cmdMapReadNext_of_entry hcur (continues_iff.2 hlast) (findIdx_id_of_getElem hids hd) he) (by decide)
  case lost =>
    rw [← superviseFrame_map l] at hlost
    rw [← superviseFrame_lnk l] at hcur hlast
    exact exec_mapReadNext hfree (cmdMapReadNext_of_lost hcur (continues_iff.2 hlast) hlost) (by decide)
  case behindLast =>
    rw [← superviseFrame_map l] at hids hd hlen
    rw [← superviseFrame_lnk l] at hcur hlast
    exact exec_mapReadNext hfree
      (cmdMapReadNext_of_last hcur (continues_iff.2 hlast) (findIdx_id_of_getElem hids hd) hlen) (by decide)
  case outOfSequence =>
    apply exec_mapReadNext_outOfSequence hfree
    rw [← superviseFrame_lnk l] at h
    obtain hcur | ⟨hopening, hnext, hnop⟩ := h
    · exact cmdMapReadNext_of_otherCursor hcur
    · refine cmdMapReadNext_of_otherCommand (Bool.eq_false_iff.2 fun hseq => ?_)
      obtain h | h | h := continues_iff.1 hseq
      exacts [hopening h, hnext h, hnop h]
  case layout =>
    have hlayout : fields = entryFields i e := by
      rw [hfields, entryFields]
      cases e.sect with
      | systemChange y w n =>
        rw [sectionBytes_systemChange]
        cases e.target <;> rfl
      | neutral _ | lowerZone => cases e.target <;> rfl
    rw [hlayout, hflags]
    exact ⟨fun x h => entryResult_of_action h, entryResult_of_noAction⟩

/-- Settles O29. The refusals are those of `insertRefusal`, which reads the map and the odometer as they stand before the
frame. -/
theorem mapInsertIsRefused : Obligations.MapInsertIsRefused := by
  intro l tag kind start length after swap limit s hfree
  refine ⟨fun hmode => ?pending, fun hmode hoperands => ?badOperand, fun hmode hstart hmin hmax hkind => ?mapChecks⟩
  case pending => exact exec_mapInsert_refused hfree (cmdMapInsert_of_pending (by simpa using hmode)) rfl (by decide)
  case badOperand =>
    exact exec_mapInsert_refused hfree
      (cmdMapInsert_of_badOperand (by simpa using hmode) (insertSection_eq_none.2 hoperands)) rfl (by decide)
  case mapChecks =>
    have hsome : insertSection kind start length after swap limit ≠ none := by
      simp only [ne_eq, insertSection_eq_none, hkind, or_false]
      omega
    obtain ⟨sect, hsect⟩ := Option.ne_none_iff_exists'.1 hsome
    have refused {st : Status} (href : s.insertRefusal start length = some st) :=
      exec_mapInsert_refused (tag := tag) hfree
        (cmdMapInsert_of_refusal (l := l) (by simpa using hmode) hsect (by simpa using href))
    split_ifs with hfull hbehind hlocked hoverlap
    · exact refused (by simp [State.insertRefusal, Config.mapCapacity, hfull]) rfl (by decide)
    · exact refused (by simp [State.insertRefusal, Config.mapCapacity, hfull, hbehind]) rfl (by decide)
    · exact refused (by simp [State.insertRefusal, Config.mapCapacity, hfull, hbehind, hlocked]) rfl (by decide)
    · exact refused (by simp [State.insertRefusal, Config.mapCapacity, overlaps, hfull, hbehind, hlocked, hoverlap]) rfl
        (by decide)
    · exact exec_free rfl hfree

/-- Settles O30. The command runs in `superviseFrame l s`, where it finds the entry by its id; taken, it does what `removeEntry`
does. -/
theorem mapDeleteRemovesTheEntry : Obligations.MapDeleteRemovesTheEntry := by
  intro l tag s hfree
  refine ⟨?zero, fun i hi hnone => ?noEntry, fun e he hid hids => ?entry⟩
  case zero => exact exec_mapDelete_refused hfree cmdMapDelete_of_zero rfl (by decide)
  case noEntry => exact exec_mapDelete_refused hfree (cmdMapDelete_of_noEntry hi (by simpa using hnone)) rfl (by decide)
  case entry =>
    have hrun := cmdMapDelete_of_entry (s := superviseFrame l s) (l := l) (by simpa using he) hid (by simpa using hids)
    rw [superviseFrame_holderOrM] at hrun
    refine ⟨fun hother hheld => ?notOwner, fun howner => ?owner⟩
    case notOwner => exact exec_mapDelete_refused hfree (hrun.trans (if_pos ⟨hother, hheld⟩)) rfl (by decide)
    case owner =>
      rw [if_neg (by simpa [or_iff_not_imp_left] using howner)] at hrun
      refine ⟨fun hactive => ?locked, fun hactive => ?removed⟩
      case locked => exact exec_mapDelete_refused hfree (hrun.trans (if_pos hactive)) rfl (by decide)
      case removed => exact exec_mapDelete_removes hfree (hrun.trans (if_neg hactive))

end Sys2Proof.Machine

/-! ### The place and the id of a new entry (R98, R99) -/

namespace Sys2Proof.Machine

section Insertion

variable {s : State} {l : Link} {sect : Section} {start length : Nat}

/-- An entry is placed behind every entry that starts at or before it, up to the first that starts after it (R98). -/
theorem placeEntry_split (e : Entry) (es : List Entry) : ∃ before after, es = before ++ after
    ∧ placeEntry e es = before ++ e :: after ∧ (∀ d ∈ before, d.start ≤ e.start)
    ∧ ∀ d ∈ after.head?, e.start < d.start := by
  induction es with
  | nil => exact ⟨[], [], rfl, rfl, by simp, by simp⟩
  | cons d rest ih =>
    by_cases hlt : e.start < d.start
    · exact ⟨[], d :: rest, rfl, by simp [placeEntry, hlt], by simp, by simpa using hlt⟩
    · obtain ⟨before, after, hsplit, hplace, hbefore, hafter⟩ := ih
      refine ⟨d :: before, after, by simp [hsplit], by simp [placeEntry, hlt, hplace], ?_, hafter⟩
      simpa using ⟨Nat.le_of_not_lt hlt, hbefore⟩

/-- The id some steps after another: the ids go round from 65 535 to 1 (R99). -/
theorem nextId_iterate (i j : Nat) (hj : j ≤ 65535) :
    nextId^[j] i = if i ≤ 65535 ∧ 65535 < i + j then i + j - 65535 else i + j := by
  induction j with
  | zero => simp
  | succ j ih =>
    rw [Function.iterate_succ_apply', ih (by omega), nextId, Config.idMax]
    split_ifs <;> omega

/-- A search that ends on a used id has met used ids alone. -/
theorem freeId_mem_used {k : Nat} {used : List Nat} {i : Nat} (h : freeId k used i ∈ used) :
    ∀ j ≤ k, nextId^[j] i ∈ used := by
  induction k generalizing i with
  | zero => simpa [freeId] using h
  | succ k ih =>
    have hi : i ∈ used := by
      by_contra hfree
      simp [freeId, hfree] at h
    intro j hj
    cases j with
    | zero => exact hi
    | succ j => exact ih (by simpa [freeId, hi] using h) j (by omega)

/-- With fewer ids used than are tried, the search finds one that no entry holds (R99). -/
theorem freeId_not_mem {used : List Nat} (h : used.length ≤ 64) (i : Nat) : freeId 65 used i ∉ used := fun hmem => by
  have hsub : (List.range 66).map (fun j => nextId^[j] i) ⊆ used := fun x hx => by
    obtain ⟨j, hj, rfl⟩ := List.mem_map.1 hx
    exact freeId_mem_used hmem j (by simpa [Nat.lt_succ_iff] using hj)
  have hnodup : ((List.range 66).map fun j => nextId^[j] i).Nodup := by
    refine List.Nodup.map_on (fun a ha b hb hab => ?_) List.nodup_range
    simp only [List.mem_range] at ha hb
    simp only [nextId_iterate i a (by omega), nextId_iterate i b (by omega)] at hab
    split_ifs at hab <;> omega
  have := (hnodup.subperm hsub).length_le
  simp at this
  omega

/-- No entry of a map of at most 64 holds the id that the counter offers (R99). -/
theorem offeredId_free (h : s.map.entries.length ≤ 64) : ∀ d ∈ s.map.entries, d.id ≠ s.offeredId := fun d hd e => by
  have hfree : s.offeredId ∉ s.map.entries.map (·.id) := freeId_not_mem (by simpa using h) _
  exact hfree (e ▸ List.mem_map_of_mem hd)

/-- An id is in 1 to 65 535, and so is the one after it (R99). -/
def IdInRange (i : Nat) : Prop := 1 ≤ i ∧ i ≤ Config.idMax

theorem nextId_inRange {i : Nat} (h : IdInRange i) : IdInRange (nextId i) := by
  unfold IdInRange Config.idMax nextId Config.idMax at *
  split <;> omega

theorem freeId_inRange {i : Nat} (h : IdInRange i) (k : Nat) (used : List Nat) : IdInRange (freeId k used i) := by
  induction k generalizing i with
  | zero => exact h
  | succ k ih =>
    unfold freeId
    split
    · exact ih (nextId_inRange h)
    · exact h

/-! ### A new span in an ordered map -/

/-- A span that stands between its neighbours and overlaps none joins spans that are in order (R98). -/
theorem pairwise_before_insert {xs ys : List Span} {x : Span} (h : (xs ++ ys).Pairwise Span.before)
    (hlen : ∀ y ∈ xs ++ ys, 1 ≤ y.2.2) (hpos : 1 ≤ x.2.2)
    (hover : ∀ y ∈ xs ++ ys, ¬ (x.2.1 < y.2.1 + y.2.2 ∧ y.2.1 < x.2.1 + x.2.2))
    (hxs : ∀ y ∈ xs, y.2.1 ≤ x.2.1) (hys : ∀ y ∈ ys.head?, x.2.1 < y.2.1) :
    (xs ++ x :: ys).Pairwise Span.before := by
  have hbefore : ∀ y ∈ xs, y.before x := fun y hy => by
    have h1 := hover y (by simp [hy])
    have h2 := hlen y (by simp [hy])
    have h3 := hxs y hy
    simp only [Span.before]
    omega
  have hafter : ∀ y ∈ ys, x.before y := fun y hy => by
    have hlt : x.2.1 < y.2.1 := by
      cases ys with
      | nil => cases hy
      | cons z zs =>
        have hz : x.2.1 < z.2.1 := hys z rfl
        rcases List.mem_cons.1 hy with rfl | hmem
        · exact hz
        · have := (List.pairwise_cons.1 (List.pairwise_append.1 h).2.1).1 y hmem
          exact hz.trans this.1
    have := hover y (by simp [hy])
    simp only [Span.before]
    omega
  obtain ⟨hp1, hp2, hcross⟩ := List.pairwise_append.1 h
  refine List.pairwise_append.2 ⟨hp1, List.pairwise_cons.2 ⟨hafter, hp2⟩, fun a ha b hb => ?_⟩
  rcases List.mem_cons.1 hb with rfl | hmem
  · exact hbefore a ha
  · exact hcross a ha b hmem

end Insertion

end Sys2Proof.Machine

/-! ### What every row upholds (R5, R54, R65, R98, R136, R200) -/

namespace Sys2Proof.Machine

section Upholding

variable {F R : Prop} {s t u : State}

/-- The ranges of `State.Bounded` but those of the detector, which a window's end leaves and meets again within one event. -/
structure State.RoofBounded (s : State) : Prop where
  travel : s.trv.Bounded
  tables : s.cfg.Bounded
  forces : ∀ p, Config.forceMin ≤ (s.freg.get p).force ∧ (s.freg.get p).force ≤ Config.forceMax
  rings : ∀ p, (s.ice.arcs.get p).Bounded
  level1 : s.ice.run ≤ Config.runLevel1

theorem bounded_iff : s.Bounded ↔ s.RoofBounded ∧ s.ldet.Bounded :=
  ⟨fun ⟨h1, h2, h3, h4, h5, h6⟩ => ⟨⟨h1, h3, h4, h5, h6⟩, h2⟩, fun ⟨⟨h1, h3, h4, h5, h6⟩, h2⟩ => ⟨h1, h2, h3, h4, h5, h6⟩⟩

/-- From `s` to `t` the map stays in order, and the raised pantographs and the values of the blocks within their limits; where
`F` holds a filled fault record stands, and where `R` holds ROOF_SAFE does. -/
structure Upheld (F R : Prop) (s t : State) : Prop where
  order : s.MapOrdered → t.MapOrdered
  limits : s.RaiseLimits → t.RaiseLimits
  roof : s.RoofBounded → t.RoofBounded
  detector : s.ldet.Bounded → t.ldet.Bounded
  fault : F → ∀ r, s.fault = some r → t.fault = some r
  safe : R → s.seq.mode = .roofSafe → t.seq.mode = .roofSafe

theorem Upheld.refl (s : State) : Upheld F R s s := ⟨id, id, id, id, fun _ _ => id, fun _ => id⟩

theorem Upheld.trans (h : Upheld F R s t) (k : Upheld F R t u) : Upheld F R s u :=
  ⟨k.order ∘ h.order, k.limits ∘ h.limits, k.roof ∘ h.roof, k.detector ∘ h.detector,
    fun f r hr => k.fault f r (h.fault f r hr), fun r => k.safe r ∘ h.safe r⟩

theorem Upheld.bounds (h : Upheld F R s t) (k : s.Bounded) : t.Bounded :=
  bounded_iff.2 ⟨h.roof (bounded_iff.1 k).1, h.detector (bounded_iff.1 k).2⟩

/-- Spans that leave an ordered map leave it in order. -/
theorem mapOrdered_of_sublist (h : s.MapOrdered) (hsub : t.spans.Sublist s.spans) (hid : t.map.nextId = s.map.nextId) :
    t.MapOrdered := by
  obtain ⟨hlen, hpair, hnodup, hspan, hnext⟩ := h
  exact ⟨hsub.length_le.trans hlen, hpair.sublist hsub, (hsub.map _).nodup hnodup,
    fun x hx => hspan x (hsub.subset hx), hid ▸ hnext⟩

/-- What `State.still` holds of two states that agree in it. -/
theorem still_fields (h : t.still = s.still) : t.map.nextId = s.map.nextId ∧ t.trv.still = s.trv.still ∧ t.ldet = s.ldet
    ∧ t.cfg = s.cfg ∧ t.ice.run = s.ice.run ∧ ∀ l, (t.lnk.get l).still = (s.lnk.get l).still := by
  simp only [State.still, State.mk.injEq, RouteMap.mk.injEq, Ice.still, Ice.mk.injEq, PerLink.mk.injEq] at h
  obtain ⟨-, -, hcfg, htrv, hldet, -, -, -, hmap, -, hice, -, hlnk, -⟩ := h
  refine ⟨hmap.2.1, htrv, hldet, hcfg, hice.2.2.2.2.2.2.2.2.1, fun l => ?_⟩
  cases l
  · exact hlnk.1
  · exact hlnk.2.1
  · exact hlnk.2.2

/-- What reactions keep holds the ranges but those of the detector. -/
theorem Kept.roofBounded (h : Kept s t) (k : s.RoofBounded) : t.RoofBounded := by
  obtain ⟨-, htrv, -, hcfg, hrun, -⟩ := still_fields h.still
  obtain ⟨hfront, hhist, hspeed, hruns⟩ := k.travel
  simp only [Travel.still, Travel.mk.injEq] at htrv
  obtain ⟨ef, eh, -, es, -⟩ := htrv
  exact { travel := ⟨ef ▸ hfront, eh ▸ hhist, es ▸ hspeed, h.runs hruns⟩
          tables := hcfg ▸ k.tables
          forces := h.forces k.forces
          rings := h.rings k.rings
          level1 := hrun ▸ k.level1 }

/-- The reactions and every operation that keeps what they keep uphold the invariants. -/
theorem Kept.upheld (h : Kept s t) : Upheld F R s t := by
  obtain ⟨hid, -, hldet, -⟩ := still_fields h.still
  exact ⟨fun k => mapOrdered_of_sublist k (h.spans k.2.2.1) hid, h.limits, h.roofBounded, fun k => hldet ▸ k,
    fun _ => h.fault, fun _ => h.safe⟩

theorem Upheld.kept (h : Upheld F R s t) (k : Kept t u) : Upheld F R s u := h.trans k.upheld

/-- A state that differs in the clocks, the lines, the links and the queues alone. -/
theorem upheld_of_eq (hmap : t.map = s.map) (hpch : t.pch = s.pch) (htrv : t.trv = s.trv) (hldet : t.ldet = s.ldet)
    (hcfg : t.cfg = s.cfg) (hfreg : t.freg = s.freg) (hice : t.ice = s.ice) (hfault : t.fault = s.fault)
    (hseq : t.seq = s.seq) : Upheld F R s t where
  order := fun h => mapOrdered_of_sublist h (by simp [State.spans, hmap]) (by rw [hmap])
  limits := limits_within fun p => by simp [State.ch, hpch]
  roof := fun ⟨h1, h2, h3, h4, h5⟩ => ⟨htrv ▸ h1, hcfg ▸ h2, hfreg ▸ h3, hice ▸ h4, hice ▸ h5⟩
  detector := fun h => hldet ▸ h
  fault := fun _ r hr => hfault ▸ hr
  safe := fun _ hm => hseq ▸ hm

/-! An update of one block of each kind. -/

theorem Upheld.modPort (h : Upheld F R s t) (l : Link) (f : Port → Port) : Upheld F R s (t.modPort l f) :=
  h.trans (upheld_of_eq rfl rfl rfl rfl rfl rfl rfl rfl rfl)

theorem Upheld.modLines (h : Upheld F R s t) (f : Lines → Lines) : Upheld F R s (t.modLines f) :=
  h.trans (upheld_of_eq rfl rfl rfl rfl rfl rfl rfl rfl rfl)

end Upholding

/-! ### What an event leaves of the receive queues (R180, R181) -/

section Serving

variable {s t u : State}

/-- From `s` to `t` every queue stands, and a link that could not take a frame still cannot. -/
def Serves (s t : State) : Prop :=
  ∀ l, (t.lnk.get l).queue = (s.lnk.get l).queue ∧ ((s.lnk.get l).canTake = false → (t.lnk.get l).canTake = false)

theorem Serves.refl (s : State) : Serves s s := fun _ => ⟨rfl, id⟩

theorem Serves.trans (h : Serves s t) (k : Serves t u) : Serves s u := fun l =>
  ⟨(k l).1.trans (h l).1, (k l).2 ∘ (h l).2⟩

theorem serves_of_lnk (h : t.lnk = s.lnk) : Serves s t := fun l => by simp [h]

/-- What reactions keep of a link holds its queue and what decides whether it takes. -/
theorem Kept.serves (h : Kept s t) : Serves s t := fun l => by
  have hstill := (still_fields h.still).2.2.2.2.2 l
  simp only [Port.still, Port.mk.injEq] at hstill
  obtain ⟨-, -, -, hqueue, -, hawait, hblock, -⟩ := hstill
  simp [hqueue, Port.canTake, hawait, hblock]

theorem Serves.modPort (h : Serves s t) (l : Link) (f : Port → Port) (hqueue : (f (t.lnk.get l)).queue = (t.lnk.get l).queue)
    (htake : (t.lnk.get l).canTake = false → (f (t.lnk.get l)).canTake = false) : Serves s (t.modPort l f) :=
  h.trans fun k => by
    rw [State.modPort_lnk, PerLink.get_set]
    split
    · next e => rw [e]; exact ⟨hqueue, htake⟩
    · exact ⟨rfl, id⟩

theorem Serves.queuesServed (h : Serves s t) (k : s.QueuesServed) : t.QueuesServed := fun l => by
  rw [(h l).1]
  exact ⟨(k l).1, fun hne => (h l).2 ((k l).2 hne)⟩

/-- What an event does before the reactions: it upholds the invariants and serves the queues. -/
structure Effect (F R : Prop) (s t : State) : Prop extends Upheld F R s t where
  serves : Serves s t

variable {F R : Prop}

theorem Effect.refl (s : State) : Effect F R s s := ⟨.refl s, .refl s⟩

theorem Effect.trans (h : Effect F R s t) (k : Effect F R t u) : Effect F R s u :=
  ⟨h.toUpheld.trans k.toUpheld, h.serves.trans k.serves⟩

theorem Kept.effect (h : Kept s t) : Effect F R s t := ⟨h.upheld, h.serves⟩

theorem Effect.kept (h : Effect F R s t) (k : Kept t u) : Effect F R s u := h.trans k.effect

theorem Effect.settle (h : Effect F R s t) : Effect F R s (settle t) := h.kept (Kept.refl t).settle

theorem Effect.modLines (h : Effect F R s t) (f : Lines → Lines) : Effect F R s (t.modLines f) :=
  ⟨h.toUpheld.modLines f, h.serves.trans (serves_of_lnk rfl)⟩

theorem Effect.modClk (h : Effect F R s t) (f : Clocks → Clocks) : Effect F R s (t.modClk f) :=
  ⟨h.toUpheld.trans (upheld_of_eq rfl rfl rfl rfl rfl rfl rfl rfl rfl),
    h.serves.trans (serves_of_lnk rfl)⟩

theorem Effect.setFree (h : Effect F R s t) (n : Nat) : Effect F R s (t.setFree n) :=
  ⟨h.toUpheld.trans (upheld_of_eq rfl rfl rfl rfl rfl rfl rfl rfl rfl),
    h.serves.trans (serves_of_lnk rfl)⟩

theorem Effect.modTrv (h : Effect F R s t) (f : Travel → Travel) (k : t.trv.Bounded → (f t.trv).Bounded) :
    Effect F R s (t.modTrv f) :=
  ⟨h.toUpheld.trans ⟨id, id, fun b => { b with travel := k b.travel }, id, fun _ _ => id, fun _ => id⟩,
    h.serves.trans (serves_of_lnk rfl)⟩

theorem Effect.modLdet (h : Effect F R s t) (f : Detector → Detector) (k : t.ldet.Bounded → (f t.ldet).Bounded) :
    Effect F R s (t.modLdet f) :=
  ⟨h.toUpheld.trans ⟨id, id, fun ⟨h1, h2, h3, h4, h5⟩ => ⟨h1, h2, h3, h4, h5⟩, k, fun _ _ => id, fun _ => id⟩,
    h.serves.trans (serves_of_lnk rfl)⟩

theorem Effect.modCfg (h : Effect F R s t) (f : Store → Store) (k : t.cfg.Bounded → (f t.cfg).Bounded) :
    Effect F R s (t.modCfg f) :=
  ⟨h.toUpheld.trans ⟨id, id, fun b => { b with tables := k b.tables }, id, fun _ _ => id, fun _ => id⟩,
    h.serves.trans (serves_of_lnk rfl)⟩

theorem Effect.modIce (h : Effect F R s t) (f : Ice → Ice)
    (hrings : (∀ p, (t.ice.arcs.get p).Bounded) → ∀ p, ((f t.ice).arcs.get p).Bounded)
    (hrun : t.ice.run ≤ Config.runLevel1 → (f t.ice).run ≤ Config.runLevel1) : Effect F R s (t.modIce f) :=
  ⟨h.toUpheld.trans ⟨id, id, fun b => { b with rings := hrings b.rings, level1 := hrun b.level1 }, id, fun _ _ => id,
    fun _ => id⟩, h.serves.trans (serves_of_lnk rfl)⟩

theorem Effect.modSeq (h : Effect F R s t) (f : Sequencer → Sequencer)
    (k : R → t.seq.mode = .roofSafe → (f t.seq).mode = .roofSafe) : Effect F R s (t.modSeq f) :=
  ⟨h.toUpheld.trans ⟨id, id, fun ⟨h1, h2, h3, h4, h5⟩ => ⟨h1, h2, h3, h4, h5⟩, id, fun _ _ => id, k⟩,
    h.serves.trans (serves_of_lnk rfl)⟩

theorem Effect.setFault (h : Effect F R s t) (v : Option FaultRecord) (k : F → ∀ r, t.fault = some r → v = some r) :
    Effect F R s (t.setFault v) :=
  ⟨h.toUpheld.trans ⟨id, id, fun ⟨h1, h2, h3, h4, h5⟩ => ⟨h1, h2, h3, h4, h5⟩, id, k, fun _ => id⟩,
    h.serves.trans (serves_of_lnk rfl)⟩

theorem Effect.modPort (h : Effect F R s t) (l : Link) (f : Port → Port)
    (hqueue : (f (t.lnk.get l)).queue = (t.lnk.get l).queue)
    (htake : (t.lnk.get l).canTake = false → (f (t.lnk.get l)).canTake = false) : Effect F R s (t.modPort l f) :=
  ⟨h.toUpheld.modPort l f, h.serves.modPort l f hqueue htake⟩

theorem Effect.notice (h : Effect F R s t) (c : Notice) : Effect F R s (notice c t) := h.kept ((Kept.refl t).notice c)

theorem Effect.setIceEval (h : Effect F R s t) (b : Bool) : Effect F R s (t.setIceEval b) :=
  h.kept ((Kept.refl t).setIceEval b)

end Serving

end Sys2Proof.Machine

/-! ### What the events of the blocks uphold -/

namespace Sys2Proof.Machine

section Events

variable {F R : Prop} {s t : State}

/-! Travel: a pulse and the end of a speed interval (R5, R6, R8). -/

theorem Travel.Bounded.pulse {x : Travel} (h : x.Bounded) (forward : Bool) (len : Nat) :
    (x.pulse forward len).Bounded := by
  obtain ⟨hfront, hhist, hspeed, hfwd, hrev⟩ := h
  refine ⟨?_, hhist, hspeed, ?_, ?_⟩
  · unfold Travel.pulse moveFront
    split
    · exact min_le_left _ _
    · exact (Nat.sub_le _ _).trans hfront
  all_goals cases forward <;> simp [Travel.pulse, addRun]

theorem Travel.Bounded.intervalEnd {x : Travel} (h : x.Bounded) : x.intervalEnd.Bounded := by
  obtain ⟨hfront, hhist, hspeed, hruns⟩ := h
  exact ⟨hfront, by simp [Travel.intervalEnd, hhist], min_le_left _ _, hruns⟩

theorem Effect.takePulse (h : Effect F R s t) (dir : TravelDir) : Effect F R s (takePulse dir t) :=
  (h.modTrv (Travel.pulse (pulseForward t.auth.leading dir) t.cfg.items.pulseLength) fun b => b.pulse _ _).kept
    ((((Kept.refl _).mapPulse _).endPassed _).setIceEval _)

theorem Effect.intervalEnd (h : Effect F R s t) : Effect F R s (intervalEnd t) :=
  ((h.modClk fun c => { c with speedClock := 0 }).modTrv Travel.intervalEnd fun b => b.intervalEnd).kept
    (((Kept.forPans (Kept.refl _) fun p u => (Kept.refl u).regulate p).armAll.computeAction).setIceEval _)

theorem Effect.raceAtInterval (h : Effect F R s t) : Effect F R s (raceAtInterval t) := by
  unfold Machine.raceAtInterval
  split
  · next ht =>
    split
    · exact (h.kept ((Kept.refl t).watchAuthority ht)).setFree _
    · exact h.setFree _
  · exact h
  · exact h

/-! Line detection: samples and their loss (R21, R22, R29, R33). -/

theorem countOn_bounded {c : Option Nat} (h : ∀ n ∈ c, n < Config.crossLimit) : ∀ n ∈ countOn c, n < Config.crossLimit := by
  cases c with
  | none => simp [countOn]
  | some c =>
    have hc : c < Config.crossLimit := h c rfl
    simp only [countOn]
    split
    · simp
    · simp only [Option.mem_def, Option.some.injEq, forall_eq']
      omega

/-- A stream that runs keeps its counts, and one that starts clears them (R20). -/
theorem Detector.Bounded.begin {d : Detector} (h : d.Bounded) : d.begin.Bounded := by
  unfold Detector.begin
  split
  · exact h
  all_goals exact ⟨by simp [Window.fresh, Config.windowLength], by simp, h.2.2⟩

theorem track_lastCross_bounded {d : Detector} (h : d.Bounded) (x : Int) :
    ∀ n ∈ (d.track x).lastCross, n < Config.crossLimit := by
  unfold Detector.track
  split
  · simp [Config.crossLimit]
  · exact countOn_bounded h.2.1

theorem take_win_n (d : Detector) (x : Int) : (d.take x).win.n = d.win.n + 1 := by
  unfold Detector.take Window.add
  dsimp only
  split <;> rfl

theorem take_count (d : Detector) (x : Int) : (d.take x).count = d.count := by
  unfold Detector.take Detector.track
  dsimp only
  split <;> rfl

/-- A sample behind which the window is not whole leaves the detector in its ranges (R21, R22). -/
theorem Detector.Bounded.take {d : Detector} (h : d.Bounded) {x : Int} (hn : (d.take x).win.n ≠ Config.windowLength) :
    (d.take x).Bounded := by
  refine ⟨?_, track_lastCross_bounded h x, take_count d x ▸ h.2.2⟩
  have hlt := h.1
  rw [take_win_n] at hn ⊢
  omega

theorem confirm_count_le {d : Detector} (c : RawClass) : (d.confirm c).count ≤ 255 := by
  unfold Detector.confirm
  split
  · exact min_le_left _ _
  · simp

theorem confirm_lastCross (d : Detector) (c : RawClass) : (d.confirm c).lastCross = d.lastCross := by
  unfold Detector.confirm
  split <;> rfl

/-- A change of the detected system sets the detected system and the time of its change, and the rest is kept (R30, R33). -/
theorem setDetected_kept (d : Detected) (s : State) : ∃ since, Kept (s.modLdet fun q => { q with detected := d, since := since })
    (setDetected d s) := by
  unfold setDetected
  split
  · next h =>
    refine ⟨s.ldet.since, ?_⟩
    rw [← h]
    exact Kept.refl s
  · exact ⟨s.now, (((Kept.refl _).notice _).watchInterlock).systemCheck⟩

/-- A detector that leaves its ranges and meets them again behind what reactions keep. -/
theorem Effect.modLdet_between {u : State} (h : Effect F R s t) {g : Detector → Detector} (k : Kept (t.modLdet g) u)
    (f : Detector → Detector) (hb : t.ldet.Bounded → (f (g t.ldet)).Bounded) : Effect F R s (u.modLdet f) := by
  have hldet : u.ldet = g t.ldet := (still_fields k.still).2.2.1
  refine h.trans ⟨?_, k.serves⟩
  have hup : Upheld F R (t.modLdet g) u := k.upheld
  refine ⟨hup.order, hup.limits, fun ⟨h1, h2, h3, h4, h5⟩ => ?_, fun b => ?_, hup.fault, hup.safe⟩
  · obtain ⟨k1, k2, k3, k4, k5⟩ := hup.roof ⟨h1, h2, h3, h4, h5⟩
    exact ⟨k1, k2, k3, k4, k5⟩
  · simpa [hldet] using hb b

/-- The end of a window leaves a fresh one, with the crossing that its last sample left (R24, R29). -/
theorem Effect.windowEnd (h : Effect F R s t) (g : Detector → Detector)
    (hcross : t.ldet.Bounded → ∀ n ∈ (g t.ldet).lastCross, n < Config.crossLimit) :
    Effect F R s (windowEnd (t.modLdet g)) := by
  unfold Machine.windowEnd
  dsimp only
  generalize (t.modLdet g).ldet.win = w
  generalize confirmed _ _ = d
  obtain ⟨since, k⟩ := setDetected_kept d ((t.modLdet g).modLdet (·.confirm w.rawClass))
  refine h.modLdet_between (g := fun q => { (g q).confirm w.rawClass with detected := d, since := since }) k _ fun b => ?_
  refine ⟨by simp [Window.fresh, Config.windowLength], ?_, confirm_count_le w.rawClass⟩
  exact (confirm_lastCross (g t.ldet) w.rawClass).symm ▸ hcross b

theorem Effect.takeSample (h : Effect F R s t) (x : Int) : Effect F R s (takeSample x t) := by
  unfold Machine.takeSample
  dsimp only
  split
  · exact h.windowEnd _ fun b => track_lastCross_bounded b.begin x
  · next hn => exact h.modLdet _ fun b => b.begin.take hn

/-- Sample loss clears the window, the crossing and the count (R33). -/
theorem Effect.loseSamples (h : Effect F R s t) : Effect F R s (loseSamples t) := by
  have hlose : Effect F R s (t.modLdet (·.lose)) := h.modLdet _ fun _ =>
    ⟨by simp [Detector.lose, Window.fresh, Config.windowLength], by simp [Detector.lose], by simp [Detector.lose]⟩
  have hunknown : Effect F R s (detectedUnknown (t.modLdet (·.lose))) := by
    unfold detectedUnknown
    split
    · exact hlose
    · exact (hlose.modLdet _ id).notice _
  have hreport : ∀ u, Effect F R s u → Effect F R s (reportLoss u) := fun u hu =>
    hu.kept (((Kept.refl u).reportFault _ _ _).notice _)
  have hpermit : ∀ u, Effect F R s u → Effect F R s (permitPart u) := fun u hu => by
    unfold permitPart
    cases e : watchPermit u with
    | none => exact hu
    | some v => exact hu.kept ((Kept.refl u).watchPermit e)
  unfold Machine.loseSamples
  dsimp only
  split
  · split
    · exact hreport _ (hunknown.setFree _)
    · exact hreport _ (hpermit _ (hunknown.setFree _))
  · exact hreport _ hunknown

/-! Arc bins and temperatures (R143 to R146). -/

theorem Effect.countArc (h : Effect F R s t) (p : Pan) : Effect F R s (countArc p t) := by
  unfold Machine.countArc
  split
  · refine h.modIce _ (fun k q => ?_) id
    rw [PerPan.get_set]
    split
    · exact ⟨(k p).1, min_le_left _ _⟩
    · exact k q
  · exact h

theorem ArcRing.Bounded.binEnd {r : ArcRing} (h : r.Bounded) : r.binEnd.Bounded := by
  refine ⟨?_, Nat.zero_le _⟩
  simp [ArcRing.binEnd, h.1]

theorem Effect.binEnd (h : Effect F R s t) : Effect F R s (binEnd t) :=
  h.modIce _ (fun k q => match q with
    | .p1 => (k .p1).binEnd
    | .p2 => (k .p2).binEnd
    | .p3 => (k .p3).binEnd
    | .p4 => (k .p4).binEnd) id

theorem relevel_run (b : Bool) (now : Time) (i : Ice) : (i.relevel b now).run = i.run := by
  unfold Ice.relevel
  split_ifs <;> rfl

theorem relevel_arcs (b : Bool) (now : Time) (i : Ice) : (i.relevel b now).arcs = i.arcs := by
  unfold Ice.relevel
  split_ifs <;> rfl

/-- A sample leaves the run within its range and the arc bins as they stand (R146). -/
theorem sample_run_arcs (b : Bool) (now : Time) (i : Ice) :
    (i.sample b now).run ≤ Config.runLevel1 ∧ (i.sample b now).arcs = i.arcs := by
  unfold Ice.sample
  dsimp only
  generalize hj : Ice.relevel _ _ _ = j
  have hrun : j.run ≤ Config.runLevel1 := by
    rw [← hj, relevel_run]
    cases b
    · exact Nat.zero_le _
    · exact min_le_left _ _
  have harcs : j.arcs = i.arcs := by rw [← hj, relevel_arcs]
  split
  · exact ⟨hrun, harcs⟩
  · exact ⟨hrun, harcs⟩

/-- A temperature sample keeps the run within its range (R146). -/
theorem Effect.sample (h : Effect F R s t) (b : Bool) (now : Time) : Effect F R s (t.modIce (·.sample b now)) :=
  h.modIce _ (fun k q => (sample_run_arcs b now t.ice).2 ▸ k q) fun _ => (sample_run_arcs b now t.ice).1

theorem Effect.tempFault (h : Effect F R s t) (x : TempState) : Effect F R s (tempFault x t) := by
  have hfault := h.kept (((Kept.refl t).reportFault .tempSensor none none).notice .sensor)
  cases x
  · exact hfault
  · exact hfault
  · exact h
  · exact h

theorem Effect.takeTemp (h : Effect F R s t) (x : Int) : Effect F R s (takeTemp x t) := by
  unfold Machine.takeTemp
  split
  · exact (h.modIce (fun i => { i with tempState := .valid, temp := some x, tempAt := t.now }) id id).sample _ _
  · exact ((h.modIce (fun i => { i with tempState := .invalid, tempAt := t.now }) id id).tempFault _).sample _ _

theorem Effect.tempGoesStale (h : Effect F R s t) : Effect F R s (tempGoesStale t) :=
  ((h.modIce (fun i => { i with tempState := .stale, subAt := t.now }) id id).tempFault _).sample _ _

theorem Effect.substitute (h : Effect F R s t) : Effect F R s (substitute t) :=
  (h.modIce (fun i => { i with subAt := t.now }) id id).sample _ _

theorem setWeather_run (b : Bool) (now : Time) (i : Ice) : (i.setWeather b now).run = i.run := relevel_run _ _ _

theorem setWeather_arcs (b : Bool) (now : Time) (i : Ice) : (i.setWeather b now).arcs = i.arcs := relevel_arcs _ _ _

/-! The limits and readings that only act on what reactions act on. -/

theorem Kept.discLimit (h : Kept s t) (p : Pan) : Kept s (discLimit p t) := by
  unfold Machine.discLimit
  split
  · exact h.discExpires p _
  all_goals exact h

theorem Kept.moveLimit (h : Kept s t) : Kept s (moveLimit t) := by
  unfold Machine.moveLimit
  split
  · split
    · exact h.selectorRests _
    · exact h.selectorFails _
  all_goals exact h

theorem Effect.earthReading (h : Effect F R s t) (e : Bool) : Effect F R s (earthReading e t) := by
  unfold Machine.earthReading
  split
  · exact h
  · exact (h.modLines _).kept ((Kept.refl _).notice _).earthUnexpected

theorem Kept.heaterRestEnds (h : Kept s t) (p : Pan) : Kept s (heaterRestEnds p t) := h.setHeater p _

theorem Kept.heaterRests (h : Kept s t) (p : Pan) : Kept s (heaterRests p t) := (h.setHeater p _).notice _

/-! ### The events of the roof -/

/-- An event of the roof, not of the links, and not POWER_ON. -/
def roofEvent : Instr → Bool
  | .travelPulse _ _ | .speedIntervalEnd | .lineSample _ | .sampleLoss | .contactSenseChange _ _ | .loweredLimitChange _ _
  | .pressureSample _ _ | .pressureGap _ | .settleComplete _ | .raiseTimeout _ | .contactLost _ | .lowerTimeout _
  | .disconnectorFeedback _ _ | .discMoveTimeout _ | .breakerFeedback _ | .breakerCloseTimeout | .breakerOpenTimeout
  | .lineLostWatchExpiry | .autoReclose | .selectorFeedback _ | .selectorMoveTimeout | .earthSwitchFeedback _
  | .confirmLimitExpiry | .arcPulse _ _ | .arcBinEnd | .temperatureWord _ | .tempStale | .tempSubstituteSample
  | .releaseTimerExpiry | .clearDwellExpiry | .heaterOnTimeLimit _ | .heaterRestEnd _ | .supervisionLapse => true
  | _ => false

/-- From `s` to `t` an event has its effect, and attention agrees with the notice sets where it did (R198). -/
def EventDone (s t : State) : Prop := Effect True True s t ∧ (s.Attended → t.Attended)

theorem eventDone_settle (h : Effect True True s t) : EventDone s (settle t) := ⟨h.settle, fun _ => settle_attended⟩

theorem eventDone_refl (s : State) : EventDone s s := ⟨.refl s, id⟩

theorem eventDone_atLimit {due : Bool} {f : State → State} (h : due = true → Effect True True s (f s))
    (k : atLimit due f s = .next t) : EventDone s t := by
  cases k
  cases due with
  | false => exact eventDone_refl s
  | true => exact eventDone_settle (h rfl)

theorem eventDone_modLines (f : Lines → Lines) (s : State) : EventDone s (s.modLines f) :=
  ⟨(Effect.refl s).modLines f, id⟩

/-- Every event of the roof has an effect of its kind, with the reactions where it acts. -/
theorem eventDone_exec {i : Instr} (hi : roofEvent i = true) (h : exec i s = .next t) : EventDone s t := by
  have r : Kept s s := .refl s
  have e : Effect True True s s := .refl s
  cases i
  case travelPulse dir x =>
    cases h
    split
    · exact eventDone_settle ((e.modLines _).takePulse _)
    · exact eventDone_modLines _ _
  case speedIntervalEnd => cases h; exact eventDone_settle e.intervalEnd.raceAtInterval
  case lineSample x => cases h; exact eventDone_settle (e.takeSample _)
  case sampleLoss => exact eventDone_atLimit (fun _ => e.loseSamples) h
  case contactSenseChange p b => cases h; exact eventDone_settle ((e.modLines _).kept ((Kept.refl _).contactSense p))
  case loweredLimitChange p b => cases h; exact eventDone_settle ((e.modLines _).kept ((Kept.refl _).loweredLimit p))
  case pressureSample p x => cases h; exact eventDone_settle (e.kept (r.takePressure p x))
  case pressureGap p => exact eventDone_atLimit (fun _ => e.kept (r.sensorTrip p)) h
  case settleComplete p =>
    refine eventDone_atLimit (fun hdue => e.kept (r.settleEnds p ?_)) h
    simp only [State.settleDue, Bool.and_eq_true, decide_eq_true_eq] at hdue
    exact hdue.1
  case raiseTimeout p => exact eventDone_atLimit (fun _ => e.kept (r.raiseExpires p)) h
  case contactLost p => exact eventDone_atLimit (fun _ => e.kept (r.contactLost p)) h
  case lowerTimeout p => exact eventDone_atLimit (fun _ => e.kept (r.lowerExpires p)) h
  case disconnectorFeedback p x => cases h; exact eventDone_settle ((e.modLines _).kept ((Kept.refl _).discReading p))
  case discMoveTimeout p => exact eventDone_atLimit (fun _ => e.kept (r.discLimit p)) h
  case breakerFeedback x => cases h; exact eventDone_settle ((e.modLines _).kept (Kept.refl _).breakerReading)
  case breakerCloseTimeout => exact eventDone_atLimit (fun _ => e.kept r.closeLimit) h
  case breakerOpenTimeout => exact eventDone_atLimit (fun _ => e.kept r.openLimit) h
  case lineLostWatchExpiry => exact eventDone_atLimit (fun _ => e.kept r.lineLostExpires) h
  case autoReclose => exact eventDone_atLimit (fun _ => e.kept r.autoRecloses) h
  case selectorFeedback x => cases h; exact eventDone_settle ((e.modLines _).kept (Kept.refl _).selectorReading)
  case selectorMoveTimeout => exact eventDone_atLimit (fun _ => e.kept r.moveLimit) h
  case earthSwitchFeedback x => cases h; exact eventDone_settle (e.earthReading x)
  case confirmLimitExpiry => exact eventDone_atLimit (fun _ => e.kept r.confirmExpires) h
  case arcPulse p x =>
    cases h
    split
    · exact eventDone_settle ((e.modLines _).countArc p)
    · exact eventDone_modLines _ _
  case arcBinEnd => cases h; exact eventDone_settle (e.modClk _).binEnd
  case temperatureWord x => cases h; exact eventDone_settle (e.takeTemp x)
  case tempStale => exact eventDone_atLimit (fun _ => e.tempGoesStale) h
  case tempSubstituteSample => exact eventDone_atLimit (fun _ => e.substitute) h
  case releaseTimerExpiry => exact eventDone_atLimit (fun _ => e.modIce _ id id) h
  case clearDwellExpiry => exact eventDone_atLimit (fun _ => e.kept (r.setIceState _)) h
  case heaterOnTimeLimit p => exact eventDone_atLimit (fun _ => e.kept (r.heaterRests p)) h
  case heaterRestEnd p => exact eventDone_atLimit (fun _ => e.kept (r.heaterRestEnds p)) h
  case supervisionLapse => exact eventDone_atLimit (fun _ => e.kept (r.oweChange _)) h
  all_goals exact absurd hi Bool.false_ne_true

end Events

end Sys2Proof.Machine

/-! ### The items of Table 11-1 (R194) -/

namespace Sys2Proof.Machine

section Slots

variable {item x v : Nat} {slot : Slot} {i : Items}

/-- The ranges of Table 11-1 item by item; PAN_CLASS and the two target tables meet theirs by their types. -/
structure Items.Ranged (i : Items) : Prop where
  travel : 10 ≤ i.pulseLength ∧ i.pulseLength ≤ 2000 ∧ 5 ≤ i.pulseMinWidth ∧ i.pulseMinWidth ≤ 500
    ∧ 10000 ≤ i.carLength ∧ i.carLength ≤ 30000
  line : 1 ≤ i.lineConfirm ∧ i.lineConfirm ≤ 8 ∧ 1 ≤ i.noneConfirm ∧ i.noneConfirm ≤ 8
  pan : 3000 ≤ i.raiseLimit ∧ i.raiseLimit ≤ 30000 ∧ 2000 ≤ i.lowerLimit ∧ i.lowerLimit ≤ 20000
    ∧ 200 ≤ i.settleTime ∧ i.settleTime ≤ 5000 ∧ 20 ≤ i.dropThreshold ∧ i.dropThreshold ≤ 200
  force : i.scrapeBonus ≤ 60 ∧ 100 ≤ i.pMax ∧ i.pMax ≤ 600 ∧ 1 ≤ i.pressureSlew ∧ i.pressureSlew ≤ 100
  power : 200 ≤ i.lineLostDwell ∧ i.lineLostDwell ≤ 5000
  map : 500 ≤ i.armDistance ∧ i.armDistance ≤ 10000 ∧ 50 ≤ i.openTime ∧ i.openTime ≤ 2000
    ∧ 500 ≤ i.lowerAllowTime ∧ i.lowerAllowTime ≤ 8000 ∧ i.approachMargin ≤ 500 ∧ i.clearMargin ≤ 200
    ∧ 500 ≤ i.confirmLimit ∧ i.confirmLimit ≤ 10000
  ice : 10 ≤ i.arcMinWidth ∧ i.arcMinWidth ≤ 1000 ∧ 1 ≤ i.arcSet ∧ i.arcSet ≤ 255 ∧ i.arcClear ≤ 254
    ∧ 2778 ≤ i.scrapeMinSpeed ∧ i.scrapeMinSpeed ≤ 55556
  auth : 200 ≤ i.authSupervision ∧ i.authSupervision ≤ 5000
  channels : ∀ p, i.panPosition.get p ≤ 30000 ∧ i.calOffset.get p ≤ 200 ∧ i.calGain.get p ≤ 1023

theorem roofSlot_eq_some {lo hi : Nat} {read : Items → Nat} {write : Nat → Items → Items}
    (h : roofSlot x lo hi read write = some slot) : x = 0 ∧ slot = ⟨lo, hi, read, write⟩ := by
  unfold roofSlot at h
  split at h
  · next hx => exact ⟨hx, (Option.some.inj h).symm⟩
  · cases h

theorem pan_ofNum_eq_some {n : Nat} {p : Pan} : Pan.ofNum n = some p ↔ n = p.num := by
  constructor
  · intro h
    unfold Pan.ofNum at h
    split at h <;> cases h <;> rfl
  · rintro rfl
    cases p <;> rfl

theorem lineSysOf_eq_some {n : Nat} {y : LineSys} : lineSysOf n = some y ↔ n = LineSys.num y := by
  constructor
  · intro h
    unfold lineSysOf at h
    split at h <;> cases h <;> rfl
  · rintro rfl
    cases y <;> rfl

theorem panSlot_eq_some {lo hi : Nat} {read : Pan → Items → Nat} {write : Pan → Nat → Items → Items}
    (h : panSlot x lo hi read write = some slot) : ∃ p, x = p.num ∧ slot = ⟨lo, hi, read p, write p⟩ := by
  obtain ⟨p, hp, rfl⟩ := Option.map_eq_some_iff.1 h
  exact ⟨p, pan_ofNum_eq_some.1 hp, rfl⟩

theorem sysSlot_eq_some {lo hi : Nat} {read : LineSys → Items → Nat} {write : LineSys → Nat → Items → Items}
    (h : sysSlot x lo hi read write = some slot) : ∃ y, x = LineSys.num y ∧ slot = ⟨lo, hi, read y, write y⟩ := by
  obtain ⟨y, hy, rfl⟩ := Option.map_eq_some_iff.1 h
  exact ⟨y, lineSysOf_eq_some.1 hy, rfl⟩

theorem pan_num_range (p : Pan) : 1 ≤ p.num ∧ p.num ≤ 4 := by cases p <;> decide

theorem lineSys_num_range (y : LineSys) : 1 ≤ LineSys.num y ∧ LineSys.num y ≤ 4 := by cases y <;> decide

theorem pclass_num_range (c : PClass) : 1 ≤ PClass.num c ∧ PClass.num c ≤ 2 := by cases c <;> decide

@[simp] theorem PerSys.get_set_same {α : Type} (w : PerSys α) (y : LineSys) (a : α) : (w.set y a).get y = a := by
  cases y <;> rfl

/-- What an item's slot is to Table 11-1: its range there, its index, and what a write of a value in range does: the value reads
back, every other range stands, and the items that a rule reads beside the one written stand with them. -/
structure Slot.Fits (slot : Slot) (item x : Nat) : Prop where
  range : itemRanges[item - 1]? = some (slot.lo, slot.hi)
  exist : ItemExists item x
  readBack : ∀ v i, slot.lo ≤ v → v ≤ slot.hi → slot.read (slot.write v i) = v
  ranged : ∀ v i, slot.lo ≤ v → v ≤ slot.hi → i.Ranged → (slot.write v i).Ranged
  inRange : ∀ i : Items, i.Ranged → slot.lo ≤ slot.read i ∧ slot.read i ≤ slot.hi
  arcSet : ∀ v i, (slot.write v i).arcSet = if item = 27 then v else i.arcSet
  arcClear : ∀ v i, (slot.write v i).arcClear = if item = 28 then v else i.arcClear
  offsets : item ≠ 3 → item ≠ 4 → ∀ v i, (slot.write v i).carLength = i.carLength
    ∧ (slot.write v i).panPosition = i.panPosition

theorem set_get_le {w : PerPan Nat} {p : Pan} {v n : Nat} (hv : v ≤ n) (hw : ∀ q, w.get q ≤ n) (q : Pan) :
    (w.set p v).get q ≤ n := by
  rw [PerPan.get_set]
  split
  · exact hv
  · exact hw q

theorem classOrAc_num {v : Nat} (h1 : 1 ≤ v) (h2 : v ≤ 2) : PClass.num (classOrAc v) = v := by
  interval_cases v <;> rfl

theorem ofNum_num {v : Nat} (h : v ≤ 4) : numOr0 Pan.num (Pan.ofNum v) = v := by
  interval_cases v <;> rfl

theorem numOr0_pan_le (o : Option Pan) : numOr0 Pan.num o ≤ 4 := by
  cases o with
  | none => exact Nat.zero_le _
  | some p => exact (pan_num_range p).2

/-- Every slot of Table 11-1 fits it. -/
theorem slotOf_fits (h : slotOf item x = some slot) : slot.Fits item x := by
  unfold slotOf at h
  split at h
  case h_4 =>
    obtain ⟨p, rfl, rfl⟩ := panSlot_eq_some h
    have hp := pan_num_range p
    exact ⟨rfl, by simpa [ItemExists] using hp, fun v i _ _ => by simp,
      fun v i _ hv r => { r with channels := fun q => ⟨set_get_le hv (fun q => (r.channels q).1) q, (r.channels q).2⟩ },
      fun i r => ⟨Nat.zero_le _, (r.channels p).1⟩, fun _ _ => rfl, fun _ _ => rfl, fun _ h4 => absurd rfl h4⟩
  case h_7 =>
    obtain ⟨p, rfl, rfl⟩ := panSlot_eq_some h
    have hp := pan_num_range p
    exact ⟨rfl, by simpa [ItemExists] using hp, fun v i h1 h2 => by simpa using classOrAc_num h1 h2,
      fun v i _ _ ⟨r1, r2, r3, r4, r5, r6, r7, r8, r9⟩ => ⟨r1, r2, r3, r4, r5, r6, r7, r8, r9⟩,
      fun i _ => pclass_num_range _, fun _ _ => rfl, fun _ _ => rfl, fun _ _ _ _ => ⟨rfl, rfl⟩⟩
  case h_8 =>
    obtain ⟨y, rfl, rfl⟩ := sysSlot_eq_some h
    have hy := lineSys_num_range y
    exact ⟨rfl, by simpa [ItemExists] using hy, fun v i _ h2 => by simpa using ofNum_num h2,
      fun v i _ _ ⟨r1, r2, r3, r4, r5, r6, r7, r8, r9⟩ => ⟨r1, r2, r3, r4, r5, r6, r7, r8, r9⟩,
      fun i _ => ⟨Nat.zero_le _, numOr0_pan_le _⟩, fun _ _ => rfl, fun _ _ => rfl, fun _ _ _ _ => ⟨rfl, rfl⟩⟩
  case h_9 =>
    obtain ⟨y, rfl, rfl⟩ := sysSlot_eq_some h
    have hy := lineSys_num_range y
    exact ⟨rfl, by simpa [ItemExists] using hy, fun v i _ h2 => by simpa using ofNum_num h2,
      fun v i _ _ ⟨r1, r2, r3, r4, r5, r6, r7, r8, r9⟩ => ⟨r1, r2, r3, r4, r5, r6, r7, r8, r9⟩,
      fun i _ => ⟨Nat.zero_le _, numOr0_pan_le _⟩, fun _ _ => rfl, fun _ _ => rfl, fun _ _ _ _ => ⟨rfl, rfl⟩⟩
  case h_15 =>
    obtain ⟨p, rfl, rfl⟩ := panSlot_eq_some h
    have hp := pan_num_range p
    exact ⟨rfl, by simpa [ItemExists] using hp, fun v i _ _ => by simp,
      fun v i _ hv r => { r with channels := fun q =>
        ⟨(r.channels q).1, set_get_le hv (fun q => (r.channels q).2.1) q, (r.channels q).2.2⟩ },
      fun i r => ⟨Nat.zero_le _, (r.channels p).2.1⟩, fun _ _ => rfl, fun _ _ => rfl, fun _ _ _ _ => ⟨rfl, rfl⟩⟩
  case h_16 =>
    obtain ⟨p, rfl, rfl⟩ := panSlot_eq_some h
    have hp := pan_num_range p
    exact ⟨rfl, by simpa [ItemExists] using hp, fun v i _ _ => by simp,
      fun v i _ hv r => { r with channels := fun q =>
        ⟨(r.channels q).1, (r.channels q).2.1, set_get_le hv (fun q => (r.channels q).2.2) q⟩ },
      fun i r => ⟨Nat.zero_le _, (r.channels p).2.2⟩, fun _ _ => rfl, fun _ _ => rfl, fun _ _ _ _ => ⟨rfl, rfl⟩⟩
  case h_31 => cases h
  all_goals
    obtain ⟨rfl, rfl⟩ := roofSlot_eq_some h
    refine ⟨rfl, by simp [ItemExists], fun _ _ _ _ => rfl, fun v i h1 h2 r => ?_, fun i r => ?_, fun _ _ => rfl,
      fun _ _ => rfl, by simp⟩
    · obtain ⟨r1, r2, r3, r4, r5, r6, r7, r8, r9⟩ := r
      dsimp only at h1 h2
      constructor <;> dsimp only <;> first | assumption | omega
    · have := r.travel; have := r.line; have := r.pan; have := r.force; have := r.power; have := r.map; have := r.ice
      have := r.auth
      dsimp only
      omega

/-- The items of Table 11-1 exist exactly where a slot does. -/
theorem slotOf_isSome (h : ItemExists item x) : (slotOf item x).isSome = true := by
  obtain ⟨h1, h2, h3⟩ := h
  interval_cases item
  all_goals
    simp only [List.mem_cons, List.not_mem_nil, Nat.reduceEqDiff, or_false, or_true, if_true, if_false] at h3
  all_goals first
    | (subst h3; rfl)
    | (obtain ⟨h4, h5⟩ := h3; interval_cases x <;> rfl)

theorem items_bounded_iff : i.Bounded ↔ i.Ranged := by
  refine ⟨fun b => ?_, fun r item x slot h => (slotOf_fits h).inRange i r⟩
  constructor
  · exact ⟨(b 1 0 _ rfl).1, (b 1 0 _ rfl).2, (b 2 0 _ rfl).1, (b 2 0 _ rfl).2, (b 3 0 _ rfl).1, (b 3 0 _ rfl).2⟩
  · exact ⟨(b 5 0 _ rfl).1, (b 5 0 _ rfl).2, (b 6 0 _ rfl).1, (b 6 0 _ rfl).2⟩
  · exact ⟨(b 10 0 _ rfl).1, (b 10 0 _ rfl).2, (b 11 0 _ rfl).1, (b 11 0 _ rfl).2, (b 12 0 _ rfl).1,
      (b 12 0 _ rfl).2, (b 13 0 _ rfl).1, (b 13 0 _ rfl).2⟩
  · exact ⟨(b 14 0 _ rfl).2, (b 17 0 _ rfl).1, (b 17 0 _ rfl).2, (b 18 0 _ rfl).1, (b 18 0 _ rfl).2⟩
  · exact b 19 0 _ rfl
  · exact ⟨(b 20 0 _ rfl).1, (b 20 0 _ rfl).2, (b 21 0 _ rfl).1, (b 21 0 _ rfl).2, (b 22 0 _ rfl).1,
      (b 22 0 _ rfl).2, (b 23 0 _ rfl).2, (b 24 0 _ rfl).2, (b 25 0 _ rfl).1, (b 25 0 _ rfl).2⟩
  · exact ⟨(b 26 0 _ rfl).1, (b 26 0 _ rfl).2, (b 27 0 _ rfl).1, (b 27 0 _ rfl).2, (b 28 0 _ rfl).2,
      (b 29 0 _ rfl).1, (b 29 0 _ rfl).2⟩
  · exact b 30 0 _ rfl
  · intro p
    cases p
    · exact ⟨(b 4 1 _ rfl).2, (b 15 1 _ rfl).2, (b 16 1 _ rfl).2⟩
    · exact ⟨(b 4 2 _ rfl).2, (b 15 2 _ rfl).2, (b 16 2 _ rfl).2⟩
    · exact ⟨(b 4 3 _ rfl).2, (b 15 3 _ rfl).2, (b 16 3 _ rfl).2⟩
    · exact ⟨(b 4 4 _ rfl).2, (b 15 4 _ rfl).2, (b 16 4 _ rfl).2⟩

end Slots

end Sys2Proof.Machine

/-! ### What the commands uphold (R98, R99, R193 to R196) -/

namespace Sys2Proof.Machine

section Insertions

variable {s : State} {l : Link} {sect : Section} {start length : Nat}

/-- What a section that passes the checks of R100 meets. -/
theorem insertRefusal_eq_none (h : s.insertRefusal start length = none) :
    s.map.entries.length ≠ Config.mapCapacity ∧ s.trv.front ≤ start * 1000
      ∧ (∀ e ∈ s.map.entries, e.state = .active → e.start ≤ start)
      ∧ ∀ e ∈ s.map.entries, ¬ (start < e.start + e.length ∧ e.start < start + length) := by
  unfold State.insertRefusal at h
  split at h
  · cases h
  · next hfull =>
    split at h
    · cases h
    · next hbehind =>
      split at h
      · cases h
      · next hlocked =>
        split at h
        · cases h
        · next hover =>
          refine ⟨hfull, not_lt.1 hbehind, fun e he hact => ?_, fun e he => ?_⟩
          · by_contra hlt
            exact hlocked (List.any_eq_true.2 ⟨e, he, by simpa [hact] using hlt⟩)
          · intro hboth
            exact hover (List.any_eq_true.2 ⟨e, he, by simpa [overlaps] using hboth⟩)

/-- An entry that keeps its distance from every other joins the map in its place, with a free id, and leaves the map in order
(R98, R99). -/
theorem placed_mapOrdered {e : Entry} (h : s.MapOrdered) (hroom : s.map.entries.length ≠ Config.mapCapacity)
    (hid : e.id = s.offeredId) (hlen : 1 ≤ e.length)
    (hover : ∀ d ∈ s.map.entries, ¬ (e.start < d.start + d.length ∧ d.start < e.start + e.length)) :
    (s.modMap fun m => { m with entries := placeEntry e m.entries, nextId := nextId e.id }).MapOrdered := by
  obtain ⟨hcap, hpair, hnodup, hspan, hnext⟩ := h
  have hcount : s.map.entries.length < 64 := by
    have : s.spans.length ≤ 64 := hcap
    rw [State.spans, List.length_map] at this
    exact lt_of_le_of_ne this hroom
  have hrange : IdInRange e.id := hid ▸ freeId_inRange hnext _ _
  obtain ⟨before, after, hsplit, hplace, hbefore, hafter⟩ := placeEntry_split e s.map.entries
  have hspans : s.spans = before.map (fun d => (d.id, d.start, d.length)) ++ after.map (fun d => (d.id, d.start, d.length)) := by
    rw [State.spans, hsplit, List.map_append]
  have hnew : (s.modMap fun m => { m with entries := placeEntry e m.entries, nextId := nextId e.id }).spans
      = before.map (fun d => (d.id, d.start, d.length)) ++ (e.id, e.start, e.length)
        :: after.map (fun d => (d.id, d.start, d.length)) := by
    simp [State.spans, hplace]
  have hperm : (s.modMap fun m => { m with entries := placeEntry e m.entries, nextId := nextId e.id }).spans.Perm
      ((e.id, e.start, e.length) :: s.spans) := by
    rw [hnew, hspans]
    exact List.perm_middle
  refine ⟨?_, ?_, ?_, fun x hx => ?_, nextId_inRange hrange⟩
  · rw [hperm.length_eq, List.length_cons, State.spans, List.length_map]
    exact hcount
  · rw [hnew]
    refine pairwise_before_insert (hspans ▸ hpair) (fun y hy => (hspan y (hspans ▸ hy)).2.2) hlen (fun y hy => ?_) ?_ ?_
    · rw [← List.map_append, ← hsplit] at hy
      obtain ⟨d, hd, rfl⟩ := List.mem_map.1 hy
      exact hover d hd
    · rintro y hy
      obtain ⟨d, hd, rfl⟩ := List.mem_map.1 hy
      exact hbefore d hd
    · intro y hy
      rw [List.head?_map] at hy
      obtain ⟨d, hd, rfl⟩ := Option.map_eq_some_iff.1 hy
      exact hafter d hd
  · refine ((hperm.map _).nodup_iff).2 (List.nodup_cons.2 ⟨fun hmem => ?_, hnodup⟩)
    simp only [State.spans, List.map_map, List.mem_map, Function.comp_apply] at hmem
    obtain ⟨d, hd, heq⟩ := hmem
    exact offeredId_free hcount.le d hd (heq.trans hid)
  · rcases List.mem_cons.1 (hperm.subset hx) with rfl | hmem
    · exact ⟨hrange.1, hrange.2, hlen⟩
    · exact hspan x hmem

end Insertions

section Commands

variable {F R : Prop} {s t : State}

/-! The effects of the commands that do more than reactions do. -/

theorem Effect.takeFix (h : Effect F R s t) {m : Nat} (hm : m ≤ Config.routeMax) : Effect F R s (takeFix m t) := by
  have hfront : m * 1000 ≤ Config.frontMax := by
    unfold Config.routeMax at hm
    unfold Config.frontMax
    omega
  exact (h.modTrv (fun x => { x with front := m * 1000 }) fun b => ⟨hfront, b.2⟩).kept
    ((((Kept.refl _).mapFix _).endPassed _).setIceEval _)

theorem Effect.insertEntry (h : Effect F R s t) (l : Link) (sect : Section) {start length : Nat}
    (hpass : t.insertRefusal start length = none) (hlen : 1 ≤ length) : Effect F R s (insertEntry l sect start length t) := by
  obtain ⟨hroom, -, -, hover⟩ := insertRefusal_eq_none hpass
  have hplace : Effect F R t (t.modMap fun m => { m with
      entries := placeEntry ⟨t.offeredId, sect, start, length, l, .pending, none, false, false⟩ m.entries
      nextId := Machine.nextId t.offeredId }) :=
    ⟨⟨fun k => placed_mapOrdered k hroom rfl hlen hover, id, fun ⟨h1, h2, h3, h4, h5⟩ => ⟨h1, h2, h3, h4, h5⟩, id,
      fun _ _ => id, fun _ => id⟩, serves_of_lnk rfl⟩
  exact (h.trans hplace).kept ((((Kept.refl _).noticeOthers l .map).armWhere _).setIceEval _)

/-- A removal of several entries leaves the other blocks as they stand (R103). -/
theorem removeAll_seq (es : List Entry) (r : RemovalReason) (s : State) : (removeAll es r s).seq = s.seq := by
  unfold removeAll
  induction es generalizing s with
  | nil => rfl
  | cons e es ih =>
    obtain ⟨action, he⟩ := removeEntry_eq e r s
    rw [List.foldl_cons, ih, he]

@[simp] theorem clearMap_seq (s : State) : (clearMap s).seq = s.seq := removeAll_seq _ _ _

theorem not_roofSafe_of_configMode (h : s.configMode = true) : s.seq.mode ≠ .roofSafe := fun hm => by
  simp [State.configMode, State.quiescent, hm] at h

theorem Effect.configWrite (h : Effect F R s t) (i x v : Nat) : Effect F R s (configWrite i x v t).1 := by
  unfold Machine.configWrite
  split
  · exact h
  · split
    · exact h
    · next slot hslot =>
      dsimp only
      split
      · exact h
      · next hv =>
        simp only [Bool.or_eq_true, decide_eq_true_eq, not_or, not_lt] at hv
        split
        · exact h
        · split
          · exact h
          · have hit : t.cfg.Bounded → Store.Bounded { t.cfg with items := slot.write v t.cfg.items } := fun ⟨hi, hrest⟩ =>
              ⟨items_bounded_iff.2 ((slotOf_fits hslot).ranged v _ hv.1 hv.2 (items_bounded_iff.1 hi)), hrest⟩
            unfold writeItem
            dsimp only
            split
            · exact (h.modCfg _ hit).kept (Kept.refl _).recomputeOffsets
            · exact h.modCfg _ hit

theorem Effect.configCommit (h : Effect F R s t) : Effect F R s (configCommit t).1 := by
  unfold Machine.configCommit
  split
  · exact h
  · next hmode =>
    have hsafe := not_roofSafe_of_configMode (by simpa using hmode)
    split
    · exact h
    · split
      · exact h.modCfg (fun c => { c with report := _ }) id
      · exact ((h.modCfg (fun c => { c with committed := true, report := _ }) id).modSeq _ fun _ hm => absurd hm hsafe).kept
          (((Kept.refl _).notice _).armAll.setIceEval _)

theorem Effect.configReopen (h : Effect F R s t) : Effect F R s (configReopen t).1 := by
  unfold Machine.configReopen
  split
  · exact h
  · next hq =>
    have hsafe : (clearMap t).seq.mode ≠ .roofSafe := by
      rw [clearMap_seq]
      exact not_roofSafe_of_configMode (by simp_all [State.configMode])
    exact (((h.kept (Kept.refl t).clearMap).modCfg (fun c => { c with committed := false }) id).modSeq
      (fun q => { q with mode := .configPending }) fun _ hm => absurd hm hsafe).kept
      (((Kept.refl _).notice _).setIceEval _)

theorem set_pointBounded {fs : List Nat} {i f : Nat} (h : ∀ x ∈ fs, PointBounded x) (hf : validForce f = true) :
    ∀ x ∈ fs.set i f, PointBounded x := fun x hx => by
  rcases List.mem_or_eq_of_mem_set hx with hmem | rfl
  · exact h x hmem
  · simp only [validForce, Bool.and_eq_true, decide_eq_true_eq] at hf
    exact .inr hf

theorem Effect.setPoint (h : Effect F R s t) (c : PClass) (i : Nat) {f : Nat} (hf : validForce f = true) :
    Effect F R s (setPoint c i f t) :=
  h.modCfg _ fun ⟨hi, hac, hdc, hpac, hpdc⟩ => by
    cases c
    · exact ⟨hi, (List.length_set ..).trans hac, hdc, set_pointBounded hpac hf, hpdc⟩
    · exact ⟨hi, hac, (List.length_set ..).trans hdc, hpac, set_pointBounded hpdc hf⟩

theorem Effect.setCursor (h : Effect F R s t) (l : Link) (c : Cursor) : Effect F R s (setCursor l c t) :=
  h.modPort l _ rfl id

theorem Kept.resetBreaker (h : Kept s t) : Kept s (resetBreaker t) := by
  unfold Machine.resetBreaker
  split_ifs
  · exact h.setBreaker _
  · exact h.startOpening
  · exact h

theorem Kept.resetSelector (h : Kept s t) : Kept s (resetSelector t) := by
  unfold Machine.resetSelector
  split
  · exact h.modBsc _
  all_goals exact h

theorem Effect.takeRoofReset (h : Effect F R s t) (hR : ¬ R) : Effect F R s (takeRoofReset t) := by
  unfold Machine.takeRoofReset
  dsimp only
  generalize hu : Machine.resetSelector _ = u
  have hkept : Kept t u :=
    hu ▸ (Kept.forPans ((Kept.refl t).cancelSequence _).returnAll fun p v =>
      (Kept.refl v).resetChannel p).resetBreaker.resetSelector
  refine Effect.kept ?_ ((Kept.refl _).setIceEval true)
  unfold resetMode
  split
  · exact ((h.kept hkept).modSeq _ fun r => absurd r hR).kept ((Kept.refl _).notice _).armAll
  · exact h.kept hkept

theorem Kept.takeLowerAll (h : Kept s t) : Kept s (takeLowerAll t) :=
  ((Kept.forPans h fun p v => (Kept.refl v).protectiveLower p).openRequest.clearTraction.cancelSequence _).setProc _

theorem Effect.sync (h : Effect F R s t) (l : Link) (tag : Byte) : Effect F R s (cmdSync l tag t).1 := by
  unfold cmdSync
  split
  · exact h
  · exact h
  · exact (h.kept (((Kept.refl t).setLongOps _).setSync _)).modPort l (fun q => { q with blocked := true }) rfl fun _ => rfl

/-- A command of the authority class does what reactions may do (R169, R171). -/
theorem Kept.takeAuthority (h : Kept s t) (l : Link) (tag : Byte) (c : Cmd) : Kept s (takeAuthority l tag c t).1 := by
  unfold Machine.takeAuthority
  split_ifs
  · exact h.runAuthority l c
  · exact h.park c tag
  · exact h

/-! Every command, with the two that end a filled fault record and ROOF_SAFE (R96, R201). -/

theorem runCmd_effect (l : Link) (tag : Byte) (c : Cmd) (s : State) :
    Effect (c ≠ .faultClear) (c ≠ .roofReset) s (runCmd l tag c s).1 := by
  have r : Kept s s := .refl s
  have e : Effect (c ≠ .faultClear) (c ≠ .roofReset) s s := .refl s
  cases c
  case nop | travelRead | lineRead | breakerRead | mapStatus | seqRead | iceRead | authRead | noticeRead | faultRead | unknown
    | badLength => exact e
  case setFormation | raise | lower | discSet | addReset | breakerClose | breakerOpen | select | iceMode | heat =>
    exact e.kept (r.takeAuthority l tag _)
  case linkStatus => exact e.modPort l (fun q => { q with flags := .clear }) rfl id
  case noticeClear k => exact e.modPort l (·.clearCauses k) rfl id
  case noticeEnable k => exact e.modPort l (fun q => { q with enable := k }) rfl id
  case sync => exact e.sync l tag
  case positionFix m =>
    simp only [runCmd, cmdPositionFix]
    split
    · exact e
    · split
      · exact e
      · split
        · exact e
        · next hm => exact e.takeFix (not_lt.1 hm)
  case isolate p =>
    simp only [runCmd, cmdIsolate]
    split
    · exact e
    · split
      · exact e
      · split
        · exact e.kept (r.isolatePan _)
        · exact e
  case restore p =>
    simp only [runCmd, cmdRestore]
    split
    · exact e
    · split
      · exact e
      · split
        · exact e.kept (r.restorePan _)
        · exact e
  case panRead | forceRead =>
    simp only [runCmd, cmdPanRead, cmdForceRead]
    split <;> exact e
  case forceTableWrite k i f =>
    simp only [runCmd, cmdForceTableWrite]
    split
    · exact e
    · split
      · exact e.setCursor l _
      · split
        · exact e.setCursor l _
        · split
          · exact e.setCursor l _
          · next hf => exact (e.setCursor l _).setPoint _ _ (by simpa using hf)
  case forceTableWriteNext f =>
    simp only [runCmd, cmdForceTableWriteNext]
    split
    · exact e
    · split
      · split
        · exact e
        · split
          · exact e.setCursor l _
          · split
            · exact e
            · next hf => exact (e.setCursor l _).setPoint _ _ (by simpa using hf)
      all_goals exact e
  case forceTableRead k i =>
    simp only [runCmd, cmdForceTableRead]
    split
    · split <;> exact e.setCursor l _
    · exact e.setCursor l _
  case forceTableReadNext =>
    simp only [runCmd, cmdForceTableReadNext]
    split
    · split
      · exact e
      · split <;> exact e.setCursor l _
    all_goals exact e
  case earthPermit o =>
    simp only [runCmd, cmdEarthPermit]
    split
    · exact e
    · split
      · exact e
      · split
        · exact e
        · split
          · exact e
          · exact e.kept (r.setPermit _)
      · split
        · exact e
        · exact e.kept (r.setPermit _)
  case mapInsert kind start length after swap limit =>
    simp only [runCmd, cmdMapInsert]
    split
    · exact e
    · split
      · exact e
      · next sect hsect =>
        split
        · exact e
        · next hpass =>
          refine e.insertEntry l sect hpass (Nat.pos_of_ne_zero fun hzero => ?_)
          rw [insertSection_eq_none.2 (.inr (.inl hzero))] at hsect
          cases hsect
  case mapDelete i =>
    simp only [runCmd, cmdMapDelete]
    split
    · exact e
    · split
      · exact e
      · split
        · exact e
        · split
          · exact e
          · exact e.kept ((r.removeEntry _ _).noticeOthers l _)
  case mapRead i =>
    simp only [runCmd, cmdMapRead]
    split
    · exact e.setCursor l _
    · split <;> exact e.setCursor l _
  case mapReadNext =>
    simp only [runCmd, cmdMapReadNext]
    split
    · split
      · exact e
      · split
        · exact e.setCursor l _
        · split <;> exact e.setCursor l _
    all_goals exact e
  case roofReset =>
    simp only [runCmd, cmdRoofReset]
    split
    · exact e
    · split
      · exact e
      · split
        · exact e
        · exact e.takeRoofReset fun h => h rfl
  case iceWeather o =>
    simp only [runCmd, cmdIceWeather]
    split
    · exact e
    · split
      · exact e
      · split
        · next on _ => exact e.modIce _ (fun k p => (setWeather_arcs on s.now s.ice).symm ▸ k p) fun k =>
            (setWeather_run on s.now s.ice).symm ▸ k
        · exact e
  case authRequest => exact e.kept (r.authRequest l)
  case authRelease => exact e.kept (r.authRelease l)
  case lowerAll =>
    simp only [runCmd, cmdLowerAll]
    split
    · exact e.kept r.takeLowerAll
    · exact e.kept (r.takeLowerAll.startLong l _)
  case configWrite i x v =>
    simp only [runCmd, fromM]
    split
    · exact e
    · exact e.configWrite i x v
  case configRead i x =>
    simp only [runCmd, cmdConfigRead]
    split
    · exact e
    · split <;> exact e
  case configCommit =>
    simp only [runCmd, fromM]
    split
    · exact e
    · exact e.configCommit
  case configReopen =>
    simp only [runCmd, fromM]
    split
    · exact e
    · exact e.configReopen
  case faultClear =>
    simp only [runCmd, cmdFaultClear]
    split
    · exact e
    · exact e.setFault _ fun hF => absurd rfl hF

end Commands

end Sys2Proof.Machine

/-! ### What a command leaves of the notice sets (R181, R198) -/

namespace Sys2Proof.Machine

section Notices

variable {s t u : State} {l : Link}

/-- From `s` to `t` every link's notice sets and attention stand. -/
def NoticesStand (s t : State) : Prop :=
  ∀ l, (t.lnk.get l).pend = (s.lnk.get l).pend ∧ (t.lnk.get l).enable = (s.lnk.get l).enable
    ∧ (t.lnk.get l).attention = (s.lnk.get l).attention

theorem NoticesStand.refl (s : State) : NoticesStand s s := fun _ => ⟨rfl, rfl, rfl⟩

theorem NoticesStand.trans (h : NoticesStand s t) (k : NoticesStand t u) : NoticesStand s u := fun l =>
  ⟨(k l).1.trans (h l).1, (k l).2.1.trans (h l).2.1, (k l).2.2.trans (h l).2.2⟩

theorem noticesStand_of_lnk (h : t.lnk = s.lnk) : NoticesStand s t := fun l => by simp [h]

theorem NoticesStand.modPort (h : NoticesStand s t) (l : Link) (f : Port → Port)
    (k : ∀ q, (f q).pend = q.pend ∧ (f q).enable = q.enable ∧ (f q).attention = q.attention := by
      exact fun _ => ⟨rfl, rfl, rfl⟩) : NoticesStand s (t.modPort l f) :=
  h.trans fun j => by
    rw [State.modPort_lnk, PerLink.get_set]
    split
    · next e => rw [e]; exact k _
    · exact ⟨rfl, rfl, rfl⟩

theorem NoticesStand.attended (h : NoticesStand s t) (k : s.Attended) : t.Attended := fun l => by
  obtain ⟨hp, he, ha⟩ := h l
  rw [ha, k l, Port.wantsAttention, Port.wantsAttention, hp, he]

/-- A status that reports an effect, or a command that has none. -/
def ActsOrStands (r : State × Status) (s : State) : Prop := r.2.effective = true ∨ r.1 = s

theorem actsOrStands_requestRaise (p : Pan) (d : Duty) (src : Source) (s : State) :
    ActsOrStands ((requestRaise p d src s).1, (requestRaise p d src s).2.status) s := by
  have acts : ∀ a : RaiseAnswer, a.status.effective = true → ∀ u, ActsOrStands ((u, a).1, (u, a).2.status) s :=
    fun a ha u => .inl ha
  unfold requestRaise
  split
  · exact .inr rfl
  · split
    · exact .inr rfl
    · split
      · split
        · unfold raiseRaised
          split
          · exact acts _ rfl _
          · split
            · split <;> exact acts _ rfl _
            all_goals exact acts _ rfl _
        · exact .inr rfl
      · split
        · exact acts _ rfl _
        · split
          · exact .inr rfl
          · exact acts _ rfl _

theorem actsOrStands_requestLower (p : Pan) (src : Source) (s : State) :
    ActsOrStands ((requestLower p src s).1, (requestLower p src s).2.status) s := by
  unfold requestLower
  split
  · exact .inr rfl
  · split
    · exact .inr rfl
    · exact .inr rfl
    · exact .inl rfl
    · exact .inl rfl
    all_goals
      dsimp only
      split <;> exact .inl rfl

theorem actsOrStands_requestDisc (p : Pan) (q : DiscPos) (src : Source) (s : State) :
    ActsOrStands ((requestDisc p q src s).1, (requestDisc p q src s).2.status) s := by
  unfold requestDisc
  dsimp only
  split
  · exact .inr rfl
  · split
    · exact .inr rfl
    · split
      · exact .inl rfl
      · split
        · exact .inr rfl
        · split <;> exact .inl rfl
      · split
        · exact .inr rfl
        · exact .inl rfl

/-- A move request that is refused, or that finds its position, leaves the state (R92). -/
theorem requestMove_stands (q : SelPos) (src : Source) (s : State) :
    (requestMove q src s).2 = .started ∨ (requestMove q src s).1 = s := by
  unfold requestMove
  split
  · exact .inr rfl
  · split_ifs
    · exact .inr rfl
    · exact .inr rfl
    · exact .inr rfl
    · exact .inl rfl

/-- A command of the authority class has an effect or changes nothing (R171). -/
theorem actsOrStands_runAuthority (l : Link) (c : Cmd) (s : State) : ActsOrStands (runAuthority l c s) s := by
  cases c
  case setFormation fA fB =>
    simp only [runAuthority, cmdSetFormation]
    split_ifs
    · exact .inr rfl
    · exact .inr rfl
    · exact .inl rfl
  case raise p d =>
    simp only [runAuthority, cmdRaise]
    split
    · exact .inr rfl
    · split
      · exact actsOrStands_requestRaise _ _ _ s
      all_goals exact .inr rfl
  case lower p =>
    simp only [runAuthority, cmdLower]
    split
    · exact .inr rfl
    · split
      · exact actsOrStands_requestLower _ _ s
      · exact .inr rfl
  case discSet p q =>
    simp only [runAuthority, cmdDiscSet]
    split
    · exact .inr rfl
    · split
      · exact actsOrStands_requestDisc _ _ _ s
      all_goals exact .inr rfl
  case addReset p =>
    simp only [runAuthority, cmdAddReset]
    split
    · exact .inr rfl
    · split
      · exact .inr rfl
      · split
        · exact .inr rfl
        · split
          · exact .inr rfl
          · exact .inl rfl
  case breakerClose =>
    simp only [runAuthority, cmdBreakerClose]
    split
    · exact .inr rfl
    · split
      · exact .inr rfl
      · split <;> exact .inl rfl
  case breakerOpen =>
    simp only [runAuthority, cmdBreakerOpen]
    split
    · exact .inr rfl
    · split <;> exact .inl rfl
  case select q =>
    simp only [runAuthority, cmdSelect]
    split
    · exact .inr rfl
    · split
      · exact .inr rfl
      · next q _ =>
        have hmove := requestMove_stands q (.authority l) s
        revert hmove
        generalize requestMove q (.authority l) s = r
        obtain ⟨u, a⟩ := r
        cases a <;> intro hmove
        · exact .inr (hmove.resolve_left fun h => nomatch h)
        · exact .inl rfl
        · exact .inl rfl
  case iceMode e k c w =>
    simp only [runAuthority, cmdIceMode]
    split
    · exact .inr rfl
    · split
      · exact .inr rfl
      · split
        · exact .inl rfl
        · exact .inr rfl
  case heat p o =>
    simp only [runAuthority, cmdHeat]
    split
    · exact .inr rfl
    · split
      · split
        · exact .inr rfl
        · exact .inl rfl
      all_goals exact .inr rfl
  all_goals exact .inr rfl

/-- The reactions, or attention, follow an answer to a command (log 8). -/
def Reacts (c : Cmd) (a : Answer) : Prop :=
  followUp c = .attention ∨ followUp c = .roof ∧ ∃ st bytes, a = some (st, bytes) ∧ st.effective = true

theorem follow_attended_of_reacts {c : Cmd} {a : Answer} (h : Reacts c a) (s : State) : (follow c a s).Attended := by
  rcases h with h | ⟨h, st, bytes, rfl, hst⟩
  · simp only [follow, h]
    exact attend_attended
  · simp only [follow, h, hst, if_true]
    exact settle_attended

theorem follow_kept (c : Cmd) (a : Answer) (s : State) : Kept s (follow c a s) := by
  unfold follow
  split
  · exact .refl s
  · exact (Kept.refl s).attend
  · split
    · exact (Kept.refl s).settle
    · exact .refl s
  · exact .refl s

theorem follow_attended (c : Cmd) (a : Answer) (h : s.Attended) : (follow c a s).Attended := by
  unfold follow
  split
  · exact h
  · exact attend_attended
  · split
    · exact settle_attended
    · exact h
  · exact h

/-- What a command leaves: the notice sets and attention as they stand, or a follow-up that brings attention up to date; and
where it defers its answer, a link that takes no other (R187). -/
structure RunLeaves (l : Link) (c : Cmd) (r : State × Answer) (s : State) : Prop where
  deferred : r.2 = none → (r.1.lnk.get l).canTake = false
  notices : Reacts c r.2 ∨ NoticesStand s r.1

theorem RunLeaves.stands {c : Cmd} {a : Status × List Byte} (h : NoticesStand s u) : RunLeaves l c (u, some a) s :=
  ⟨nofun, .inr h⟩

theorem runLeaves_bare {c : Cmd} {r : State × Status} (hc : followUp c = .roof) (h : ActsOrStands r s) :
    RunLeaves l c (bare r) s :=
  ⟨nofun, h.imp (fun h => .inr ⟨hc, r.2, [], rfl, h⟩) fun h => noticesStand_of_lnk (congrArg State.lnk h)⟩

theorem runLeaves_acts {c : Cmd} {st : Status} {bytes : List Byte} (hc : followUp c = .roof) (hst : st.effective = true) :
    RunLeaves l c (u, some (st, bytes)) s :=
  ⟨nofun, .inl (.inr ⟨hc, st, bytes, rfl, hst⟩)⟩

theorem runLeaves_takeAuthority {c : Cmd} (hc : followUp c = .roof) (l : Link) (tag : Byte) :
    RunLeaves l c (takeAuthority l tag c s) s := by
  unfold takeAuthority
  split
  · exact runLeaves_bare hc (actsOrStands_runAuthority l c s)
  · split
    · unfold park
      split
      · exact .stands (noticesStand_of_lnk rfl)
      · exact .stands (.refl s)
    · exact .stands (.refl s)

theorem noticesStand_setCursor (l : Link) (c : Cursor) (s : State) : NoticesStand s (setCursor l c s) :=
  (NoticesStand.refl s).modPort l _

theorem runLeaves (l : Link) (tag : Byte) (c : Cmd) (s : State) : RunLeaves l c (runCmd l tag c s) s := by
  have stands : NoticesStand s s := .refl s
  have cursor : ∀ x, NoticesStand s (setCursor l x s) := fun x => noticesStand_setCursor l x s
  cases c
  case nop | travelRead | lineRead | breakerRead | mapStatus | seqRead | iceRead | authRead | noticeRead | faultRead | unknown
    | badLength => exact .stands stands
  case setFormation | raise | lower | discSet | addReset | breakerClose | breakerOpen | select | iceMode | heat =>
    exact runLeaves_takeAuthority rfl l tag
  case noticeClear | noticeEnable => exact ⟨nofun, .inl (.inl rfl)⟩
  case linkStatus => exact .stands (stands.modPort l _)
  case sync =>
    simp only [runCmd, cmdSync]
    split
    · exact .stands stands
    · exact .stands stands
    · exact ⟨fun _ => by simp [Port.canTake], .inr (NoticesStand.modPort (noticesStand_of_lnk rfl) l _)⟩
  case panRead | forceRead =>
    simp only [runCmd, cmdPanRead, cmdForceRead]
    split <;> exact .stands stands
  case forceTableRead =>
    simp only [runCmd, cmdForceTableRead]
    split
    · split <;> exact .stands (cursor _)
    · exact .stands (cursor _)
  case forceTableReadNext =>
    simp only [runCmd, cmdForceTableReadNext]
    split
    · split
      · exact .stands stands
      · split <;> exact .stands (cursor _)
    all_goals exact .stands stands
  case mapRead =>
    simp only [runCmd, cmdMapRead]
    split
    · exact .stands (cursor _)
    · split <;> exact .stands (cursor _)
  case mapReadNext =>
    simp only [runCmd, cmdMapReadNext]
    split
    · split
      · exact .stands stands
      · split
        · exact .stands (cursor _)
        · split <;> exact .stands (cursor _)
    all_goals exact .stands stands
  case configRead =>
    simp only [runCmd, cmdConfigRead]
    split
    · exact .stands stands
    · split <;> exact .stands stands
  case positionFix =>
    simp only [runCmd, cmdPositionFix]
    split_ifs
    · exact .stands stands
    · exact .stands stands
    · exact .stands stands
    · exact runLeaves_acts rfl rfl
  case isolate =>
    simp only [runCmd, cmdIsolate]
    split
    · exact .stands stands
    · split
      · exact .stands stands
      · split
        · exact runLeaves_acts rfl rfl
        · exact .stands stands
  case restore =>
    simp only [runCmd, cmdRestore]
    split
    · exact .stands stands
    · split
      · exact .stands stands
      · split
        · exact runLeaves_acts rfl rfl
        · exact .stands stands
  case forceTableWrite =>
    simp only [runCmd, cmdForceTableWrite]
    split
    · exact .stands stands
    · split
      · exact .stands (cursor _)
      · split
        · exact .stands (cursor _)
        · split
          · exact .stands (cursor _)
          · exact runLeaves_acts rfl rfl
  case forceTableWriteNext =>
    simp only [runCmd, cmdForceTableWriteNext]
    split
    · exact .stands stands
    · split
      · split
        · exact .stands stands
        · split
          · exact .stands (cursor _)
          · split
            · exact .stands stands
            · exact runLeaves_acts rfl rfl
      all_goals exact .stands stands
  case earthPermit =>
    simp only [runCmd, cmdEarthPermit]
    split
    · exact .stands stands
    · split
      · exact .stands stands
      · split
        · exact .stands stands
        · split
          · exact .stands stands
          · exact runLeaves_acts rfl rfl
      · split
        · exact .stands stands
        · exact runLeaves_acts rfl rfl
  case mapInsert =>
    simp only [runCmd, cmdMapInsert]
    split
    · exact .stands stands
    · split
      · exact .stands stands
      · split
        · exact .stands stands
        · exact runLeaves_acts rfl rfl
  case mapDelete =>
    simp only [runCmd, cmdMapDelete]
    split
    · exact .stands stands
    · split
      · exact .stands stands
      · split
        · exact .stands stands
        · split
          · exact .stands stands
          · exact runLeaves_acts rfl rfl
  case roofReset =>
    simp only [runCmd, cmdRoofReset]
    split_ifs
    · exact .stands stands
    · exact .stands stands
    · exact .stands stands
    · exact runLeaves_acts rfl rfl
  case iceWeather =>
    simp only [runCmd, cmdIceWeather]
    split
    · exact .stands stands
    · split
      · exact .stands stands
      · split
        · exact runLeaves_acts rfl rfl
        · exact .stands stands
  case authRequest =>
    refine runLeaves_bare rfl ?_
    unfold authRequest
    dsimp only
    split_ifs
    · exact .inl rfl
    · exact .inl rfl
    · exact .inr rfl
    · exact .inl rfl
    · exact .inl rfl
  case authRelease =>
    refine runLeaves_bare rfl ?_
    unfold authRelease
    dsimp only
    split_ifs
    · exact .inl rfl
    · exact .inl rfl
    · exact .inl rfl
    · exact .inr rfl
  case lowerAll =>
    simp only [runCmd, cmdLowerAll]
    split
    · exact runLeaves_acts rfl rfl
    · exact runLeaves_acts rfl rfl
  case configWrite =>
    simp only [runCmd, fromM, configWrite]
    split
    · exact .stands stands
    · refine runLeaves_bare rfl ?_
      split
      · exact .inr rfl
      · split
        · exact .inr rfl
        · split_ifs
          · exact .inr rfl
          · exact .inr rfl
          · exact .inr rfl
          · exact .inl rfl
  case configCommit =>
    simp only [runCmd, fromM, configCommit]
    split
    · exact .stands stands
    · split
      · exact .stands stands
      · split
        · exact .stands stands
        · split
          · exact .stands (noticesStand_of_lnk rfl)
          · exact runLeaves_acts rfl rfl
  case configReopen =>
    simp only [runCmd, fromM, configReopen]
    split
    · exact .stands stands
    · split
      · exact .stands stands
      · exact runLeaves_acts rfl rfl
  case faultClear =>
    simp only [runCmd, cmdFaultClear]
    split
    · exact .stands stands
    · exact runLeaves_acts rfl rfl

end Notices

end Sys2Proof.Machine

/-! ### What every step upholds (R5, R54, R65, R98, R136, R180, R181, R198, R200) -/

namespace Sys2Proof.Machine

section Rows

variable {F R : Prop} {s t u : State} {l : Link}

/-- A command that may run where the fault record stands under `F` and ROOF_SAFE under `R` (R140, R201). -/
def Spares (F R : Prop) (c : Cmd) : Prop := (F → c ≠ .faultClear) ∧ (R → c ≠ .roofReset)

theorem Effect.mono {F' R' : Prop} (h : Effect F R s t) (hF : F' → F) (hR : R' → R) : Effect F' R' s t :=
  { h with fault := h.fault ∘ hF, safe := h.safe ∘ hR }

/-! A taken command (R181, R182). -/

theorem Effect.recordTaken (h : Effect F R s t) (l : Link) (c : Cmd) (a : Answer) : Effect F R s (recordTaken l c a t) := by
  unfold Machine.recordTaken
  split
  · exact h
  all_goals exact h.modPort l _ rfl id

theorem Effect.handAnswer (h : Effect F R s t) (l : Link) (tag : Byte) (c : Cmd) (a : Answer) :
    Effect F R s (handAnswer l tag c a t) := by
  unfold Machine.handAnswer
  split
  · exact (h.kept ((Kept.refl t).hand l _)).modPort l _ rfl fun _ => by simp [Port.canTake]
  · exact h

/-- A taken command has its own effect and what its reactions keep. -/
theorem takeCmd_effect {c : Cmd} (h : Spares F R c) (l : Link) (tag : Byte) (s : State) : Effect F R s (takeCmd l tag c s) :=
  ((((runCmd_effect l tag c s).mono h.1 h.2).recordTaken l c _).handAnswer l tag c _).kept (follow_kept _ _ _)

theorem noticesStand_recordTaken (l : Link) (c : Cmd) (a : Answer) (s : State) : NoticesStand s (recordTaken l c a s) := by
  unfold recordTaken
  split
  · exact .refl s
  all_goals exact (NoticesStand.refl s).modPort l _

theorem noticesStand_handAnswer (l : Link) (tag : Byte) (c : Cmd) (a : Answer) (s : State) :
    NoticesStand s (handAnswer l tag c a s) := by
  unfold handAnswer hand
  split
  · exact ((NoticesStand.refl s).modPort l _).modPort l _
  · exact .refl s

/-- Attention agrees with the notice sets behind a taken command where it did before it (R198). -/
theorem takeCmd_attended (h : s.Attended) (tag : Byte) (c : Cmd) : (takeCmd l tag c s).Attended := by
  unfold takeCmd
  dsimp only
  rcases (runLeaves l tag c s).notices with hreacts | hstand
  · exact follow_attended_of_reacts hreacts _
  · exact follow_attended _ _
      ((hstand.trans (noticesStand_recordTaken l c _ _)).trans (noticesStand_handAnswer l tag c _ _) |>.attended h)

/-- A link that has taken a command takes no other before its response has been sent (R181, R187). -/
theorem takeCmd_waits (l : Link) (tag : Byte) (c : Cmd) (s : State) : ((takeCmd l tag c s).lnk.get l).canTake = false := by
  unfold takeCmd
  dsimp only
  refine ((follow_kept c _ _).serves l).2 ?_
  have hdeferred := (runLeaves l tag c s).deferred
  revert hdeferred
  generalize runCmd l tag c s = r
  obtain ⟨u, a⟩ := r
  cases a with
  | none =>
    intro hdeferred
    simpa [handAnswer, recordTaken, Port.canTake] using hdeferred rfl
  | some a => intro _; simp [handAnswer, Port.canTake]

/-! The receive queue (R180, R181). -/

/-- A link's queue holds at most four frames, and one waits only where the link cannot take it (R180, R181). -/
def Port.Served (q : Port) : Prop := q.queue.length ≤ Config.queueLength ∧ (q.queue ≠ [] → q.canTake = false)

theorem Serves.served (h : Serves s t) (l : Link) (k : (s.lnk.get l).Served) : (t.lnk.get l).Served :=
  ⟨(h l).1 ▸ k.1, fun hne => (h l).2 (k.2 ((h l).1 ▸ hne))⟩

/-- A link that looks at the head of its queue leaves every queue served (R181). -/
theorem takeNext_served (hothers : ∀ k, k ≠ l → (s.lnk.get k).Served)
    (hlen : (s.lnk.get l).queue.length ≤ Config.queueLength) : (takeNext l s).QueuesServed := by
  intro k
  have hserves : ∀ rest tag c, Serves (s.modPort l fun q => { q with queue := rest })
      (takeCmd l tag c (s.modPort l fun q => { q with queue := rest })) := fun rest tag c =>
    (takeCmd_effect (F := False) (R := False) ⟨nofun, nofun⟩ l tag _).serves
  unfold takeNext
  split
  · next f rest hqueue =>
    split
    · by_cases hk : k = l
      · subst hk
        refine ⟨?_, fun _ => takeCmd_waits k f.tag f.cmd _⟩
        rw [(hserves rest f.tag f.cmd k).1]
        simp only [hqueue, List.length_cons] at hlen
        simpa using (Nat.le_succ _).trans hlen
      · refine (hserves rest f.tag f.cmd).served k ?_
        rw [State.modPort_lnk, PerLink.get_set, if_neg hk]
        exact hothers k hk
    · next hwait =>
      by_cases hk : k = l
      · exact hk ▸ ⟨hlen, fun _ => by simpa using hwait⟩
      · exact hothers k hk
  · next hqueue =>
    by_cases hk : k = l
    · exact hk ▸ ⟨hlen, fun hne => absurd hqueue hne⟩
    · exact hothers k hk

theorem takeNext_upheld (h : ∀ f ∈ (s.lnk.get l).queue, Spares F R f.cmd) : Upheld F R s (takeNext l s) := by
  unfold takeNext
  split
  · next f rest hqueue =>
    split
    · exact ((Upheld.refl s).modPort l _).trans (takeCmd_effect (h f (by simp [hqueue])) l f.tag _).toUpheld
    · exact .refl s
  · exact .refl s

theorem takeNext_attended (h : s.Attended) : (takeNext l s).Attended := by
  unfold takeNext
  split
  · split
    · exact takeCmd_attended (((NoticesStand.refl s).modPort l _).attended h) _ _
    · exact h
  · exact h

/-- What a row does: it upholds the invariants, and leaves attention in agreement and the queues served where they were. -/
structure RowDone (F R : Prop) (s t : State) : Prop extends Upheld F R s t where
  attended : s.Attended → t.Attended
  served : s.QueuesServed → t.QueuesServed

theorem RowDone.refl (s : State) : RowDone F R s s := ⟨.refl s, id, id⟩

theorem RowDone.trans (h : RowDone F R s t) (k : RowDone F R t u) : RowDone F R s u :=
  ⟨h.toUpheld.trans k.toUpheld, k.attended ∘ h.attended, k.served ∘ h.served⟩

theorem EventDone.row (h : EventDone s t) : RowDone F R s t :=
  ⟨(h.1.mono (fun _ => trivial) fun _ => trivial).toUpheld, h.2, h.1.serves.queuesServed⟩

/-- A row that changes one link, but for its notice sets and its queue. -/
theorem rowDone_modPort (s : State) (l : Link) (f : Port → Port)
    (hn : ∀ q, (f q).pend = q.pend ∧ (f q).enable = q.enable ∧ (f q).attention = q.attention)
    (hq : ∀ q, (f q).queue = q.queue ∧ (f q).canTake = q.canTake) : RowDone F R s (s.modPort l f) :=
  ⟨(Upheld.refl s).modPort l f, ((NoticesStand.refl s).modPort l f hn).attended,
    ((Serves.refl s).modPort l f (hq _).1 fun h => (hq _).2.trans h).queuesServed⟩

theorem rowDone_attend (h : Effect F R s t) : RowDone F R s (attend t) :=
  ⟨h.toUpheld.kept (Kept.refl t).attend, fun _ => attend_attended, (h.kept (Kept.refl t).attend).serves.queuesServed⟩

theorem rowDone_linkFault (l : Link) (f : ErrorFlags → ErrorFlags) (r : Receiver) (s : State) :
    RowDone F R s (linkFault l f r s) :=
  rowDone_attend (((Effect.refl s).modPort l (fun q => { q with flags := f q.flags, rx := r }) rfl id).kept
    ((Kept.refl _).noticeOn l .link))

/-- A frame offered to a link (R164, R180, R181). -/
theorem rowDone_offer {c : Cmd} (h : Spares F R c) (hq : ∀ f ∈ (s.lnk.get l).queue, Spares F R f.cmd) (tag : Byte) :
    RowDone F R s (offer l tag c s) := by
  have hsuper : Effect F R s (superviseFrame l s) := (Kept.refl s).superviseFrame l |>.effect
  by_cases hfull : Config.queueLength ≤ (s.lnk.get l).queue.length
  · rw [offer_full hfull]
    unfold overrunFrame
    dsimp only
    have hflag := (hsuper.modPort l (fun q => { q with flags := { q.flags with overrun := true } }) rfl id).kept
      ((Kept.refl _).noticeOn l .link)
    split
    · exact rowDone_attend hflag
    · exact rowDone_attend (hflag.kept ((Kept.refl _).hand l _))
  · have hoffer : offer l tag c s
        = takeNext l ((superviseFrame l s).modPort l fun q => { q with queue := q.queue ++ [⟨tag, c⟩] }) := by
      simp [offer, hfull]
    rw [hoffer]
    refine ⟨(hsuper.toUpheld.modPort l _).trans (takeNext_upheld fun f hf => ?_), fun ha => takeNext_attended ?_,
      fun hserved => takeNext_served (fun k hk => ?_) ?_⟩
    · simp only [State.modPort_lnk, PerLink.get_set_same, superviseFrame_lnk, List.mem_append, List.mem_singleton] at hf
      rcases hf with hf | rfl
      · exact hq f hf
      · exact h
    · exact ((noticesStand_of_lnk (superviseFrame_lnk l)).modPort l _).attended ha
    · rw [State.modPort_lnk, PerLink.get_set, if_neg hk, superviseFrame_lnk]
      exact hserved k
    · simp only [State.modPort_lnk, PerLink.get_set_same, superviseFrame_lnk, List.length_append, List.length_singleton]
      omega

/-! The bytes of a link (R178, R179). -/

theorem rowDone_lineAt (l : Link) (x : Level) (s : State) : RowDone F R s (lineAt l x s) :=
  (show RowDone F R s (s.modLines _) from
    ⟨(Upheld.refl s).modLines _, id, id⟩).trans (rowDone_modPort _ l _ (fun _ => ⟨rfl, rfl, rfl⟩) fun _ => ⟨rfl, rfl⟩)

theorem rowDone_badByte (l : Link) (s : State) : RowDone F R s (badByte l s) := by
  unfold badByte
  split
  · exact rowDone_linkFault ..
  · exact rowDone_linkFault ..
  · exact .refl s

/-- A byte without error may complete any frame. -/
theorem rowDone_goodByte (hF : ¬ F) (hR : ¬ R) (l : Link) (b : Byte) (s : State) : RowDone F R s (goodByte l b s) := by
  have hrx : ∀ r, RowDone F R s (s.modPort l fun q => { q with rx := r }) := fun r =>
    rowDone_modPort s l _ (fun _ => ⟨rfl, rfl, rfl⟩) fun _ => ⟨rfl, rfl⟩
  have hspares : ∀ c, Spares F R c := fun c => ⟨fun f => absurd f hF, fun r => absurd r hR⟩
  unfold goodByte
  split
  · split
    · exact hrx _
    · exact rowDone_linkFault ..
  · unfold takeFrameByte
    dsimp only
    split
    · exact rowDone_linkFault ..
    · split
      · refine (hrx .idle).trans ?_
        unfold completeFrame
        split
        · split
          · exact rowDone_offer (hspares _) (fun _ _ => hspares _) _
          · exact .refl _
        · exact rowDone_linkFault ..
      · exact hrx _
  · exact .refl s

theorem rowDone_takeByte (l : Link) (b : Byte) (x : ByteTail) (h : wellReceived b x = true → ¬ F ∧ ¬ R) (s : State) :
    RowDone F R s (takeByte l b x s) := by
  unfold takeByte
  split
  · exact .refl s
  · split
    · next hgood => exact (rowDone_lineAt l _ s).trans (rowDone_goodByte (h hgood).1 (h hgood).2 l b _)
    · exact (rowDone_lineAt l _ s).trans (rowDone_badByte l _)

/-! The other rows of a link (R181, R190, R191). -/

/-- A sent frame leaves a link's queue and its notice sets. -/
theorem sentFrame_stands (q : Port) : (sentFrame q).queue = q.queue ∧ (sentFrame q).pend = q.pend
    ∧ (sentFrame q).enable = q.enable ∧ (sentFrame q).attention = q.attention := by
  unfold sentFrame
  split <;> exact ⟨rfl, rfl, rfl, rfl⟩

theorem rowDone_responseSent (hq : ∀ f ∈ (s.lnk.get l).queue, Spares F R f.cmd) : RowDone F R s (responseSent l s) := by
  refine ⟨((Upheld.refl s).modPort l _).trans (takeNext_upheld fun f hf => ?_), fun ha => takeNext_attended ?_,
    fun hserved => takeNext_served (fun k hk => ?_) ?_⟩
  · exact hq f (by simpa [(sentFrame_stands _).1] using hf)
  · exact ((NoticesStand.refl s).modPort l _ fun q => (sentFrame_stands q).2).attended ha
  · rw [State.modPort_lnk, PerLink.get_set, if_neg hk]
    exact hserved k
  · simpa [(sentFrame_stands _).1] using (hserved l).1

theorem Kept.freeSync (h : Kept s t) (l : Link) : Kept s (freeSync l t) := by
  unfold Machine.freeSync
  split
  · split
    · exact (h.setSync _).setLongOps _
    · exact h
  · exact h

theorem rowDone_resetLink (l : Link) (s : State) : RowDone F R s (resetLink l s) := by
  have hkept : Kept (s.modPort l (·.reset s.now)) (resetLink l s) := (((Kept.refl _).freeSync l).authLinkReset l).settle
  refine ⟨((Upheld.refl s).modPort l _).kept hkept, fun _ => settle_attended, fun hserved =>
    hkept.serves.queuesServed fun k => ?_⟩
  rw [State.modPort_lnk, PerLink.get_set]
  split
  · exact ⟨Nat.zero_le _, fun hne => absurd rfl hne⟩
  · exact hserved k

theorem rowDone_atLinkLimit {due : Bool} {f : State → State} (h : RowDone F R s (f s)) (k : atLinkLimit due f s = .next t) :
    RowDone F R s t := by
  cases k
  cases due
  · exact .refl s
  · exact h

theorem rowDone_takeBreak (l : Link) (s : State) : RowDone F R s (takeBreak l s) := by
  unfold takeBreak
  split
  · exact rowDone_modPort s l _ (fun _ => ⟨rfl, rfl, rfl⟩) fun _ => ⟨rfl, rfl⟩
  · exact rowDone_resetLink l s

theorem rowDone_breakEnds (l : Link) (s : State) : RowDone F R s (breakEnds l s) := by
  unfold breakEnds
  split
  · exact (rowDone_lineAt l .mark s).trans (rowDone_modPort _ l _ (fun _ => ⟨rfl, rfl, rfl⟩) fun _ => ⟨rfl, rfl⟩)
  · exact .refl s

/-! Power-on (R19, R64, R77, R119, R142). -/

theorem reset_attended : State.reset.Attended := fun l => by cases l <;> rfl

theorem reset_queuesServed : State.reset.QueuesServed := fun l => by cases l <;> exact ⟨Nat.zero_le _, fun h => absurd rfl h⟩

theorem reset_mapOrdered : State.reset.MapOrdered :=
  ⟨Nat.zero_le _, List.Pairwise.nil, List.Pairwise.nil, fun _ h => (List.not_mem_nil h).elim, le_refl 1, by decide⟩

theorem items_default_ranged : Items.default.Ranged := by
  constructor
  case channels => intro p; cases p <;> decide
  all_goals decide

theorem reset_bounded : State.reset.Bounded where
  travel := by unfold Travel.Bounded; decide
  detector := by unfold Detector.Bounded; decide
  tables := ⟨items_bounded_iff.2 items_default_ranged, rfl, rfl, fun f hf => .inl (List.eq_of_mem_replicate hf),
    fun f hf => .inl (List.eq_of_mem_replicate hf)⟩
  forces := fun p => by cases p <;> decide
  rings := fun p => by cases p <;> (unfold ArcRing.Bounded; decide)
  level1 := by decide

/-- A pantograph is LOWERED or LOWERING at power-on (R64). -/
theorem raisedPans_atPowerOn (s : State) : (powerOnValues s).raisedPans = [] := by
  have hdown : ∀ p, ((powerOnValues s).ch p).state.isRaised = false := fun p => by
    have hchannel : ∀ low d, (Channel.atPowerOn low d).state.isRaised = false := fun low d => by cases low <;> rfl
    cases p <;> exact hchannel _ _
  simp [State.raisedPans, hdown, pansWhere]

theorem Effect.powerOnFaults (h : Effect F R s t) : Effect F R s (powerOnFaults t) := by
  have hdisc : ∀ u, Kept u (forPans discFaultAtPowerOn u) := fun u => Kept.forPans (.refl u) fun p v => by
    unfold discFaultAtPowerOn
    split
    · exact .refl v
    · exact ((Kept.refl v).reportFault _ _ _).notice _
  have hpower : ∀ u, Kept u (powerFaultsAtPowerOn u) := fun u => by
    unfold powerFaultsAtPowerOn
    split
    · exact (Kept.refl u).earthUnexpected
    · exact ((Kept.refl u).reportFault _ _ _).earthUnexpected
  unfold Machine.powerOnFaults
  split
  · dsimp only
    split
    · exact ((h.setFree _).kept (hdisc _)).kept (hpower _)
    · exact ((h.setFree _).kept (hpower _)).kept (hdisc _)
  · exact (h.kept (hdisc t)).kept (hpower _)

theorem rowDone_powerOn (hF : ¬ F) (hR : ¬ R) (h : exec .powerOn s = .next t) : RowDone F R s t := by
  cases h
  have hvalues : Upheld F R s (powerOnValues s) :=
    { order := fun _ => reset_mapOrdered
      limits := fun _ => by simp [State.RaiseLimits, raisedPans_atPowerOn]
      roof := fun _ => ⟨reset_bounded.travel, reset_bounded.tables, reset_bounded.forces, reset_bounded.rings,
        reset_bounded.level1⟩
      detector := fun _ => reset_bounded.detector
      fault := fun f => absurd f hF
      safe := fun r => absurd r hR }
  have hfaults : Effect F R (powerOnValues s) (settle (powerOnFaults (powerOnValues s))) := (Effect.refl _).powerOnFaults.settle
  exact ⟨hvalues.trans hfaults.toUpheld, fun _ => settle_attended, fun _ => hfaults.serves.queuesServed reset_queuesServed⟩

/-! Every row and every step. -/

/-- What a row must not bring where the fault record stands under `F` and ROOF_SAFE under `R`: POWER_ON, a byte that may complete a
frame, and one of the two commands, offered or waiting in a queue. -/
structure RowSpares (F R : Prop) (i : Instr) (s : State) : Prop where
  powerOn : i = .powerOn → ¬ F ∧ ¬ R
  byte : ∀ l b, i = .frameComplete l b ∨ i = .byteReceived l b ∨ i = .faultyByte l b (sentTail b) → ¬ F ∧ ¬ R
  offered : ∀ l tag c, i.offered = some (l, tag, c) → Spares F R c
  queued : ∀ l, ∀ f ∈ (s.lnk.get l).queue, Spares F R f.cmd

theorem eq_sentTail_of_wellReceived {b : Byte} {x : ByteTail} (h : wellReceived b x = true) : x = sentTail b := by
  obtain ⟨parity, stop⟩ := x
  cases stop
  · simp_all [wellReceived, sentTail, parityError, framingError]
  · simp_all [wellReceived, parityError, framingError]

theorem rowDone_exec {i : Instr} (h : RowSpares F R i s) (k : exec i s = .next t) : RowDone F R s t := by
  cases hoff : i.offered with
  | some x =>
    obtain ⟨l, tag, c⟩ := x
    rw [exec_offered hoff] at k
    cases k
    exact rowDone_offer (h.offered l tag c hoff) (h.queued l) tag
  | none =>
    by_cases hroof : roofEvent i = true
    · exact (eventDone_exec hroof k).row
    · cases i
      case powerOn => exact rowDone_powerOn (h.powerOn rfl).1 (h.powerOn rfl).2 k
      case frameComplete l b => cases k; exact rowDone_takeByte l b _ (fun _ => h.byte l b (.inl rfl)) s
      case byteReceived l b => cases k; exact rowDone_takeByte l b _ (fun _ => h.byte l b (.inr (.inl rfl))) s
      case faultyByte l b x =>
        cases k
        exact rowDone_takeByte l b x (fun hgood => h.byte l b (.inr (.inr (by rw [eq_sentTail_of_wellReceived hgood])))) s
      case frameGapTimeout l => exact rowDone_atLinkLimit (rowDone_linkFault l _ _ s) k
      case receiverIdle l =>
        exact rowDone_atLinkLimit (rowDone_modPort s l (fun q => { q with rx := .idle }) (fun _ => ⟨rfl, rfl, rfl⟩)
          fun _ => ⟨rfl, rfl⟩) k
      case responseSent l => cases k; exact rowDone_responseSent (h.queued l)
      case linkReset l => exact rowDone_atLinkLimit (rowDone_takeBreak l s) k
      case breakEnd l => cases k; exact rowDone_breakEnds l s
      case holdOffEnd l =>
        exact rowDone_atLinkLimit (rowDone_modPort s l (fun q => { q with holdOff := none }) (fun _ => ⟨rfl, rfl, rfl⟩)
          fun _ => ⟨rfl, rfl⟩) k
      all_goals
        first
        | exact absurd rfl hroof
        | exact nomatch hoff

/-- A step runs a row, or lets 1 ms pass, with the queue of events and the clocks changed alone. -/
theorem rowDone_step (h : step s = .next t) : RowDone False False s t := by
  unfold step at h
  split at h
  · next i rest hpending =>
    have hrest : RowDone False False s { s with pending := rest } :=
      ⟨upheld_of_eq rfl rfl rfl rfl rfl rfl rfl rfl rfl, id, id⟩
    exact hrest.trans (rowDone_exec ⟨fun _ => ⟨id, id⟩, fun _ _ _ => ⟨id, id⟩, fun _ _ _ _ => ⟨nofun, nofun⟩,
      fun _ _ _ => ⟨nofun, nofun⟩⟩ h)
  · cases h
    exact ⟨upheld_of_eq rfl rfl rfl rfl rfl rfl rfl rfl rfl, id, id⟩

end Rows

/-- Settles O55: every row is split by what it brings, and only FAULT_CLEAR and ROOF_RESET have an effect that ends the record or
the mode. -/
theorem faultRecordAndRoofSafeStand : Obligations.FaultRecordAndRoofSafeStand := by
  intro i s t hpower hbytes h
  have hbyte : ∀ l b, ¬ (i = .frameComplete l b ∨ i = .byteReceived l b ∨ i = .faultyByte l b (sentTail b)) := by
    rintro l b (hi | hi | hi)
    · exact (hbytes l b).1 hi
    · exact (hbytes l b).2.1 hi
    · exact (hbytes l b).2.2 hi
  refine ⟨fun r hr hcmd hqueue => ?_, fun hm hcmd hqueue => ?_⟩
  · have hrow : RowSpares True False i s :=
      ⟨fun hi => absurd hi hpower, fun l b hi => absurd hi (hbyte l b),
        fun l tag c hc => ⟨fun _ hfc => by subst hfc; cases i <;> cases hc; exact hcmd l tag rfl, nofun⟩,
        fun l f hf => ⟨fun _ => hqueue l f hf, nofun⟩⟩
    exact (rowDone_exec hrow h).fault trivial r hr
  · have hrow : RowSpares False True i s :=
      ⟨fun hi => absurd hi hpower, fun l b hi => absurd hi (hbyte l b),
        fun l tag c hc => ⟨nofun, fun _ hfc => by subst hfc; cases i <;> cases hc; exact hcmd l tag rfl⟩,
        fun l f hf => ⟨nofun, fun _ => hqueue l f hf⟩⟩
    exact (rowDone_exec hrow h).safe trivial hm

/-- Settles O56: the invariants of the links are those of `RowDone`. -/
theorem stepKeepsTheLinks : Obligations.StepKeepsTheLinks := fun _ _ ha hq h =>
  ⟨(rowDone_step h).attended ha, (rowDone_step h).served hq⟩

/-- Settles O57: only an insertion adds a span, in its place and with a free id. -/
theorem stepKeepsTheMapInOrder : Obligations.StepKeepsTheMapInOrder := fun _ _ hm h => (rowDone_step h).order hm

/-- Settles O58: only a granted raise raises a pantograph, and Table 3-4 has room for it. -/
theorem stepKeepsRaiseLimits : Obligations.StepKeepsRaiseLimits := fun _ _ hl h => (rowDone_step h).limits hl

/-- Settles O59: every event and every command leaves the ranges of the values that it writes. -/
theorem stepKeepsTheBounds : Obligations.StepKeepsTheBounds := fun _ _ hb h => (rowDone_step h).bounds hb

/-- Settles O60: no entry, no frame and no raised pantograph stands after reset. -/
theorem resetMeetsTheInvariants : Obligations.ResetMeetsTheInvariants :=
  ⟨reset_attended, reset_queuesServed, reset_mapOrdered, by unfold State.RaiseLimits; decide, reset_bounded⟩

end Sys2Proof.Machine

/-! ### Steps and time limits (R1, R2, R144) -/

namespace Sys2Proof.Machine

section Steps

variable {s : State}

/-- Settles O1: a step runs the front of the queue, and the tick moves the clocks alone. -/
theorem stepTakesTheFront : Obligations.StepTakesTheFront := fun s =>
  ⟨fun c rest h => by simp [step, h], fun h => by
    refine ⟨tick s, by simp [step, h], rfl, rfl, rfl, ?_, rfl⟩
    simp [tick, h, State.modClk]⟩

/-- A time limit that is not due is no event. -/
theorem atLimit_notDue {due : Bool} (h : due = false) (f : State → State) (s : State) : atLimit due f s = .next s := by
  simp [atLimit, h]

theorem atLinkLimit_notDue {due : Bool} (h : due = false) (f : State → State) (s : State) :
    atLinkLimit due f s = .next s := by simp [atLinkLimit, h]

theorem atLimit_due {due : Bool} (h : due = true) (f : State → State) (s : State) :
    atLimit due f s = .next (settle (f s)) := by simp [atLimit, h]

theorem atLinkLimit_due {due : Bool} (h : due = true) (f : State → State) (s : State) :
    atLinkLimit due f s = .next (f s) := by simp [atLinkLimit, h]

/-- A timer that runs has reached its limit where the limit's length has elapsed (R1). -/
theorem reached_iff {timer : Option Time} {limit : Nat} :
    s.reached timer limit = true ↔ ∃ b, timer = some b ∧ limit ≤ (s.clk.time - b).toNat := by
  cases timer with
  | none => simp [State.reached]
  | some b =>
    simp only [State.reached, decide_eq_true_eq, Option.some.injEq, exists_eq_left']
    rfl

theorem mem_whenDue {due : Bool} {i j : Instr} : i ∈ whenDue due j ↔ due = true ∧ i = j := by
  cases due <;> simp [whenDue]

theorem speedIntervalEnd_mem_dueRows : Instr.speedIntervalEnd ∈ dueRows s ↔ 100 ≤ s.clk.speedClock := by
  simp [dueRows, linkRows, breakRows, panRows, roofRows, mem_whenDue, apply_ite (Instr.speedIntervalEnd ∈ ·)]
  rfl

theorem arcBinEnd_mem_dueRows : Instr.arcBinEnd ∈ dueRows s ↔ 1000 ≤ s.clk.binClock := by
  simp [dueRows, linkRows, breakRows, panRows, roofRows, mem_whenDue, apply_ite (Instr.arcBinEnd ∈ ·)]
  rfl

/-- Settles O54: each limit row is guarded by its due condition, which reads the timer and the length of its rule. -/
theorem limitsNotDueDoNothing : Obligations.LimitsNotDueDoNothing := by
  intro l p s
  have notDue : ∀ {due : Bool} (f : State → State), due = false → atLimit due f s = .next s :=
    fun f h => atLimit_notDue h f s
  have notDueLink : ∀ {due : Bool} (f : State → State), due = false → atLinkLimit due f s = .next s :=
    fun f h => atLinkLimit_notDue h f s
  refine ⟨notDueLink _, notDueLink _, notDueLink _, notDueLink _, notDue _, notDue _, notDue _, notDue _, notDue _, notDue _,
    notDue _, notDue _, notDue _, notDue _, notDue _, notDue _, notDue _, notDue _, notDue _, notDue _, notDue _, notDue _,
    notDue _, notDue _, ?loss, ?pressure, ?settle, ?raise, ?contact, ?lower, ?disc, ?close, ?opening, ?watch, ?reclose, ?move,
    ?confirm, ?stale, ?substitute, ?release, ?dwell, ?heaterOn, ?heaterRest, ?lapse, speedIntervalEnd_mem_dueRows,
    arcBinEnd_mem_dueRows⟩
  case loss => simp only [State.lossDue, Bool.and_eq_true, decide_eq_true_eq]; rfl
  case pressure => simp only [State.pressureDue, Bool.and_eq_true, decide_eq_true_eq]; rfl
  case settle => simp only [State.settleDue, reached_iff, Bool.and_eq_true, decide_eq_true_eq]
  case raise => simp only [State.raiseDue, Bool.and_eq_true, Bool.or_eq_true, decide_eq_true_eq]; rfl
  case contact => simp only [State.contactDue, reached_iff, Bool.and_eq_true, decide_eq_true_eq]; rfl
  case lower =>
    simp only [State.lowerDue, Bool.and_eq_true, Bool.not_eq_true', decide_eq_true_eq, and_assoc]
    rfl
  case disc =>
    unfold State.discDue
    split
    · next q hdisc => exact ⟨fun h => ⟨⟨q, hdisc⟩, of_decide_eq_true h⟩, fun h => decide_eq_true h.2⟩
    all_goals next hdisc => simp [hdisc]
  case close => simp only [State.closeDue, Bool.and_eq_true, decide_eq_true_eq]; rfl
  case opening => simp only [State.openDue, Bool.and_eq_true, decide_eq_true_eq]; rfl
  case watch =>
    unfold State.watchDue
    split
    · next t hwatch =>
      exact ⟨fun h => ⟨t, hwatch, of_decide_eq_true h⟩, fun ⟨b, hb, h⟩ => by
        cases hwatch.symm.trans hb
        exact decide_eq_true h⟩
    all_goals next hwatch => simp [hwatch]
  case reclose => simp only [State.recloseDue, reached_iff]; rfl
  case move =>
    unfold State.moveDue
    split
    · next o q hmove => exact ⟨fun h => ⟨⟨o, q, hmove⟩, of_decide_eq_true h⟩, fun h => decide_eq_true h.2⟩
    all_goals next hmove => simp [hmove]
  case confirm =>
    unfold State.confirmDue
    split
    · next c hctx =>
      simp only [Bool.and_eq_true, decide_eq_true_eq]
      exact ⟨fun ⟨h, k⟩ => ⟨c, hctx, h, k⟩, fun ⟨d, hd, h, k⟩ => by
        cases hctx.symm.trans hd
        exact ⟨h, k⟩⟩
    · next hctx => simp [hctx]
  case stale => simp only [State.staleDue, Bool.and_eq_true, decide_eq_true_eq]; rfl
  case substitute => simp only [State.substituteDue, Bool.and_eq_true, decide_eq_true_eq]; rfl
  case release =>
    simp only [State.releaseDue, Ice.level1, Bool.and_eq_true, Bool.not_eq_true', Bool.or_eq_false_iff, decide_eq_true_eq,
      decide_eq_false_iff_not, and_assoc]
    rfl
  case dwell => simp only [State.dwellDue, reached_iff, Bool.and_eq_true, decide_eq_true_eq]; rfl
  case heaterOn =>
    unfold State.heaterOnDue
    split
    · next t hout =>
      exact ⟨fun h => ⟨t, hout, of_decide_eq_true h⟩, fun ⟨b, hb, h⟩ => by
        cases hout.symm.trans hb
        exact decide_eq_true h⟩
    all_goals next hout => simp [hout]
  case heaterRest =>
    unfold State.heaterRestDue
    split
    · next t hout =>
      exact ⟨fun h => ⟨t, hout, of_decide_eq_true h⟩, fun ⟨b, hb, h⟩ => by
        cases hout.symm.trans hb
        exact decide_eq_true h⟩
    all_goals next hout => simp [hout]
  case lapse =>
    unfold State.lapseDue
    split
    · next v hv =>
      exact ⟨fun h => ⟨v, hv, of_decide_eq_true h⟩, fun ⟨w, hw, h⟩ => by
        cases hv.symm.trans hw
        exact decide_eq_true h⟩
    · next hv => simp [hv]

end Steps

end Sys2Proof.Machine

/-! ### The receiver and the transmitter of a link (R175 to R182, R190) -/

namespace Sys2Proof.Machine

section Receiver

variable {s : State} {l : Link} {b : Byte} {x : ByteTail} {bytes : List Byte}

/-! A byte without error, by what the receiver does. -/

theorem takeByte_idle_header (hbreak : (s.lnk.get l).inBreak = false) (hx : wellReceived header x = true)
    (hrx : (s.lnk.get l).rx = .idle) :
    takeByte l header x s = s.hears l x.stop fun q => { q with rx := .receiving [] } := by
  rw [takeByte_of_good hbreak hx]
  simp [goodByte, hrx, lineAt_modPort]

theorem takeByte_joins (hbreak : (s.lnk.get l).inBreak = false) (hx : wellReceived b x = true)
    (hrx : (s.lnk.get l).rx = .receiving bytes) (hlength : bytes = [] → validLength b = true)
    (hwhole : frameWhole (bytes ++ [b]) = false) :
    takeByte l b x s = s.hears l x.stop fun q => { q with rx := .receiving (bytes ++ [b]) } := by
  have hopen : (bytes.isEmpty && !validLength b) = false := by
    cases bytes with
    | nil => simp [hlength rfl]
    | cons c cs => rfl
  rw [takeByte_of_good hbreak hx]
  simp [goodByte, hrx, takeFrameByte, hopen, hwhole, lineAt_modPort]

theorem takeByte_completes (hbreak : (s.lnk.get l).inBreak = false) (hx : wellReceived b x = true)
    (hrx : (s.lnk.get l).rx = .receiving bytes) (hopen : bytes ≠ []) (hwhole : frameWhole (bytes ++ [b]) = true) :
    takeByte l b x s = completeFrame l (bytes ++ [b]) (s.hears l x.stop fun q => { q with rx := .idle }) := by
  have hempty : (bytes.isEmpty && !validLength b) = false := by simp [hopen]
  rw [takeByte_of_good hbreak hx]
  simp [goodByte, hrx, takeFrameByte, hempty, hwhole, lineAt_modPort]

theorem takeByte_skipping (hbreak : (s.lnk.get l).inBreak = false) (hrx : (s.lnk.get l).rx = .skipping) :
    takeByte l b x s = lineAt l x.stop s := by
  cases hx : wellReceived b x with
  | true => simp [takeByte_of_good hbreak hx, goodByte, hrx]
  | false => simp [takeByte_of_bad hbreak hx, badByte, hrx]

theorem lineAt_eq_hears (l : Link) (x : Level) (s : State) : lineAt l x s = s.hears l x fun q => q := by
  rw [← lineAt_modPort]
  simp [State.modPort]

/-- A fault of the receiver raises LINK on its link alone (R179). -/
theorem linkFault_eq (l : Link) (f : ErrorFlags → ErrorFlags) (r : Receiver) (s : State) : linkFault l f r s
    = attend (s.modPort l fun q => { q with rx := r, flags := f q.flags, pend := q.pend ||| 0x1000#16 }) := by
  simp only [linkFault, noticeOn, State.modPort, PerLink.set_set, PerLink.get_set_same]
  rfl

theorem validLength_iff : validLength b = true ↔ 2 ≤ b.toNat ∧ b.toNat ≤ 60 := by
  simp only [validLength, Bool.and_eq_true, decide_eq_true_eq]
  rfl

theorem linkFault_hears (l : Link) (f : ErrorFlags → ErrorFlags) (r : Receiver) (x : Level) (s : State) :
    linkFault l f r (lineAt l x s)
      = attend (s.hears l x fun q => { q with rx := r, flags := f q.flags, pend := q.pend ||| 0x1000#16 }) := by
  rw [linkFault_eq, lineAt_modPort]

/-- Settles O4: each byte of a frame by the state of the receiver that takes it. -/
theorem bytesBuildAFrame : Obligations.BytesBuildAFrame := fun l b s =>
  ⟨fun hbreak => congrArg _ (takeByte_of_inBreak hbreak),
    fun hbreak hrx hb => by
      subst hb
      exact congrArg _ (takeByte_idle_header hbreak (wellReceived_sentTail _) hrx),
    fun bytes hbreak hrx hlength hwhole => congrArg _
      (takeByte_joins hbreak (wellReceived_sentTail _) hrx (fun h => validLength_iff.2 (hlength h)) hwhole),
    fun hbreak hrx => congrArg _ ((takeByte_skipping hbreak hrx).trans (lineAt_eq_hears l _ s))⟩

/-- Settles O6: each timer of a link by its due condition. -/
theorem linkTimersAct : Obligations.LinkTimersAct := by
  intro l s
  refine ⟨fun h => ?_, fun h => atLinkLimit_due h _ s, fun h => ?_, fun h => atLinkLimit_due h _ s, fun h => ?_, fun h => ?_,
    ?_, ?_, ?_⟩
  · exact (atLinkLimit_due h _ s).trans (congrArg _ (linkFault_eq l _ _ s))
  · unfold State.quietDue
    split <;> simp [h]
  · have hends : breakEnds l s = s.hears l .mark fun q => { q with inBreak := false, rx := .skipping } := by
      simp only [breakEnds, h]
      exact lineAt_modPort ..
    exact congrArg _ hends
  · have hends : breakEnds l s = s := by simp only [breakEnds, h]
    exact congrArg _ hends
  · unfold State.gapDue
    split
    · next bytes hrx =>
      simp only [hrx, Bool.and_eq_true, Bool.not_eq_true', decide_eq_true_eq, Receiver.receiving.injEq, exists_eq', true_and]
      rfl
    all_goals next hrx => simp [hrx]
  · unfold State.quietDue
    split
    · next hrx =>
      simp only [hrx, Bool.and_eq_true, Bool.not_eq_true', decide_eq_true_eq, true_and, and_assoc]
      rfl
    all_goals next hrx => simp [hrx]
  · simp [State.holdOffDue, reached_iff, Config.holdOff]

/-! The frames of a transmitter (R181, R182). -/

theorem takeNext_of_empty (h : (s.lnk.get l).queue = []) : takeNext l s = s := by simp [takeNext, h]

theorem takeNext_of_head {f : RxFrame} {rest : List RxFrame} (h : (s.lnk.get l).queue = f :: rest)
    (k : (s.lnk.get l).canTake = true) :
    takeNext l s = takeCmd l f.tag f.cmd (s.modPort l fun q => { q with queue := rest }) := by
  simp [takeNext, h, k]

/-- A frame sent with an empty queue behind it. -/
theorem responseSent_of_empty {f : Port → Port} (hqueue : (s.lnk.get l).queue = [])
    (hsent : sentFrame (s.lnk.get l) = f (s.lnk.get l)) : exec (.responseSent l) s = .next (s.modPort l f) := by
  have hport : s.modPort l sentFrame = s.modPort l f := by simp [State.modPort, hsent]
  refine congrArg _ (((congrArg (takeNext l) hport)).trans (takeNext_of_empty ?_))
  rw [← hport]
  simp [(sentFrame_stands _).1, hqueue]

/-- A frame sent that lets the link take the head of its queue. -/
theorem responseSent_of_head {f : RxFrame} {rest : List RxFrame} {g : Port → Port}
    (hqueue : (s.lnk.get l).queue = f :: rest) (hsent : sentFrame (s.lnk.get l) = g (s.lnk.get l))
    (htake : (g (s.lnk.get l)).canTake = true) :
    exec (.responseSent l) s
      = .next (takeCmd l f.tag f.cmd (s.modPort l fun q => { g q with queue := rest })) := by
  have hport : s.modPort l sentFrame = s.modPort l g := by simp [State.modPort, hsent]
  have hq : ((s.modPort l g).lnk.get l).queue = f :: rest := by
    rw [← hport]
    simp [(sentFrame_stands _).1, hqueue]
  refine congrArg _ (((congrArg (takeNext l) hport)).trans ((takeNext_of_head hq (by simpa using htake)).trans ?_))
  simp [State.modPort]

/-- Settles O7: what a sent frame leaves of its link, by the frame, and the head of the queue where the link may take it. -/
theorem sentFramesLeave : Obligations.SentFramesLeave := fun l s =>
  ⟨fun hqueue =>
    ⟨fun _ _ _ _ rest htx => responseSent_of_empty (f := fun q => { q with tx := rest, awaiting := false }) hqueue
        (by simp [sentFrame, htx]),
      fun _ rest htx => responseSent_of_empty
        (f := fun q => { q with tx := rest, awaiting := false, blocked := false }) hqueue (by simp [sentFrame, htx]),
      fun _ _ rest htx => responseSent_of_empty (f := fun q => { q with tx := rest }) hqueue (by simp [sentFrame, htx]),
      fun _ rest htx => responseSent_of_empty (f := fun q => { q with tx := rest }) hqueue (by simp [sentFrame, htx])⟩,
    fun _ _ _ _ _ _ out hqueue hblocked htx => responseSent_of_head (g := fun q => { q with tx := out, awaiting := false })
      hqueue (by simp [sentFrame, htx]) (by simp [Port.canTake, hblocked]),
    fun _ _ _ out hqueue htx => responseSent_of_head
      (g := fun q => { q with tx := out, awaiting := false, blocked := false }) hqueue (by simp [sentFrame, htx])
      (by simp [Port.canTake])⟩

/-- Settles O8: an offered frame joins a queue with room behind it, and a full queue answers BUSY. -/
theorem busyLinksQueueOrAnswerBusy : Obligations.BusyLinksQueueOrAnswerBusy := by
  intro i l tag c s hoff
  refine ⟨fun hroom hbusy => ?_, fun hfull => ?_⟩
  · have hwait : (s.lnk.get l).canTake = false := by
      rcases hbusy with h | h <;> simp [Port.canTake, h]
    rw [exec_offered hoff, offer_queued hroom hwait]
  · rw [exec_offered hoff, offer_full hfull]
    simp only [overrunFrame, superviseFrame_lnk, Port.busyWaits, noticeOn, hand, State.modPort, PerLink.set_set,
      PerLink.get_set_same]
    split <;> rfl

end Receiver

end Sys2Proof.Machine

/-! ### Queries, link commands and the link reset (R63, R76, R165, R181, R187 to R191, R197) -/

namespace Sys2Proof.Machine

section LinkRows

variable {s u : State} {l : Link} {tag : Byte}

/-- A query on a free link. -/
theorem exec_query {i : Instr} {c : Cmd} {bytes : List Byte} (hoff : i.offered = some (l, tag, c)) (hfree : s.free l)
    (hquiet : followUp c = .quiet) (hrun : runCmd l tag c (superviseFrame l s) = query u bytes) :
    exec i s = .next (u.answered l tag c.code .ok bytes) :=
  exec_quiet_answered hoff hquiet hfree hrun (fun h => nomatch h)

/-- Settles O11: each query answers with its result and is followed by nothing. -/
theorem queriesReadAndChangeNothing : Obligations.QueriesReadAndChangeNothing := fun _ _ _ hfree =>
  ⟨exec_query (c := .nop) rfl hfree rfl rfl, exec_query (c := .linkStatus) rfl hfree rfl rfl,
    exec_query (c := .travelRead) rfl hfree rfl rfl, exec_query (c := .lineRead) rfl hfree rfl rfl,
    exec_query (c := .breakerRead) rfl hfree rfl rfl, exec_query (c := .mapStatus) rfl hfree rfl rfl,
    exec_query (c := .seqRead) rfl hfree rfl rfl, exec_query (c := .iceRead) rfl hfree rfl rfl,
    exec_query (c := .authRead) rfl hfree rfl rfl, exec_query (c := .noticeRead) rfl hfree rfl rfl,
    exec_query (c := .faultRead) rfl hfree rfl rfl⟩

/-- A number that is no pantograph's (R63). -/
theorem pan_ofNum_eq_none {n : Nat} : Pan.ofNum n = none ↔ n = 0 ∨ 5 ≤ n := by
  constructor
  · intro h
    by_contra hn
    have hlo : 1 ≤ n := by omega
    have hhi : n ≤ 4 := by omega
    interval_cases n <;> cases h
  · intro h
    cases hp : Pan.ofNum n with
    | none => rfl
    | some p =>
      have hn := pan_ofNum_eq_some.1 hp
      have := pan_num_range p
      omega

theorem pan_ofNum_num (p : Pan) : Pan.ofNum p.num = some p := pan_ofNum_eq_some.2 rfl

/-- A query refused on a free link. -/
theorem exec_query_refused {i : Instr} {c : Cmd} {st : Status} (hoff : i.offered = some (l, tag, c)) (hfree : s.free l)
    (hquiet : followUp c = .quiet) (hrun : runCmd l tag c (superviseFrame l s) = refuse u st) (hst : st ≠ .illegalSequence) :
    exec i s = .next (u.answered l tag c.code st []) := exec_quiet_answered hoff hquiet hfree hrun hst

@[simp] theorem superviseFrame_cfg (l : Link) (s : State) : (superviseFrame l s).cfg = s.cfg := by rw [superviseFrame_auth]

/-- Settles O12: the number, item or index decides between the answer and the refusal. -/
theorem indexedQueries : Obligations.IndexedQueries := by
  intro l tag n x s hfree
  refine ⟨?_, fun hn => ?_, ?_, fun slot hn hslot => ?_, fun hn hslot => ?_⟩
  · rintro p rfl
    exact ⟨exec_query (c := .panRead p.num) rfl hfree rfl (by simp [runCmd, cmdPanRead, pan_ofNum_num]),
      exec_query (c := .forceRead p.num) rfl hfree rfl (by simp [runCmd, cmdForceRead, pan_ofNum_num])⟩
  · have hp := pan_ofNum_eq_none.2 hn
    exact ⟨exec_query_refused (c := .panRead n) rfl hfree rfl (by simp only [runCmd, cmdPanRead, hp]) (fun h => nomatch h),
      exec_query_refused (c := .forceRead n) rfl hfree rfl (by simp only [runCmd, cmdForceRead, hp]) (fun h => nomatch h)⟩
  · rintro rfl
    exact exec_query (c := .configRead 0 x) rfl hfree rfl rfl
  · exact exec_query (c := .configRead n x) rfl hfree rfl (by simp [runCmd, cmdConfigRead, hn, hslot])
  · exact exec_query_refused (c := .configRead n x) rfl hfree rfl (by simp [runCmd, cmdConfigRead, hn, hslot])
      (fun h => nomatch h)

/-! The link commands (R187, R199). -/

@[simp] theorem superviseFrame_sync (l : Link) (s : State) : (superviseFrame l s).sync = s.sync := by rw [superviseFrame_auth]

@[simp] theorem superviseFrame_longOps (l : Link) (s : State) : (superviseFrame l s).longOps = s.longOps := by
  rw [superviseFrame_auth]

/-- A SYNC that waits for the operations it marks hands no response (R187). -/
theorem takeCmd_sync_waits (hsync : s.sync = none) (hops : s.longOps ≠ []) : takeCmd l tag .sync s
    = { s.modPort l (fun q => { q with blocked := true, lastTaken := some 0x03 }) with
        sync := some ⟨l, tag⟩, longOps := s.longOps.map fun o => { o with marked := true } } := by
  obtain ⟨o, os, hlong⟩ := List.exists_cons_of_ne_nil hops
  have hrun : cmdSync l tag s = (((markOps s).setSync (some ⟨l, tag⟩)).modPort l fun q => { q with blocked := true }, none) := by
    simp only [cmdSync, hsync, hlong]
  simp [takeCmd, runCmd, hrun, recordTaken, handAnswer, follow, followUp, markOps, State.setSync, State.setLongOps, State.modPort]
  rfl

/-- A command on the notice sets of a link is answered, and attention follows (R198, R199). -/
theorem exec_attention {i : Instr} {c : Cmd} (hoff : i.offered = some (l, tag, c)) (hfree : s.free l)
    (hattend : followUp c = .attention) (hrun : runCmd l tag c (superviseFrame l s) = query u []) :
    exec i s = .next (attend (u.answered l tag c.code .ok [])) := by
  rw [exec_free hoff hfree, takeCmd_answered hrun (fun h => nomatch h)]
  simp only [follow, hattend]

/-- Settles O10: each link command by its cases, and the end of SYNC's wait by the marks that are left. -/
theorem linkCommands : Obligations.LinkCommands := by
  intro l tag s hfree
  refine ⟨fun hsync => ?_, fun hsync hops => ?_, fun hsync hops => ?_, fun k => ⟨?_, ?_⟩, fun code => ?_, fun c hc => ⟨?_, ?_⟩⟩
  · obtain ⟨c, hc⟩ := Option.ne_none_iff_exists'.1 hsync
    exact exec_query_refused (c := .sync) rfl hfree rfl (by simp [runCmd, cmdSync, hc]) (fun h => nomatch h)
  · exact exec_query (c := .sync) rfl hfree rfl (by simp [runCmd, cmdSync, hsync, hops])
  · rw [exec_free rfl hfree, takeCmd_sync_waits (by simpa using hsync) (by simpa using hops)]
    simp
  · exact exec_attention (c := .noticeClear k) rfl hfree rfl rfl
  · exact exec_attention (c := .noticeEnable k) rfl hfree rfl rfl
  · exact exec_query_refused (c := .unknown code) rfl hfree rfl rfl (fun h => nomatch h)
  · rintro ⟨o, ho, hmarked⟩
    have hany : s.longOps.any (·.marked) = true := List.any_eq_true.2 ⟨o, ho, hmarked⟩
    simp [watchSync, hc, hany]
  · intro hnone
    have hany : s.longOps.any (·.marked) = false := by simpa using hnone
    simp only [watchSync, hc, hany]
    rfl

/-! The link reset (R165, R188, R190, R191). -/

/-- The links with a cause in every pending set (R198). -/
def State.raised (s : State) (c : Notice) : PerLink Port := ⟨s.lnk.a.raise c, s.lnk.b.raise c, s.lnk.m.raise c⟩

@[simp] theorem raised_get (c : Notice) (k : Link) : (s.raised c).get k = (s.lnk.get k).raise c := by cases k <;> rfl

/-- A notice changes the links alone (R198). -/
theorem notice_eq_raised (c : Notice) (s : State) : notice c s = { s with lnk := s.raised c } := rfl

theorem raise_raise (q : Port) (c : Notice) : (q.raise c).raise c = q.raise c := by
  simp [Port.raise, BitVec.or_assoc]

/-- The record where a link's request is withdrawn with its parked command (R163, R165). -/
def Authority.withdrawn (l : Link) (a : Authority) : Authority :=
  { a with
    requester := none
    parked := none
    parkedResult := match a.parked with
      | some p => some ⟨l, p.cmd.code, p.tag, .discarded⟩
      | none => a.parkedResult }

/-- The record behind a withdrawal: a change owed is made to none, unless an entry is ACTIVE (R167). -/
def State.authWithdrawn (s : State) (l : Link) : Authority :=
  if s.auth.owed ≠ none ∧ s.entryActive = false then
    (s.auth.withdrawn l).change .withdrawal s.now s.cfg.items.authSupervision
  else s.auth.withdrawn l

/-- Two updates of the record at one event raise AUTH once (R161, R198). -/
theorem changeAuth_changeAuth (f g : Authority → Authority) (s : State) :
    changeAuth f (changeAuth g s) = changeAuth (fun a => f (g a)) s := by
  simp only [changeAuth, notice_eq_raised, State.raised, State.modAuth, raise_raise]

theorem changeAuth_eq (f : Authority → Authority) (s : State) :
    changeAuth f s = { s with auth := f s.auth, lnk := s.raised .auth } := rfl

/-- What a withdrawal does: the record, and AUTH on all three links. -/
theorem withdraw_eq (l : Link) (s : State) : withdraw l s = changeAuth (fun _ => s.authWithdrawn l) s := by
  have hwithdraw : withdraw l s = if (s.auth.owed.isSome && !s.entryActive) = true
      then makeChange .withdrawal (changeAuth (Authority.withdrawn l) s) else changeAuth (Authority.withdrawn l) s := by
    have hdeferred : (changeAuth (Authority.withdrawn l) s).deferred none = s.entryActive := Bool.or_false _
    rw [← hdeferred]
    rfl
  have hmake : makeChange .withdrawal (changeAuth (Authority.withdrawn l) s)
      = changeAuth (·.change .withdrawal s.now s.cfg.items.authSupervision) (changeAuth (Authority.withdrawn l) s) := rfl
  rw [hwithdraw, hmake, changeAuth_changeAuth]
  unfold State.authWithdrawn
  cases howed : s.auth.owed with
  | none => simp [changeAuth, State.modAuth]
  | some c => cases hactive : s.entryActive <;> simp [changeAuth, State.modAuth]

/-- The record behind a reset of a link (R165). -/
def State.authReset (s : State) (l : Link) : Authority :=
  if s.auth.requester = some l then s.authWithdrawn l
  else if s.auth.holder = some l ∧ s.auth.owed = none then { s.auth with owed := some .linkReset, supervision := none }
  else s.auth

theorem authWithdrawn_requester (l : Link) (s : State) : (s.authWithdrawn l).requester = none := by
  unfold State.authWithdrawn
  split <;> rfl

/-- What a reset of a link does to the record, with AUTH on all three links where the record changes (R161, R165). -/
theorem authLinkReset_eq (l : Link) (s : State) : authLinkReset l s =
    if s.authReset l = s.auth then s else changeAuth (fun _ => s.authReset l) s := by
  unfold authLinkReset State.authReset
  dsimp only
  split
  · next hreq =>
    have hne : s.authWithdrawn l ≠ s.auth := fun heq => by
      have hnone := authWithdrawn_requester l s
      rw [heq, hreq] at hnone
      cases hnone
    rw [if_neg hne, withdraw_eq]
  · split
    · next howe =>
      have hne : { s.auth with owed := some .linkReset, supervision := none } ≠ s.auth := fun heq => by
        have := congrArg Authority.owed heq
        rw [howe.2] at this
        cases this
      rw [if_neg hne]
      rfl
    · rw [if_pos rfl]

/-- A reset of a link changes the record, and the pending sets of all links where the record changes; nothing else. -/
theorem authLinkReset_fields (l : Link) (s : State) : (authLinkReset l s).auth = s.authReset l
    ∧ (∀ auth : BitVec 16, auth = (if s.authReset l = s.auth then 0#16 else 0x0200#16) →
      ∀ k, (authLinkReset l s).lnk.get k = { s.lnk.get k with pend := (s.lnk.get k).pend ||| auth })
    ∧ { authLinkReset l s with lnk := s.lnk, auth := s.auth } = s ∧ (authLinkReset l s).sync = s.sync
    ∧ (authLinkReset l s).longOps = s.longOps := by
  rw [authLinkReset_eq]
  split
  · next hstand => exact ⟨hstand.symm, fun auth hbits k => by rw [hbits, BitVec.or_zero], rfl, rfl, rfl⟩
  · rw [changeAuth_eq]
    exact ⟨rfl, fun auth hbits k => by rw [hbits]; exact raised_get .auth k, rfl, rfl, rfl⟩

/-- The SYNC context and the marks behind a reset of a link (R188): freed where the link owns the context. -/
theorem freeSync_eq (l : Link) (s : State) :
    (∃ c, s.sync = some c ∧ c.owner = l
      ∧ freeSync l s = { s with sync := none, longOps := s.longOps.map fun o => { o with marked := false } })
    ∨ (∀ c, s.sync = some c → c.owner ≠ l) ∧ freeSync l s = s := by
  unfold freeSync
  split
  · next c hc =>
    split
    · next howner => exact .inl ⟨c, hc, howner, rfl⟩
    · next howner => exact .inr ⟨fun d hd hl => howner (Option.some.inj (hc.symm.trans hd) ▸ hl), rfl⟩
  · next hc => exact .inr ⟨fun d hd => absurd (hc.symm.trans hd) (fun h => nomatch h), rfl⟩

/-- The state of a link's reset before the reactions, the SYNC context apart (R165, R191). -/
theorem resetLink_eq (l : Link) (s : State) : ∃ sync ops,
    ((∃ c, s.sync = some c ∧ c.owner = l ∧ sync = none ∧ ops = s.longOps.map fun o => { o with marked := false })
      ∨ (∀ c, s.sync = some c → c.owner ≠ l) ∧ sync = s.sync ∧ ops = s.longOps)
    ∧ resetLink l s = settle (authLinkReset l { s.modPort l (·.reset s.now) with sync := sync, longOps := ops }) := by
  rcases freeSync_eq l (s.modPort l (·.reset s.now)) with ⟨c, hc, howner, heq⟩ | ⟨hnone, heq⟩
  · exact ⟨none, _, .inl ⟨c, hc, howner, rfl, rfl⟩, by unfold resetLink; rw [heq]; rfl⟩
  · exact ⟨_, _, .inr ⟨hnone, rfl, rfl⟩, by unfold resetLink; rw [heq]; rfl⟩

/-- What a link's reset does to the record, by the record before it (R165, R167). -/
theorem authReset_cases (l : Link) (s : State) :
    (s.auth.requester = some l → (s.authReset l).requester = none ∧ (s.authReset l).parked = none
      ∧ (s.authReset l).leading = s.auth.leading
      ∧ (∀ k, s.auth.parked = some k → (s.authReset l).parkedResult = some ⟨l, k.cmd.code, k.tag, .discarded⟩)
      ∧ (s.auth.parked = none → (s.authReset l).parkedResult = s.auth.parkedResult)
      ∧ (s.auth.owed = none ∨ s.entryActive = true → (s.authReset l).holder = s.auth.holder
          ∧ (s.authReset l).owed = s.auth.owed ∧ (s.authReset l).supervision = s.auth.supervision
          ∧ (s.authReset l).lastChange = s.auth.lastChange)
      ∧ (s.auth.owed ≠ none → s.entryActive = false → (s.authReset l).holder = none ∧ (s.authReset l).owed = none
          ∧ (s.authReset l).supervision = none
          ∧ (s.authReset l).lastChange = some ⟨s.clk.time, .withdrawal, s.auth.holder, none⟩))
    ∧ (s.auth.requester ≠ some l → s.authReset l = if s.auth.holder = some l ∧ s.auth.owed = none then
        { s.auth with owed := some .linkReset, supervision := none } else s.auth) := by
  refine ⟨fun hreq => ?_, fun hreq => if_neg hreq⟩
  have hreset : s.authReset l = s.authWithdrawn l := if_pos hreq
  rw [hreset]
  unfold State.authWithdrawn
  split
  · next hdue =>
    refine ⟨rfl, rfl, rfl, fun k hk => ?_, fun hk => ?_, fun h => ?_, fun _ _ => ⟨rfl, rfl, rfl, rfl⟩⟩
    · simp [Authority.change, Authority.withdrawn, hk]
    · simp [Authority.change, Authority.withdrawn, hk]
    · rcases h with h | h
      · exact absurd h hdue.1
      · rw [hdue.2] at h; cases h
  · next hdue =>
    refine ⟨rfl, rfl, rfl, fun k hk => ?_, fun hk => ?_, fun _ => ⟨rfl, rfl, rfl, rfl⟩, fun h1 h2 => absurd ⟨h1, h2⟩ hdue⟩
    · simp [Authority.withdrawn, hk]
    · simp [Authority.withdrawn, hk]

/-- Settles O9: the link, its SYNC and its part in the authority record are three independent fields of the reset. -/
theorem linkResetEmptiesTheLink : Obligations.LinkResetEmptiesTheLink := by
  intro l s
  refine ⟨?_, fun hdue hoff => ?_, fun hdue hoff => ?_⟩
  · simp only [State.breakDue, Bool.and_eq_true, Bool.not_eq_true', decide_eq_true_eq, and_assoc]
    rfl
  · obtain ⟨b, hb⟩ := Option.ne_none_iff_exists'.1 hoff
    exact (atLinkLimit_due hdue _ s).trans (by simp only [takeBreak, hb])
  obtain ⟨sync, ops, hsync, hreset⟩ := resetLink_eq l s
  have hown : ∀ c, s.sync = some c → c.owner = l → sync = none ∧ ops = s.longOps.map fun o => { o with marked := false } := by
    intro c hc hl
    rcases hsync with ⟨_, _, _, h⟩ | ⟨h, _⟩
    · exact h
    · exact absurd hl (h c hc)
  have hfree : (∀ c, s.sync = some c → c.owner ≠ l) → sync = s.sync ∧ ops = s.longOps := by
    intro hno
    rcases hsync with ⟨c, hc, hl, _⟩ | ⟨_, h⟩
    · exact absurd hl (hno c hc)
    · exact h
  have hexec : exec (.linkReset l) s = .next (resetLink l s) :=
    (atLinkLimit_due hdue _ s).trans (by simp only [takeBreak, hoff])
  obtain ⟨hwithdrawn, hkept⟩ := authReset_cases l s
  have hwaits : ((s.lnk.get l).tx.take 1).any (·.isResponse) = match (s.lnk.get l).tx with
      | .response _ _ _ _ :: _ | .syncDone _ :: _ => true
      | .busy _ _ :: _ | .attention _ :: _ | [] => false := by
    rcases (s.lnk.get l).tx with _ | ⟨f, rest⟩
    · rfl
    · cases f <;> rfl
  let v : State := { s.modPort l (·.reset s.now) with sync := sync, longOps := ops }
  have hport : ∀ k, v.lnk.get k = if k = l then (s.lnk.get l).reset s.now else s.lnk.get k := fun k => PerLink.get_set ..
  obtain ⟨hauth, hlnk, hrest, hsyncs, hops⟩ := authLinkReset_fields l v
  refine ⟨authLinkReset l v, hexec.trans (congrArg _ hreset), fun auth hbits => ⟨?_, fun k hk => ?_⟩,
    fun c hc hl => ⟨hsyncs.trans (hown c hc hl).1, hops.trans (hown c hc hl).2⟩,
    fun hno => ⟨hsyncs.trans (hfree hno).1, hops.trans (hfree hno).2⟩, hauth ▸ hwithdrawn, hauth ▸ hkept, ?_⟩
  · rw [hlnk auth (hauth ▸ hbits) l, hport, if_pos rfl]
    have hpend : ((s.lnk.get l).reset s.now).pend ||| auth = auth := BitVec.zero_or
    rw [hpend]
    simp only [Port.reset, State.now, hwaits] <;> rfl
  · rw [hlnk auth (hauth ▸ hbits) k, hport, if_neg hk]
  · generalize authLinkReset l v = u at hrest
    have : { v with lnk := s.lnk, sync := s.sync, longOps := s.longOps } = s := rfl
    rw [← hrest] at this
    exact this

end LinkRows

end Sys2Proof.Machine

/-! ### Bytes and frames on the line (R175 to R179) -/

namespace Sys2Proof.Machine

section Bytes

variable {s : State} {l : Link} {b : Byte} {x : ByteTail} {bytes : List Byte}

/-- A number spelt by bits has those bits (R183). -/
theorem flagByte_testBit (bits : List Bool) (i : Nat) : (flagByte bits).testBit i = bits.getD i false := by
  induction bits generalizing i with
  | nil => simp [flagByte]
  | cons c rest ih =>
    cases i with
    | zero => cases c <;> simp [flagByte, Nat.testBit_zero]
    | succ i =>
      have hhalf : flagByte (c :: rest) / 2 = flagByte rest := by
        cases c
        · simp [flagByte]
        · simp only [flagByte, Bool.toNat_true]; omega
      rw [Nat.testBit_succ, hhalf, ih, List.getD_cons_succ]

theorem dataBits_getElem (b : Byte) {k : Nat} (hk : k < 8) : (dataBits b)[k]? = some (b.getLsbD k) := by
  simp [dataBits, List.getElem?_range hk]

/-- The data bits of a byte spell it (R175). -/
theorem ofNat_flagByte_dataBits (b : Byte) : BitVec.ofNat 8 (flagByte (dataBits b)) = b := by
  refine BitVec.eq_of_getLsbD_eq fun i hi => ?_
  rw [BitVec.getLsbD_ofNat, flagByte_testBit, List.getD_eq_getElem?_getD, dataBits_getElem b hi]
  simp [hi]

theorem levelBit_bitLevel (c : Bool) : levelBit (bitLevel c) = c := by cases c <;> rfl

/-- The receiver reads the byte that was sent (R175). -/
theorem readByte_byteLevels (b : Byte) : readByte (byteLevels b) = some (b, sentTail b) := by
  have hbits : dataBits b = [b.getLsbD 0, b.getLsbD 1, b.getLsbD 2, b.getLsbD 3, b.getLsbD 4, b.getLsbD 5, b.getLsbD 6,
      b.getLsbD 7] := rfl
  have hbyte := ofNat_flagByte_dataBits b
  simp only [hbits] at hbyte
  simp only [byteLevels, hbits, readByte, List.map_cons, List.map_nil, List.cons_append, List.nil_append, levelBit_bitLevel, hbyte]
  rfl

/-- The parity bit makes the count of ones even (R175). -/
theorem count_dataBits_parityBit (b : Byte) : ((dataBits b ++ [parityBit b]).count true) % 2 = 0 := by
  rw [List.count_append, parityBit]
  by_cases hodd : (dataBits b).count true % 2 = 1
  · simp [hodd]
    omega
  · simp [hodd]
    omega

theorem txLevels_length (f : TxFrame) : (txLevels f).length = 11 * (txBytes f).length := by
  have hbyte : ∀ c, (byteLevels c).length = 11 := fun c => by simp [byteLevels, dataBits]
  simp [txLevels, List.length_flatMap, hbyte, mul_comm]

/-- A byte whose parity bit or stop bit is wrong is not received well (R175). -/
theorem wellReceived_eq_false (h : x.parity ≠ parityBit b ∨ x.stop = .space) : wellReceived b x = false := by
  rcases h with h | h <;> simp [wellReceived, parityError, framingError, h]

theorem takeByte_bad (hbreak : (s.lnk.get l).inBreak = false) (hx : wellReceived b x = false)
    (hrx : (s.lnk.get l).rx ≠ .skipping) : takeByte l b x s = attend (s.hears l x.stop fun q =>
      { q with rx := .skipping, flags := setByteError q.flags, pend := q.pend ||| 0x1000#16 }) := by
  rw [takeByte_of_bad hbreak hx, ← linkFault_hears]
  unfold badByte
  rw [lineAt_rx]
  split
  · rfl
  · rfl
  · next h => exact absurd h hrx

theorem takeByte_misplaced (hbreak : (s.lnk.get l).inBreak = false) (hx : wellReceived b x = true)
    (hrx : (s.lnk.get l).rx = .idle ∧ b ≠ header ∨ (s.lnk.get l).rx = .receiving [] ∧ validLength b = false) :
    takeByte l b x s = attend (s.hears l x.stop fun q =>
      { q with rx := .skipping, flags := setFormatError q.flags, pend := q.pend ||| 0x1000#16 }) := by
  rw [takeByte_of_good hbreak hx, ← linkFault_hears]
  rcases hrx with ⟨hrx, hb⟩ | ⟨hrx, hb⟩
  · simp [goodByte, hrx, hb]
  · simp [goodByte, hrx, takeFrameByte, hb]

theorem hears_modPort (l : Link) (x : Level) (f g : Port → Port) (s : State) :
    (s.hears l x f).modPort l g = s.hears l x fun q => g (f q) := by
  simp [State.hears, State.modPort]

/-- Settles O5: the levels of a byte, the idle line, and the fault of each kind of faulty byte. -/
theorem faultyBytesAreFlagged : Obligations.FaultyBytesAreFlagged := by
  refine ⟨fun b => ⟨rfl, fun k hk => dataBits_getElem b hk, count_dataBits_parityBit b, readByte_byteLevels b⟩,
    fun l n s => ⟨fun htx => by simp [State.txLine, htx], fun f rest htx hn => ?_⟩, fun l b s hbreak => ⟨fun x hbad => ?_, ?_, ?_⟩⟩
  · have hlen : (txLevels f).length ≤ n := txLevels_length f ▸ hn
    simp [State.txLine, htx, List.getD_eq_getElem?_getD, List.getElem?_eq_none hlen]
  · have hx := wellReceived_eq_false hbad
    exact ⟨fun hrx => congrArg _ (takeByte_bad hbreak hx hrx),
      fun hrx => congrArg _ ((takeByte_skipping hbreak hrx).trans (lineAt_eq_hears l _ s))⟩
  · intro hrx
    refine congrArg _ (takeByte_misplaced hbreak (wellReceived_sentTail b) (hrx.imp id (And.imp id fun hlen => ?_)))
    exact Bool.eq_false_iff.2 fun h => hlen (validLength_iff.1 h)
  · intro bytes hrx hopen hwhole hcrc
    refine congrArg _ ((takeByte_completes hbreak (wellReceived_sentTail b) hrx hopen hwhole).trans ?_)
    have hwrong : frameCorrect (bytes ++ [b]) = false := by simpa [frameCorrect] using hcrc
    unfold completeFrame
    rw [hwrong, if_neg Bool.false_ne_true, linkFault_eq, hears_modPort]
    rfl

end Bytes

section Frames

variable {s : State} {l : Link} {tag : Byte} {c : Cmd}

/-! The CRC of a frame with its two CRC bytes is 0 (R177). -/

/-- A register whose high bits are clear moves left. -/
theorem times_crcShift (k : Nat) (r : BitVec 16) (h : r.toNat * 2 ^ k < 65536) : (times crcShift k r).toNat = r.toNat * 2 ^ k := by
  induction k generalizing r with
  | zero => simp [times]
  | succ k ih =>
    have hpos : 1 ≤ 2 ^ k := Nat.one_le_two_pow
    have hsmall : r.toNat * 2 < 65536 := by
      rw [pow_succ] at h
      nlinarith
    have hmsb : r.msb = false := by
      rw [BitVec.msb_eq_decide]
      simp
      omega
    have hshift : (crcShift r).toNat = r.toNat * 2 := by
      simp [crcShift, hmsb, BitVec.toNat_shiftLeft, Nat.shiftLeft_eq]
      omega
    rw [times, ih _ (by rw [hshift, mul_assoc, ← pow_succ']; exact h), hshift, pow_succ']
    ring

/-- The high byte of a register, taken in, leaves its low byte in the high place. -/
theorem crcByte_high (r : BitVec 16) : (crcByte r (BitVec.ofNat 8 (r.toNat / 256))).toNat = r.toNat % 256 * 256 := by
  have hlow : r ^^^ ((BitVec.ofNat 8 (r.toNat / 256)).setWidth 16 <<< 8) = BitVec.ofNat 16 (r.toNat % 256) := by
    refine BitVec.eq_of_getLsbD_eq fun i hi => ?_
    have hmod : (r.toNat % 256).testBit i = (decide (i < 8) && r.toNat.testBit i) := Nat.testBit_mod_two_pow r.toNat 8 i
    have hreg : r.getLsbD i = r.toNat.testBit i := BitVec.testBit_toNat r |>.symm
    have hdiv : (r.toNat / 256).testBit (i - 8) = r.toNat.testBit (8 + (i - 8)) := by
      rw [show 256 = 2 ^ 8 from rfl, Nat.testBit_div_two_pow]
      congr 1
      omega
    simp only [BitVec.getLsbD_xor, BitVec.getLsbD_shiftLeft, BitVec.getLsbD_setWidth, BitVec.getLsbD_ofNat, hmod, hdiv, hreg]
    by_cases h8 : i < 8
    · simp [h8, hi]
    · have hback : 8 + (i - 8) = i := by omega
      have hlt : i - 8 < 8 := by omega
      have hwide : i - 8 < 16 := by omega
      simp [h8, hi, hback, hlt, hwide]
  have hmod : r.toNat % 256 < 256 := Nat.mod_lt _ (by decide)
  have hnat : (BitVec.ofNat 16 (r.toNat % 256)).toNat = r.toNat % 256 := by
    rw [BitVec.toNat_ofNat]
    omega
  rw [crcByte, hlow, times_crcShift 8 _ (by rw [hnat]; omega), hnat]
  rfl

/-- The byte in the high place of a register whose low byte is clear leaves 0. -/
theorem crcByte_self (r : BitVec 16) (n : Nat) (h : r.toNat = n * 256) : crcByte r (BitVec.ofNat 8 n) = 0#16 := by
  have hsame : (BitVec.ofNat 8 n).setWidth 16 <<< 8 = r := by
    refine BitVec.eq_of_toNat_eq ?_
    simp [BitVec.toNat_shiftLeft, Nat.shiftLeft_eq, h]
    omega
  rw [crcByte, hsame, BitVec.xor_self]
  decide

/-- The CRC of bytes with their CRC bytes behind them is 0 (R177). -/
theorem crc_append_crcBytes (body : List Byte) : crc (body ++ crcBytes body) = 0#16 := by
  have hbytes : crcBytes body = [BitVec.ofNat 8 ((crc body).toNat / 256), BitVec.ofNat 8 ((crc body).toNat % 256)] := by
    simp only [crcBytes, be, List.cons.injEq, and_true, pow_one, pow_zero, Nat.div_one]
    exact ⟨trivial, BitVec.eq_of_toNat_eq (by simp)⟩
  have hfold : crc (body ++ crcBytes body) = (crcBytes body).foldl crcByte (crc body) := List.foldl_append
  rw [hfold, hbytes]
  exact crcByte_self _ _ (crcByte_high _)

/-! The operand bytes of a command (R183, R184). -/

/-- A number in as many bytes as it fits reads back (R183). -/
theorem unBe_be {k n : Nat} (h : n < 256 ^ k) : unBe (be k n) = n := by
  have hfold : ∀ (k n a : Nat), (be k n).foldl (fun n b => n * 256 + b.toNat) a = a * 256 ^ k + n % 256 ^ k := by
    intro k
    induction k with
    | zero => intro n a; simp [be, Nat.mod_one]
    | succ k ih =>
      intro n a
      have hbyte : (BitVec.ofNat 8 (n / 256 ^ k)).toNat = n / 256 ^ k % 256 := BitVec.toNat_ofNat ..
      rw [be, List.foldl_cons, ih, hbyte, pow_succ, Nat.mod_mul]
      ring
  rw [unBe, hfold, Nat.mod_eq_of_lt h, zero_mul, zero_add]

theorem lt_of_fits {k n : Nat} (h : fits k n = true) : n < 256 ^ k := of_decide_eq_true h

/-- A number that fits a byte reads back from it (R183). -/
theorem toNat_byte {n : Nat} (h : fits 1 n = true) : (BitVec.ofNat 8 (n / 256 ^ 0)).toNat = n := by
  have := lt_of_fits h
  rw [pow_zero, Nat.div_one, BitVec.toNat_ofNat]
  omega

theorem causesOf_bytes (w : BitVec 16) : causesOf (w.extractLsb' 0 8) (w.extractLsb' 8 8) = w := by
  refine BitVec.eq_of_getLsbD_eq fun i hi => ?_
  rw [causesOf, BitVec.getLsbD_append]
  by_cases h8 : i < 8
  · simp [h8]
  · have hback : 8 + (i - 8) = i := by omega
    have hlt : i - 8 < 8 := by omega
    simp [h8, hback, hlt]

/-- A code that names no command is read as one (R181). -/
theorem ofFrame_unknown : ∀ code : Byte, knownCode code = false → Cmd.ofFrame code [] = .unknown code := by
  decide

/-- Settles O2: command by command, each operand reads back from its bytes. -/
theorem operandBytesCarryTheCommand : Obligations.OperandBytesCarryTheCommand := by
  intro c hwf hlen
  cases c
  case unknown code => exact ofFrame_unknown code (by simpa [Cmd.wf] using hwf)
  case badLength code => exact absurd rfl (hlen code)
  all_goals simp only [Cmd.wf, Bool.and_eq_true] at hwf
  case positionFix m => exact congrArg Cmd.positionFix (unBe_be (lt_of_fits hwf))
  case setFormation fA fB => exact congrArg₂ Cmd.setFormation (unBe_be (lt_of_fits hwf.1)) (unBe_be (lt_of_fits hwf.2))
  case raise p r => exact congrArg₂ Cmd.raise (toNat_byte hwf.1) (toNat_byte hwf.2)
  case discSet p q => exact congrArg₂ Cmd.discSet (toNat_byte hwf.1) (toNat_byte hwf.2)
  case forceTableRead k i => exact congrArg₂ Cmd.forceTableRead (toNat_byte hwf.1) (toNat_byte hwf.2)
  case heat p o => exact congrArg₂ Cmd.heat (toNat_byte hwf.1) (toNat_byte hwf.2)
  case configRead i x => exact congrArg₂ Cmd.configRead (toNat_byte hwf.1) (toNat_byte hwf.2)
  case mapDelete i => exact congrArg Cmd.mapDelete (unBe_be (lt_of_fits hwf))
  case lower | addReset | isolate | restore | panRead | forceTableWriteNext | forceRead | select | earthPermit | mapRead
    | iceWeather => exact congrArg _ (toNat_byte hwf)
  case noticeClear w => exact congrArg Cmd.noticeClear (causesOf_bytes w)
  case noticeEnable w => exact congrArg Cmd.noticeEnable (causesOf_bytes w)
  case forceTableWrite k i f =>
    obtain ⟨⟨hk, hi⟩, hf⟩ := hwf
    refine (rfl : Cmd.ofFrame _ _ = .forceTableWrite (BitVec.ofNat 8 (k / 256 ^ 0)).toNat
      (BitVec.ofNat 8 (i / 256 ^ 0)).toNat (BitVec.ofNat 8 (f / 256 ^ 0)).toNat).trans ?_
    rw [toNat_byte hk, toNat_byte hi, toNat_byte hf]
  case configWrite i x v =>
    obtain ⟨⟨hi, hx⟩, hv⟩ := hwf
    refine (rfl : Cmd.ofFrame _ _ = .configWrite (BitVec.ofNat 8 (i / 256 ^ 0)).toNat
      (BitVec.ofNat 8 (x / 256 ^ 0)).toNat (unBe (be 4 v))).trans ?_
    rw [toNat_byte hi, toNat_byte hx, unBe_be (lt_of_fits hv)]
  case iceMode e u k w =>
    obtain ⟨⟨⟨he, hu⟩, hk⟩, hw⟩ := hwf
    refine (rfl : Cmd.ofFrame _ _ = .iceMode (BitVec.ofNat 8 (e / 256 ^ 0)).toNat (BitVec.ofNat 8 (u / 256 ^ 0)).toNat
      (BitVec.ofNat 8 (k / 256 ^ 0)).toNat (BitVec.ofNat 8 (w / 256 ^ 0)).toNat).trans ?_
    rw [toNat_byte he, toNat_byte hu, toNat_byte hk, toNat_byte hw]
  case mapInsert k start n y w lim =>
    obtain ⟨⟨⟨⟨⟨hk, hstart⟩, hn⟩, hy⟩, hw⟩, hlim⟩ := hwf
    refine (rfl : Cmd.ofFrame _ _ = .mapInsert (BitVec.ofNat 8 (k / 256 ^ 0)).toNat (unBe (be 4 start)) (unBe (be 2 n))
      (BitVec.ofNat 8 (y / 256 ^ 0)).toNat (BitVec.ofNat 8 (w / 256 ^ 0)).toNat
      (BitVec.ofNat 8 (lim / 256 ^ 0)).toNat).trans ?_
    rw [toNat_byte hk, unBe_be (lt_of_fits hstart), unBe_be (lt_of_fits hn), toNat_byte hy, toNat_byte hw, toNat_byte hlim]
  all_goals rfl

theorem be_length (k n : Nat) : (be k n).length = k := by
  induction k generalizing n with
  | zero => rfl
  | succ k ih => rw [be, List.length_cons, ih]

/-- No command has more than ten operand bytes (R184). -/
theorem operands_length_le (c : Cmd) : c.operands.length ≤ 10 := by
  cases c <;> simp [Cmd.operands, be_length, causesBytes]

/-- The bytes of a command frame behind its header are a whole frame (R178). -/
theorem frameWhole_command (tag : Byte) (c : Cmd) : frameWhole (commandBody tag c ++ crcBytes (commandBody tag c)) = true := by
  have hlen := operands_length_le c
  simp only [commandBody, List.cons_append, frameWhole, List.length_cons, List.length_append, crcBytes, be_length,
    BitVec.toNat_ofNat, decide_eq_true_eq]
  omega

/-- The whole frame of a command offers it (R177, R180). -/
theorem completeFrame_command (hwf : c.wf = true) (hlen : ∀ code, c ≠ .badLength code) (l : Link) (tag : Byte) (s : State) :
    completeFrame l (commandBody tag c ++ crcBytes (commandBody tag c)) s = offer l tag c s := by
  have hcorrect : frameCorrect (commandBody tag c ++ crcBytes (commandBody tag c)) = true :=
    decide_eq_true (crc_append_crcBytes _)
  have hops : (c.operands ++ crcBytes (commandBody tag c)).take ((c.operands ++ crcBytes (commandBody tag c)).length - 2)
      = c.operands := by
    have htwo : (crcBytes (commandBody tag c)).length = 2 := be_length ..
    rw [List.length_append, htwo, Nat.add_sub_cancel, List.take_left]
  have hread := (congrArg (Cmd.ofFrame c.code) hops).trans (operandBytesCarryTheCommand c hwf hlen)
  unfold completeFrame
  rw [if_pos hcorrect]
  exact congrArg (fun x => offer l tag x s) hread

/-- Settles O3: the frame ends with its last CRC byte, is whole and correct, and carries the command. -/
theorem frameOffersItsCommand : Obligations.FrameOffersItsCommand := by
  intro l tag c bytes last s hwf hlen hbreak hrx hframe
  have hall : bytes ++ [last] = commandBody tag c ++ crcBytes (commandBody tag c) := (List.cons.inj hframe).2.symm
  have hopen : bytes ≠ [] := by
    rintro rfl
    have := congrArg List.length hall
    simp [commandBody, crcBytes, be_length] at this
  have htake := takeByte_completes hbreak (wellReceived_sentTail last) hrx hopen (hall ▸ frameWhole_command tag c)
  rw [hall, completeFrame_command hwf hlen] at htake
  exact congrArg _ htake

end Frames

end Sys2Proof.Machine

/-! ### The authority class: the simple commands (R15, R50, R89, R92, R150, R153, R171) -/

namespace Sys2Proof.Machine

section Causes

variable {s t u : State} {l : Link} {tag : Byte} {cs ds : List Notice}

/-- The links with a list of causes in every pending set (R198). -/
def raiseAll (cs : List Notice) (v : PerLink Port) : PerLink Port :=
  ⟨{ v.a with pend := v.a.pend ||| causeBits cs }, { v.b with pend := v.b.pend ||| causeBits cs },
    { v.m with pend := v.m.pend ||| causeBits cs }⟩

theorem raiseAll_get (cs : List Notice) (v : PerLink Port) (k : Link) :
    (raiseAll cs v).get k = { v.get k with pend := (v.get k).pend ||| causeBits cs } := by cases k <;> rfl

@[simp] theorem raiseAll_nil (v : PerLink Port) : raiseAll [] v = v := by simp [raiseAll, causeBits]

theorem causeBits_append (cs ds : List Notice) : causeBits (cs ++ ds) = causeBits cs ||| causeBits ds := by
  induction cs with
  | nil => exact BitVec.zero_or.symm
  | cons c cs ih =>
    have hcons : ∀ xs, causeBits (c :: xs) = c.bit ||| causeBits xs := fun _ => rfl
    rw [List.cons_append, hcons, hcons, ih, BitVec.or_assoc]

/-- Causes raised one list after the other. -/
theorem raiseAll_raiseAll (cs ds : List Notice) (v : PerLink Port) :
    raiseAll ds (raiseAll cs v) = raiseAll (cs ++ ds) v := by
  simp only [raiseAll, causeBits_append, BitVec.or_assoc]

/-- A notice changes the links alone (R198). -/
theorem notice_eq (c : Notice) (s : State) : notice c s = { s with lnk := raiseAll [c] s.lnk } := by
  simp only [notice_eq_raised, State.raised, raiseAll, Port.raise, causeBits, List.foldr, BitVec.or_zero]

/-- A state whose links are those of another with causes raised. -/
theorem raises_of_lnk (hlnk : u.lnk = raiseAll cs s.lnk) : s.Raises u fun _ => cs := fun k => by rw [hlnk, raiseAll_get]

/-- Only the set of the causes counts, not their order or number. -/
theorem State.Raises.congr {cs ds : Link → List Notice} (h : s.Raises u cs) (hbits : ∀ k, causeBits (cs k) = causeBits (ds k)) :
    s.Raises u ds := fun k => by rw [h k, hbits]

/-- The restart of the supervision changes the supervision timer alone (R164). -/
theorem superviseFrame_eq (l : Link) (s : State) :
    ∃ x, superviseFrame l s = { s with auth := { s.auth with supervision := x } } := by
  unfold superviseFrame
  split
  · exact ⟨_, rfl⟩
  · exact ⟨s.auth.supervision, rfl⟩

/-- The restart of the supervision leaves the holder (R164). -/
@[simp] theorem superviseFrame_holder (l : Link) (s : State) : (superviseFrame l s).auth.holder = s.auth.holder := by
  obtain ⟨x, hx⟩ := superviseFrame_eq l s
  rw [hx]

/-- A command is answered in a state that raises causes over the one it was taken in. -/
theorem answers_of_lnk {code : Byte} {st : Status} {bytes : List Byte} (hlnk : u.lnk = raiseAll cs s.lnk) :
    s.Answers (u.answered l tag code st bytes) l tag code st bytes fun _ => cs := (raises_of_lnk hlnk).answered

/-- A command is answered where other causes of the same bits are raised. -/
theorem answers_of_bits {code : Byte} {st : Status} {bytes : List Byte} (hlnk : u.lnk = raiseAll ds s.lnk)
    (hbits : causeBits ds = causeBits cs) :
    s.Answers (u.answered l tag code st bytes) l tag code st bytes fun _ => cs :=
  (answers_of_lnk hlnk).congr fun _ => hbits

end Causes

section AuthorityClass

variable {s t u : State} {l : Link} {tag : Byte} {i : Instr} {c : Cmd} {st : Status}

theorem runCmd_of_isAuthority (hcls : isAuthority c = true) : runCmd l tag c s = takeAuthority l tag c s := by
  cases c <;> first | rfl | cases hcls

theorem followUp_of_isAuthority (hcls : isAuthority c = true) : followUp c = .roof := by
  cases c <;> first | rfl | cases hcls

/-- The holder's command of the authority class runs by its own rule (R171). -/
theorem runCmd_of_holder (hcls : isAuthority c = true) (hheld : t.auth.holder = some l) :
    runCmd l tag c t = bare (runAuthority l c t) := by
  rw [runCmd_of_isAuthority hcls, takeAuthority, if_pos hheld]

/-- A command of the authority class refused to the holder on a free link. -/
theorem exec_authority_refused (hoff : i.offered = some (l, tag, c)) (hcls : isAuthority c = true) (hcmd : s.commands l)
    (hrun : runAuthority l c (superviseFrame l s) = (superviseFrame l s, st)) (heff : st.effective = false)
    (hst : st ≠ .illegalSequence) : exec i s = .next ((superviseFrame l s).answered l tag c.code st []) := by
  have hheld : (superviseFrame l s).auth.holder = some l := by rw [superviseFrame_holder, hcmd.2]
  refine exec_roof_refused hoff (followUp_of_isAuthority hcls) hcmd.1 ?_ heff hst
  rw [runCmd_of_holder hcls hheld, hrun]
  rfl

/-- A command of the roof that takes effect on a free link. -/
theorem exec_roof_acts {bytes : List Byte} (hoff : i.offered = some (l, tag, c)) (hroof : followUp c = .roof)
    (hfree : s.free l) (hrun : runCmd l tag c (superviseFrame l s) = (u, some (st, bytes))) (heff : st.effective = true) :
    exec i s = .next (settle (u.answered l tag c.code st bytes)) := by
  have hst : st ≠ .illegalSequence := fun h => by rw [h] at heff; cases heff
  rw [exec_free hoff hfree, takeCmd_answered hrun hst]
  simp only [follow, hroof, heff, if_true]

/-- A command of the authority class that takes effect for the holder on a free link. -/
theorem exec_authority_acts (hoff : i.offered = some (l, tag, c)) (hcls : isAuthority c = true) (hcmd : s.commands l)
    (hrun : runAuthority l c (superviseFrame l s) = (u, st)) (heff : st.effective = true) :
    exec i s = .next (settle (u.answered l tag c.code st [])) := by
  have hheld : (superviseFrame l s).auth.holder = some l := by rw [superviseFrame_holder, hcmd.2]
  refine exec_roof_acts hoff (followUp_of_isAuthority hcls) hcmd.1 ?_ heff
  rw [runCmd_of_holder hcls hheld, hrun]
  rfl

/-! The checks of the authority class read the roof, not the authority record. -/

@[simp] theorem superviseFrame_entryActive (l : Link) (s : State) : (superviseFrame l s).entryActive = s.entryActive := by
  rw [superviseFrame_auth]
  rfl

@[simp] theorem superviseFrame_serviceRefusal (l : Link) (s : State) :
    (superviseFrame l s).serviceRefusal = s.serviceRefusal := by
  rw [superviseFrame_auth]
  rfl

@[simp] theorem superviseFrame_roofRefusal (l : Link) (s : State) : (superviseFrame l s).roofRefusal = s.roofRefusal := by
  rw [superviseFrame_auth]
  rfl

@[simp] theorem superviseFrame_ch (l : Link) (s : State) (p : Pan) : (superviseFrame l s).ch p = s.ch p := by
  rw [superviseFrame_auth]
  rfl

@[simp] theorem superviseFrame_lines (l : Link) (s : State) : (superviseFrame l s).lines = s.lines := by
  rw [superviseFrame_auth]

@[simp] theorem superviseFrame_interlock (l : Link) (s : State) : (superviseFrame l s).interlock = s.interlock := by
  rw [superviseFrame_auth]
  rfl

@[simp] theorem superviseFrame_connectedLowered (l : Link) (s : State) :
    (superviseFrame l s).connectedLowered = s.connectedLowered := by
  rw [superviseFrame_auth]
  rfl

end AuthorityClass

/-- Settles O17. -/
theorem setFormationRecomputesOffsets : Obligations.SetFormationRecomputesOffsets := by
  intro l tag fA fB s hcmd hA hB hlocked
  obtain ⟨x, hx⟩ := superviseFrame_eq l s
  have hrun : cmdSetFormation fA fB (superviseFrame l s)
      = (recomputeOffsets ((superviseFrame l s).modTrv fun t => { t with fA := fA, fB := fB }), .ok) := by
    have hin : ¬ (Config.formationMax < fA ∨ Config.formationMax < fB) := by simp only [Config.formationMax]; omega
    unfold cmdSetFormation
    rw [superviseFrame_entryActive, hlocked, if_neg (fun h => nomatch h), if_neg hin]
  have hexec := exec_authority_acts (c := .setFormation fA fB) (i := .setFormation l tag fA fB) rfl rfl hcmd hrun rfl
  rw [hx] at hexec ⊢
  refine ⟨_, hexec, answers_of_lnk (raiseAll_nil _).symm, rfl, rfl, fun p => ?_, rfl, rfl⟩
  cases p <;> cases hend : s.auth.leading <;> simp [recomputeOffsets, State.offsetsNow, State.answered, offsetOf, hend] <;> rfl

section Forms

/-- A change of a channel with notice PAN (R38). -/
theorem changePan_eq (p : Pan) (f : Channel → Channel) (s : State) :
    changePan p f s = { s with pch := s.pch.set p (f (s.ch p)), lnk := raiseAll [.pan] s.lnk } := by
  rw [changePan, notice_eq]
  rfl

/-- A change of a state or a role with notice PAN and an evaluation of the scrape conditions (R38, R154). -/
theorem movePan_eq (p : Pan) (f : Channel → Channel) (s : State) :
    movePan p f s = { s with pch := s.pch.set p (f (s.ch p)), lnk := raiseAll [.pan] s.lnk, iceEval := true } := by
  rw [movePan, changePan_eq]
  rfl

/-- What a release from DROPPED does (R50, R158). -/
theorem resetDropped_eq (p : Pan) (s : State) : resetDropped p s = { s with
    pch := s.pch.set p { s.ch p with state := .lowered, role := none, below := 0 }
    ice := { s.ice with
      arcs := s.ice.arcs.set p .empty, block := if s.ice.block = some p then none else s.ice.block }
    lnk := raiseAll [.pan] s.lnk, iceEval := true } := by
  rw [resetDropped, movePan_eq]
  rfl

end Forms

/-- Settles O22. -/
theorem addResetReleasesADropped : Obligations.AddResetReleasesADropped := by
  intro l tag p s hcmd hsafe
  have hsafe' : (superviseFrame l s).seq.mode ≠ .roofSafe := by rwa [superviseFrame_seq]
  have hrun : ∀ t : State, t.seq.mode ≠ .roofSafe → runAuthority l (.addReset p.num) t =
      if (t.ch p).state ≠ .dropped then (t, .panUnavailable)
      else if !t.lines.lowered.get p then (t, .notQuiescent) else (resetDropped p t, .ok) := fun t ht => by
    simp only [runAuthority, cmdAddReset, if_neg ht, pan_ofNum_num]
  refine ⟨fun hdrop hlow => ?released, fun hdrop hlow => ?up, fun hdrop => ?other⟩
  case released =>
    have hact : runAuthority l (.addReset p.num) (superviseFrame l s) = (resetDropped p (superviseFrame l s), .ok) := by
      simp [hrun _ hsafe', hdrop, hlow]
    rw [resetDropped_eq] at hact
    have hexec := exec_authority_acts (i := .addReset l tag p.num) rfl rfl hcmd hact rfl
    obtain ⟨x, hx⟩ := superviseFrame_eq l s
    rw [hx] at hexec ⊢
    refine ⟨_, hexec, answers_of_lnk rfl, PerPan.get_set_same .., fun q hq => PerPan.get_set_ne _ _ hq, rfl, rfl⟩
  case up =>
    exact exec_authority_refused (c := .addReset p.num) rfl rfl hcmd (by simp [hrun _ hsafe', hdrop, hlow]) rfl
      (fun h => nomatch h)
  case other =>
    exact exec_authority_refused (c := .addReset p.num) rfl rfl hcmd (by simp [hrun _ hsafe', hdrop]) rfl
      (fun h => nomatch h)

section BreakerForms

variable {s : State} {b : Breaker} {l : Link}

/-- The breaker's last result where it reaches a state (R89). -/
def State.breakerEnds (s : State) (b : Breaker) : Option BreakerResult :=
  match (s.longOps.filter fun o => (breakerOutcome o.kind b).isSome).getLast? with
  | some o => some ⟨o.link, o.kind = .breakerClose, (breakerOutcome o.kind b).getD false⟩
  | none => s.bsc.breakerResult

/-- What the entry of the breaker into another state does (R78, R82, R88, R89). -/
theorem setBreaker_eq (hother : s.bsc.breaker ≠ b) : setBreaker b s = { s with
    bsc := { s.bsc with
      breaker := b, reclose := if b = .closed then false else s.bsc.reclose, breakerResult := s.breakerEnds b }
    lnk := raiseAll [.breaker] s.lnk
    longOps := s.longOps.filter fun o => (breakerOutcome o.kind b).isNone
    reports := s.reports ++ if b = .failed then [.breakerFailed] else [] } := by
  rw [setBreaker, if_neg hother, notice_eq]
  by_cases hfailed : b = .failed
  · rw [if_pos hfailed, if_pos hfailed]
    rfl
  · rw [if_neg hfailed, if_neg hfailed, List.append_nil]
    rfl

/-- No breaker operation ends while the breaker moves (R89). -/
theorem breakerOutcome_of_moves (hmoves : b = .opening ∨ b = .closing) (k : LongKind) : breakerOutcome k b = none := by
  rcases hmoves with rfl | rfl <;> cases k <;> rfl

/-- The breaker starts to move (R79, R80). -/
theorem setBreaker_moves (hother : s.bsc.breaker ≠ b) (hmoves : b = .opening ∨ b = .closing) : setBreaker b s =
    { s with bsc := { s.bsc with breaker := b }, lnk := raiseAll [.breaker] s.lnk } := by
  have hend : s.breakerEnds b = s.bsc.breakerResult := by
    simp [State.breakerEnds, breakerOutcome_of_moves hmoves]
  have hclosed : b ≠ .closed := by rcases hmoves with rfl | rfl <;> exact fun h => nomatch h
  have hfailed : b ≠ .failed := by rcases hmoves with rfl | rfl <;> exact fun h => nomatch h
  rw [setBreaker_eq hother, hend, if_neg hclosed, if_neg hfailed]
  simp [breakerOutcome_of_moves hmoves]

/-- The breaker starts to open (R79). -/
theorem startOpening_eq (hother : s.bsc.breaker ≠ .opening) : startOpening s =
    { s with bsc := { s.bsc with breaker := .opening, limitStart := s.clk.time }, lnk := raiseAll [.breaker] s.lnk } := by
  rw [startOpening]
  exact (setBreaker_moves (s := s.modBsc fun q => { q with limitStart := s.now }) hother (.inl rfl)).trans rfl

/-- An open request opens a breaker that is CLOSED or CLOSING (R79). -/
theorem openRequest_opens (hclosed : s.bsc.breaker = .closed ∨ s.bsc.breaker = .closing) : openRequest s =
    { s with bsc := { s.bsc with breaker := .opening, limitStart := s.clk.time }, lnk := raiseAll [.breaker] s.lnk } := by
  have hother : s.bsc.breaker ≠ .opening := by rcases hclosed with h | h <;> rw [h] <;> exact fun h => nomatch h
  rw [← startOpening_eq hother]
  unfold openRequest
  rcases hclosed with h | h <;> rw [h]

/-- An open request leaves a breaker in another state (R79). -/
theorem openRequest_stands (hopen : ¬ (s.bsc.breaker = .closed ∨ s.bsc.breaker = .closing)) : openRequest s = s := by
  unfold openRequest
  split
  · next h => exact absurd (.inr h) hopen
  · next h => exact absurd (.inl h) hopen
  all_goals rfl

/-- Traction-wanted set (R84). -/
theorem setTraction_eq (s : State) : setTraction s = { s with
    bsc := { s.bsc with traction := true }, lnk := raiseAll (if s.bsc.traction then [] else [.breaker]) s.lnk } := by
  unfold setTraction
  split
  · next h => rw [raiseAll_nil, ← h]
  · rw [notice_eq]
    rfl

/-- Traction-wanted cleared, with the auto-reclose (R84). -/
theorem clearTraction_eq (s : State) : clearTraction s = { s with
    bsc := { s.bsc with traction := false, reclose := false }
    lnk := raiseAll (if s.bsc.traction then [.breaker] else []) s.lnk } := by
  unfold clearTraction
  dsimp only
  split
  · rw [notice_eq]
    rfl
  · rw [raiseAll_nil]
    rfl

/-- BREAKER_CLOSE of an open breaker (R80, R89). -/
theorem breakerClose_closes (hser : s.serviceRefusal = none) (hlock : s.interlock = true) (hb : s.bsc.breaker = .opened) :
    runAuthority l .breakerClose s = ({ s with
      bsc := { s.bsc with breaker := .closing, limitStart := s.clk.time, traction := true }
      lnk := raiseAll ([.breaker] ++ if s.bsc.traction then [] else [.breaker]) s.lnk
      longOps := s.longOps ++ [⟨l, .breakerClose, false⟩] }, .accepted) := by
  have hother : s.bsc.breaker ≠ .closing := by rw [hb]; exact fun h => nomatch h
  have hstart : setBreaker .closing (s.modBsc fun q => { q with limitStart := s.now }) = { s with
      bsc := { s.bsc with breaker := .closing, limitStart := s.clk.time }, lnk := raiseAll [.breaker] s.lnk } :=
    (setBreaker_moves (s := s.modBsc fun q => { q with limitStart := s.now }) hother (.inr rfl)).trans rfl
  have hreq : closeRequest s = some { s with
      bsc := { s.bsc with breaker := .closing, limitStart := s.clk.time }, lnk := raiseAll [.breaker] s.lnk } := by
    rw [← hstart]
    unfold closeRequest
    rw [if_pos hlock, hb]
  simp only [runAuthority, cmdBreakerClose, hser, hreq, hb, reduceCtorEq, if_false, setTraction_eq, raiseAll_raiseAll]
  rfl

/-- BREAKER_CLOSE of a breaker whose demand is CLOSE (R80, R89). -/
theorem breakerClose_stays (hser : s.serviceRefusal = none) (hlock : s.interlock = true)
    (hb : s.bsc.breaker = .closed ∨ s.bsc.breaker = .closing) :
    runAuthority l .breakerClose s = ({ s with
      bsc := { s.bsc with traction := true }
      lnk := raiseAll (if s.bsc.traction then [] else [.breaker]) s.lnk
      longOps := s.longOps ++ if s.bsc.breaker = .closed then [] else [⟨l, .breakerClose, false⟩] },
      if s.bsc.breaker = .closed then .ok else .accepted) := by
  have hreq : closeRequest s = some s := by
    unfold closeRequest
    rw [if_pos hlock]
    rcases hb with h | h <;> rw [h]
  simp only [runAuthority, cmdBreakerClose, hser, hreq, setTraction_eq]
  by_cases hclosed : s.bsc.breaker = .closed
  · simp only [if_pos hclosed, List.append_nil]
  · simp only [if_neg hclosed]
    rfl

/-- BREAKER_CLOSE without the interlock, or of a breaker that opens or has failed (R80, R89). -/
theorem breakerClose_refused (hser : s.serviceRefusal = none)
    (hno : s.interlock = false ∨ s.bsc.breaker = .opening ∨ s.bsc.breaker = .failed) :
    runAuthority l .breakerClose s = (s, .interlock) := by
  have hreq : closeRequest s = none := by
    unfold closeRequest
    split
    · next hlock =>
      rcases hno with h | h | h
      · rw [hlock] at h; cases h
      · rw [h]
      · rw [h]
    · rfl
  simp only [runAuthority, cmdBreakerClose, hser, hreq]

/-- BREAKER_OPEN of a breaker whose demand is CLOSE (R79, R89). -/
theorem breakerOpen_opens (hroof : s.roofRefusal = none) (hb : s.bsc.breaker = .closed ∨ s.bsc.breaker = .closing) :
    runAuthority l .breakerOpen s = ({ s with
      bsc := { s.bsc with breaker := .opening, limitStart := s.clk.time, traction := false, reclose := false }
      lnk := raiseAll ((if s.bsc.traction then [.breaker] else []) ++ [.breaker]) s.lnk
      longOps := s.longOps ++ [⟨l, .breakerOpen, false⟩] }, .accepted) := by
  have hrun : runAuthority l .breakerOpen s = (openRequest (startLong l .breakerOpen (clearTraction s)), .accepted) := by
    simp only [runAuthority, cmdBreakerOpen, hroof]
    rcases hb with h | h <;> rw [h]
  rw [hrun, clearTraction_eq, openRequest_opens (by exact hb), ← raiseAll_raiseAll]
  rfl

/-- BREAKER_OPEN of a breaker that opens (R79, R89). -/
theorem breakerOpen_opening (hroof : s.roofRefusal = none) (hb : s.bsc.breaker = .opening) :
    runAuthority l .breakerOpen s = ({ s with
      bsc := { s.bsc with traction := false, reclose := false }
      lnk := raiseAll (if s.bsc.traction then [.breaker] else []) s.lnk
      longOps := s.longOps ++ [⟨l, .breakerOpen, false⟩] }, .accepted) := by
  have hrun : runAuthority l .breakerOpen s = (openRequest (startLong l .breakerOpen (clearTraction s)), .accepted) := by
    simp only [runAuthority, cmdBreakerOpen, hroof, hb]
  rw [hrun, clearTraction_eq, openRequest_stands]
  · rfl
  · exact fun h => by rcases h with h | h <;> exact nomatch hb.symm.trans h

/-- BREAKER_OPEN of a breaker that is OPEN or has failed (R79, R89). -/
theorem breakerOpen_rests (hroof : s.roofRefusal = none) (hb : s.bsc.breaker = .opened ∨ s.bsc.breaker = .failed) :
    runAuthority l .breakerOpen s = ({ s with
      bsc := { s.bsc with traction := false, reclose := false }
      lnk := raiseAll (if s.bsc.traction then [.breaker] else []) s.lnk }, .ok) := by
  have hrun : runAuthority l .breakerOpen s = (openRequest (clearTraction s), .ok) := by
    simp only [runAuthority, cmdBreakerOpen, hroof]
    rcases hb with h | h <;> rw [h]
  rw [hrun, clearTraction_eq, openRequest_stands]
  intro h
  rcases hb with hb | hb <;> rcases h with h | h <;> exact nomatch hb.symm.trans h

end BreakerForms

/-- Settles O23. -/
theorem breakerCommands : Obligations.BreakerCommands := by
  intro l tag s hcmd
  obtain ⟨x, hx⟩ := superviseFrame_eq l s
  have hbits : ∀ b : Bool, causeBits ([Notice.breaker] ++ if b then [] else [.breaker]) = causeBits [.breaker]
      ∧ causeBits ((if b then [Notice.breaker] else []) ++ [.breaker]) = causeBits [.breaker] := by decide
  refine ⟨fun hser hlock hb => ?closes, fun hser hlock hb => ?stays, fun hser hno => ?refused, fun hroof hb => ?opens,
    fun hroof hb => ?opening, fun hroof hb => ?rests⟩
  case closes =>
    have hexec := exec_authority_acts (i := .breakerClose l tag) rfl rfl hcmd
      (breakerClose_closes (by simpa) (by simpa) (by simpa)) rfl
    rw [hx] at hexec ⊢
    exact ⟨_, hexec, answers_of_bits rfl (hbits _).1, rfl, rfl, rfl, rfl⟩
  case stays =>
    have hexec := exec_authority_acts (i := .breakerClose l tag) rfl rfl hcmd
      (breakerClose_stays (by simpa) (by simpa) (by simpa)) (by split <;> rfl)
    rw [hx] at hexec ⊢
    exact ⟨_, hexec, answers_of_lnk rfl, rfl, rfl⟩
  case refused =>
    exact exec_authority_refused (i := .breakerClose l tag) rfl rfl hcmd (breakerClose_refused (by simpa) (by simpa)) rfl
      (fun h => nomatch h)
  case opens =>
    have hexec := exec_authority_acts (i := .breakerOpen l tag) rfl rfl hcmd (breakerOpen_opens (by simpa) (by simpa)) rfl
    rw [hx] at hexec ⊢
    exact ⟨_, hexec, answers_of_bits rfl (hbits _).2, rfl, rfl, rfl, rfl, rfl⟩
  case opening =>
    have hexec := exec_authority_acts (i := .breakerOpen l tag) rfl rfl hcmd (breakerOpen_opening (by simpa) (by simpa)) rfl
    rw [hx] at hexec ⊢
    exact ⟨_, hexec, answers_of_lnk rfl, rfl, rfl⟩
  case rests =>
    have hexec := exec_authority_acts (i := .breakerOpen l tag) rfl rfl hcmd (breakerOpen_rests (by simpa) (by simpa)) rfl
    rw [hx] at hexec ⊢
    exact ⟨_, hexec, answers_of_lnk rfl, rfl, rfl⟩

end Sys2Proof.Machine

/-! ### The authority class: the selector, ICE_MODE and HEAT, and the class checks (R53, R59, R60, R92, R150, R153, R171) -/

namespace Sys2Proof.Machine

section SelectorForms

variable {s : State} {l : Link} {q : SelPos} {src : Source}

theorem selPosOf_num (q : SelPos) : selPosOf (SelPos.num q) = some q := by
  cases q with
  | opened => rfl
  | sys y => cases y <;> rfl

/-- A move starts where no move is in progress, the breaker is OPEN and a move between classes finds the roof down (R90). -/
theorem requestMove_starts (hstill : ∀ p r, s.bsc.selector ≠ .moving p r) (helse : s.bsc.selector ≠ .rest q)
    (hopen : s.bsc.breaker = .opened)
    (hsafe : betweenClasses s.bsc.selector.leaves q = false ∨ s.connectedLowered = true) :
    requestMove q src s = ({ s with
      bsc := { s.bsc with selector := .moving s.bsc.selector.leaves q, moveStart := s.clk.time, moveSource := some src }
      lnk := raiseAll [.selector] s.lnk }, .started) := by
  have hguard : (betweenClasses s.bsc.selector.leaves q && !s.connectedLowered) = false := by
    rcases hsafe with h | h <;> simp [h]
  unfold requestMove
  split
  · next h => exact absurd h (hstill _ _)
  · rw [if_neg helse, if_neg (not_not.2 hopen), hguard, if_neg (fun h => nomatch h), notice_eq]
    rfl

theorem requestMove_atPosition (hrest : s.bsc.selector = .rest q) : requestMove q src s = (s, .atPosition) := by
  unfold requestMove
  rw [hrest]
  exact if_pos rfl

theorem requestMove_refused (hno : (∃ p r, s.bsc.selector = .moving p r) ∨ s.bsc.selector ≠ .rest q ∧
      (s.bsc.breaker ≠ .opened ∨ betweenClasses s.bsc.selector.leaves q = true ∧ s.connectedLowered = false)) :
    requestMove q src s = (s, .refused) := by
  unfold requestMove
  split
  · rfl
  · next hstill =>
    rcases hno with ⟨p, r, h⟩ | ⟨helse, hno⟩
    · exact absurd h (hstill _ _)
    · rw [if_neg helse]
      split
      · rfl
      · next hopen =>
        rcases hno with h | ⟨hbetween, hup⟩
        · exact absurd h hopen
        · rw [hbetween, hup]
          rfl

theorem runAuthority_select (hser : s.serviceRefusal = none) : runAuthority l (.select (SelPos.num q)) s =
    match requestMove q (.authority l) s with
    | (t, .refused) => (t, .interlock)
    | (t, .atPosition) => (t, .ok)
    | (t, .started) => (startLong l .select t, .accepted) := by
  simp only [runAuthority, cmdSelect, hser, selPosOf_num] <;> rfl

end SelectorForms

/-- Settles O24. -/
theorem selectMovesTheSelector : Obligations.SelectMovesTheSelector := by
  intro l tag q s hcmd hser
  obtain ⟨x, hx⟩ := superviseFrame_eq l s
  have hrun := runAuthority_select (l := l) (q := q) (s := superviseFrame l s) (by simpa)
  refine ⟨fun hstill helse hopen hsafe => ?starts, fun hrest => ?rests, fun hno => ?refused⟩
  case starts =>
    rw [requestMove_starts (by simpa) (by simpa) (by simpa) (by simpa)] at hrun
    have hexec := exec_authority_acts (i := .select l tag (SelPos.num q)) rfl rfl hcmd hrun rfl
    rw [hx] at hexec ⊢
    exact ⟨_, hexec, answers_of_lnk rfl, rfl, rfl, rfl⟩
  case rests =>
    rw [requestMove_atPosition (by simpa)] at hrun
    exact exec_authority_acts (c := .select (SelPos.num q)) rfl rfl hcmd hrun rfl
  case refused =>
    rw [requestMove_refused (by simpa)] at hrun
    exact exec_authority_refused (c := .select (SelPos.num q)) rfl rfl hcmd hrun rfl (fun h => nomatch h)

section IceForms

variable {s : State} {l : Link}

/-- The causes of a change of the ice state (R148). -/
def iceCauses (before after : IceState) (resp : SuspectResponse) : List Notice :=
  match before, after with
  | .watch, .suspect | .suspect, .watch => if resp = .nothing then [] else [.ice]
  | _, _ => [.ice]

theorem iceNotice_eq (before after : IceState) (resp : SuspectResponse) (s : State) :
    iceNotice before after resp s = { s with lnk := raiseAll (iceCauses before after resp) s.lnk } := by
  cases before <;> cases after <;> by_cases hresp : resp = .nothing <;>
    simp [iceNotice, iceCauses, hresp, notice_eq]

/-- What a change of the ice state does (R148). -/
theorem setIceState_eq {y : IceState} (hother : s.ice.state ≠ y) : setIceState y s = { s with
    ice := { s.ice with
      state := y, clearDwell := none
      noPanReported := if y = .confirmed then false else s.ice.noPanReported
      failedSet := if s.ice.state = .confirmed then .all false else s.ice.failedSet }
    lnk := raiseAll (iceCauses s.ice.state y s.ice.susResp) s.lnk, iceEval := true } := by
  rw [setIceState, if_neg hother, iceNotice_eq]
  rfl

/-- What ICE_MODE does (R148, R150). -/
theorem takeIceMode_eq (on permit : Bool) (us : SuspectResponse) (cr : ConfirmedResponse) (s : State) : ∃ dwell reported,
    takeIceMode on us cr permit s = { s with
      ice := { s.ice with
        susResp := us, confResp := cr, permit := permit, failedSet := .all false
        state := if on then (if s.ice.state = .off then .watch else s.ice.state) else .off
        clearDwell := dwell, noPanReported := reported }
      lnk := raiseAll (if (if on then (if s.ice.state = .off then .watch else s.ice.state) else .off) = s.ice.state
        then [] else [.ice]) s.lnk
      iceEval := true } := by
  have hset : ∀ y, s.ice.state ≠ y → iceCauses s.ice.state y us = [.ice] →
      ∃ dwell reported, setIceState y ((s.modIce fun i =>
        { i with susResp := us, confResp := cr, permit := permit, failedSet := .all false }).setIceEval true) = { s with
        ice := { s.ice with
          susResp := us, confResp := cr, permit := permit, failedSet := .all false, state := y
          clearDwell := dwell, noPanReported := reported }
        lnk := raiseAll [.ice] s.lnk, iceEval := true } := fun y hy hcauses => by
    refine ⟨none, if y = .confirmed then false else s.ice.noPanReported, ?_⟩
    rw [setIceState_eq (by exact hy)]
    simp [State.setIceEval, State.modIce, hcauses]
    exact ite_self _
  cases on <;> cases hstate : s.ice.state <;> simp only [takeIceMode, State.setIceEval_ice, State.modIce_ice, hstate]
  case false.off => 
    exact ⟨s.ice.clearDwell, s.ice.noPanReported, by
      rw [setIceState, if_pos (by exact hstate)]; simp [hstate, State.setIceEval, State.modIce]⟩
  case true.off =>
    obtain ⟨dwell, reported, heq⟩ := hset .watch (by simp [hstate]) (by simp [hstate, iceCauses])
    exact ⟨dwell, reported, by simpa [hstate] using heq⟩
  case true.watch | true.suspect | true.confirmed =>
    exact ⟨s.ice.clearDwell, s.ice.noPanReported, by simp [State.setIceEval, State.modIce, hstate]⟩
  all_goals
    obtain ⟨dwell, reported, heq⟩ := hset .off (by simp [hstate]) (by simp [hstate, iceCauses])
    exact ⟨dwell, reported, by simpa [hstate] using heq⟩

/-- ICE_MODE in service with operands in range (R150). -/
theorem runAuthority_iceMode {e v x w : Nat} {on permit : Bool} {us : SuspectResponse} {cr : ConfirmedResponse}
    (hmode : s.seq.mode = .inService) (he : pairOf e = some on) (hv : suspectOf v = some us) (hx : confirmedOf x = some cr)
    (hw : pairOf w = some permit) :
    runAuthority l (.iceMode e v x w) s = (takeIceMode on us cr permit s, .ok) := by
  simp only [runAuthority, cmdIceMode, hmode, he, hv, hx, hw]
  rfl

/-- HEAT with operands in range (R153). -/
theorem runAuthority_heat {p : Pan} {o : Nat} {on : Bool} (hsafe : s.seq.mode ≠ .roofSafe) (ho : pairOf o = some on) :
    runAuthority l (.heat p.num o) s =
      if on = true ∧ (s.ch p).state = .isolated then (s, .panUnavailable)
      else ({ s with ice := { s.ice with heaters := s.ice.heaters.set p { s.ice.heaters.get p with manual := on } } },
        .ok) := by
  simp only [runAuthority, cmdHeat, if_neg hsafe, pan_ofNum_num, ho]
  rfl

end IceForms

/-- Settles O25. -/
theorem iceModeAndHeat : Obligations.IceModeAndHeat := by
  intro l tag s hcmd
  obtain ⟨y, hy⟩ := superviseFrame_eq l s
  refine ⟨fun e v x w on permit us cr hmode he hv hcr hw => ?mode, fun p o on hsafe ho hok => ?heats,
    fun p hsafe hiso => ?refused⟩
  case mode =>
    have hact := runAuthority_iceMode (l := l) (s := superviseFrame l s) (by simpa) he hv hcr hw
    obtain ⟨dwell, reported, heq⟩ := takeIceMode_eq on permit us cr (superviseFrame l s)
    rw [heq] at hact
    have hexec := exec_authority_acts (i := .iceMode l tag e v x w) rfl rfl hcmd hact rfl
    rw [hy] at hexec ⊢
    refine ⟨_, hexec, ?_, rfl, rfl, rfl, rfl, rfl, rfl⟩
    exact answers_of_lnk rfl
  case heats =>
    have hact := runAuthority_heat (l := l) (p := p) (s := superviseFrame l s) (by simpa) ho
    rw [if_neg (fun h => hok h.1 (by simpa using h.2))] at hact
    have hexec := exec_authority_acts (i := .heat l tag p.num o) rfl rfl hcmd hact rfl
    rw [hy] at hexec ⊢
    refine ⟨_, hexec, answers_of_lnk (raiseAll_nil _).symm, ?_, ?_, fun q hq => PerPan.get_set_ne _ _ hq, rfl⟩
    · exact congrArg Heater.manual (PerPan.get_set_same ..)
    · exact (congrArg Heater.out (PerPan.get_set_same s.ice.heaters p _)).trans rfl
  case refused =>
    have hact := runAuthority_heat (l := l) (p := p) (o := 1) (s := superviseFrame l s) (by simpa) rfl
    rw [if_pos ⟨rfl, by simpa using hiso⟩] at hact
    exact exec_authority_refused (c := .heat p.num 1) rfl rfl hcmd hact rfl (fun h => nomatch h)

end Sys2Proof.Machine

/-! ### Class checks, ICE_WEATHER, FAULT_CLEAR and the integer square root (R25, R53, R147, R169, R171, R201) -/

namespace Sys2Proof.Machine

section Checks

variable {s t u : State} {l : Link} {tag : Byte} {i : Instr} {c : Cmd} {st : Status} {xs : List (Prop × Status)} {r : Option Status}

/-- The first unmet condition is one. -/
theorem FirstUnmet.unique {r' : Option Status} : ∀ {xs}, FirstUnmet xs r → FirstUnmet xs r' → r = r'
  | [], h, k => h.trans k.symm
  | _ :: _, .inl ⟨_, h⟩, .inl ⟨_, k⟩ => FirstUnmet.unique h k
  | _ :: _, .inr ⟨_, h⟩, .inr ⟨_, k⟩ => h.trans k.symm
  | _ :: _, .inl ⟨h, _⟩, .inr ⟨k, _⟩ => absurd h k
  | _ :: _, .inr ⟨h, _⟩, .inl ⟨k, _⟩ => absurd k h

/-- A test before others. -/
theorem firstUnmet_ite {p : Prop} {b : Prop} [Decidable b] (hb : b ↔ ¬ p) (hrest : FirstUnmet xs r) :
    FirstUnmet ((p, st) :: xs) (if b then some st else r) := by
  by_cases h : b
  · rw [if_pos h]
    exact .inr ⟨hb.1 h, rfl⟩
  · rw [if_neg h]
    exact .inl ⟨not_not.1 fun k => h (hb.2 k), hrest⟩

theorem firstUnmet_nil : FirstUnmet [] none := rfl

/-- No condition is unmet where all are met. -/
theorem firstUnmet_none_iff : ∀ {xs}, FirstUnmet xs none ↔ ∀ x ∈ xs, x.1
  | [] => by simp [FirstUnmet]
  | x :: xs => by simp [FirstUnmet, firstUnmet_none_iff (xs := xs)]

theorem entryActive_iff (s : State) : s.entryActive = true ↔ ¬ ∀ e ∈ s.map.entries, e.state ≠ .active := by
  simp [State.entryActive, State.activeEntry]

theorem serviceRefusal_first (s : State) : FirstUnmet [s.notPending, s.notSafe, s.notLocked] s.serviceRefusal :=
  firstUnmet_ite not_not.symm (firstUnmet_ite not_not.symm (firstUnmet_ite (entryActive_iff s) firstUnmet_nil))

theorem roofRefusal_first (s : State) : FirstUnmet [s.notSafe, s.notLocked] s.roofRefusal :=
  firstUnmet_ite not_not.symm (firstUnmet_ite (entryActive_iff s) firstUnmet_nil)

/-- The reasons of conditions that refuse are refusals. -/
theorem FirstUnmet.refuses : ∀ {xs}, FirstUnmet xs (some st) →
    (∀ x ∈ xs, x.2.effective = false ∧ x.2 ≠ .illegalSequence) → st.effective = false ∧ st ≠ .illegalSequence
  | [], h, _ => nomatch h
  | _ :: _, .inl ⟨_, h⟩, hall => FirstUnmet.refuses h fun x hx => hall x (.tail _ hx)
  | _ :: _, .inr ⟨_, h⟩, hall => Option.some.inj h ▸ hall _ (.head _)

/-! The refusals of the authority class. -/

theorem runAuthority_service_refused (hser : t.serviceRefusal = some st) (n x : Nat) :
    runAuthority l (.raise n x) t = (t, st) ∧ runAuthority l .breakerClose t = (t, st)
      ∧ runAuthority l (.select n) t = (t, st) := by
  simp [runAuthority, cmdRaise, cmdBreakerClose, cmdSelect, hser]

theorem runAuthority_roof_refused (hroof : t.roofRefusal = some st) (n x : Nat) :
    runAuthority l (.lower n) t = (t, st) ∧ runAuthority l (.discSet n x) t = (t, st)
      ∧ runAuthority l .breakerOpen t = (t, st) := by
  simp [runAuthority, cmdLower, cmdDiscSet, cmdBreakerOpen, hroof]

theorem dutyOf_eq_none {n : Nat} : dutyOf n = none ↔ n = 0 ∨ 3 ≤ n := by
  rcases n with _ | _ | _ | n <;> simp [dutyOf]

theorem discPosOf_eq_none {n : Nat} : discPosOf n = none ↔ n = 0 ∨ 3 ≤ n := by
  rcases n with _ | _ | _ | n <;> simp [discPosOf]

theorem selPosOf_eq_none {n : Nat} : selPosOf n = none ↔ n = 0 ∨ 6 ≤ n := by
  rcases n with _ | _ | _ | _ | _ | _ | n <;> simp [selPosOf]

theorem pairOf_isSome {n : Nat} : (∃ b, pairOf n = some b) ↔ n = 1 ∨ n = 2 := by
  rcases n with _ | _ | _ | n <;> simp [pairOf]

theorem suspectOf_isSome {n : Nat} : (∃ b, suspectOf n = some b) ↔ 1 ≤ n ∧ n ≤ 3 := by
  rcases n with _ | _ | _ | _ | n <;> simp [suspectOf]

theorem confirmedOf_isSome {n : Nat} : (∃ b, confirmedOf n = some b) ↔ 1 ≤ n ∧ n ≤ 3 := by
  rcases n with _ | _ | _ | _ | n <;> simp [confirmedOf]

theorem pan_ofNum_isSome {n : Nat} : (∃ p, Pan.ofNum n = some p) ↔ 1 ≤ n ∧ n ≤ 4 := by
  rw [← Option.ne_none_iff_exists', Ne, pan_ofNum_eq_none]
  omega

theorem eq_none_of_not_some {α : Type} {o : Option α} (h : ¬ ∃ x, o = some x) : o = none :=
  not_not.1 fun k => h (Option.ne_none_iff_exists'.1 k)

theorem runAuthority_raise_badOperand {n x : Nat} (hser : t.serviceRefusal = none) (hbad : n = 0 ∨ 5 ≤ n ∨ x = 0 ∨ 3 ≤ x) :
    runAuthority l (.raise n x) t = (t, .badOperand) := by
  have hnone : Pan.ofNum n = none ∨ dutyOf x = none := by rw [pan_ofNum_eq_none, dutyOf_eq_none]; omega
  simp only [runAuthority, cmdRaise, hser]
  rcases hnone with h | h
  · rw [h]
  · rw [h]
    split <;> simp_all

theorem runAuthority_discSet_badOperand {n x : Nat} (hroof : t.roofRefusal = none)
    (hbad : n = 0 ∨ 5 ≤ n ∨ x = 0 ∨ 3 ≤ x) : runAuthority l (.discSet n x) t = (t, .badOperand) := by
  have hnone : Pan.ofNum n = none ∨ discPosOf x = none := by rw [pan_ofNum_eq_none, discPosOf_eq_none]; omega
  simp only [runAuthority, cmdDiscSet, hroof]
  rcases hnone with h | h
  · rw [h]
  · rw [h]
    split <;> simp_all

theorem runAuthority_select_badOperand {n : Nat} (hser : t.serviceRefusal = none) (hbad : n = 0 ∨ 6 ≤ n) :
    runAuthority l (.select n) t = (t, .badOperand) := by
  simp only [runAuthority, cmdSelect, hser, selPosOf_eq_none.2 hbad]

theorem runAuthority_lower_badOperand {n : Nat} (hroof : t.roofRefusal = none) (hbad : n = 0 ∨ 5 ≤ n) :
    runAuthority l (.lower n) t = (t, .badOperand) := by
  simp only [runAuthority, cmdLower, hroof, pan_ofNum_eq_none.2 hbad]

theorem runAuthority_setFormation_refused {n x : Nat}
    (hfirst : FirstUnmet [t.notLocked, (n ≤ 500000 ∧ x ≤ 500000, .badOperand)] (some st)) :
    runAuthority l (.setFormation n x) t = (t, st) := by
  have hbad : (Config.formationMax < n ∨ Config.formationMax < x) ↔ ¬ (n ≤ 500000 ∧ x ≤ 500000) := by
    simp only [Config.formationMax]
    omega
  have hst := (firstUnmet_ite (entryActive_iff t) (firstUnmet_ite hbad firstUnmet_nil)).unique hfirst
  simp only [runAuthority, cmdSetFormation]
  split at hst
  · next h => rw [if_pos h, ← Option.some.inj hst]
  · next h =>
    rw [if_neg h]
    split at hst
    · next k => rw [if_pos k, ← Option.some.inj hst]
    · cases hst

theorem runAuthority_addReset_refused {n : Nat}
    (hfirst : FirstUnmet [t.notSafe, (1 ≤ n ∧ n ≤ 4, .badOperand)] (some st)) :
    runAuthority l (.addReset n) t = (t, st) := by
  simp only [runAuthority, cmdAddReset]
  rcases hfirst with ⟨hsafe, ⟨_, h⟩ | ⟨hbad, hst⟩⟩ | ⟨hsafe, hst⟩
  · cases h
  · obtain rfl : st = .badOperand := Option.some.inj hst
    rw [if_neg hsafe, eq_none_of_not_some fun k => hbad (pan_ofNum_isSome.1 k)]
  · obtain rfl : st = .roofSafe := Option.some.inj hst
    rw [if_pos (not_not.1 hsafe)]

theorem runAuthority_heat_refused {n x : Nat}
    (hfirst : FirstUnmet [t.notSafe, ((1 ≤ n ∧ n ≤ 4) ∧ (x = 1 ∨ x = 2), .badOperand)] (some st)) :
    runAuthority l (.heat n x) t = (t, st) := by
  simp only [runAuthority, cmdHeat]
  rcases hfirst with ⟨hsafe, ⟨_, h⟩ | ⟨hbad, hst⟩⟩ | ⟨hsafe, hst⟩
  · cases h
  · obtain rfl : st = .badOperand := Option.some.inj hst
    rw [if_neg hsafe]
    split
    · next hn hx => exact absurd ⟨pan_ofNum_isSome.1 ⟨_, hn⟩, pairOf_isSome.1 ⟨_, hx⟩⟩ hbad
    all_goals rfl
  · obtain rfl : st = .roofSafe := Option.some.inj hst
    rw [if_pos (not_not.1 hsafe)]

theorem runAuthority_iceMode_refused {n v x w : Nat} (hfirst : FirstUnmet [t.notPending, t.notSafe,
      ((n = 1 ∨ n = 2) ∧ (1 ≤ v ∧ v ≤ 3) ∧ (1 ≤ x ∧ x ≤ 3) ∧ (w = 1 ∨ w = 2), .badOperand)] (some st)) :
    runAuthority l (.iceMode n v x w) t = (t, st) := by
  simp only [runAuthority, cmdIceMode]
  rcases hfirst with ⟨hpend, ⟨hsafe, ⟨_, h⟩ | ⟨hbad, hst⟩⟩ | ⟨hsafe, hst⟩⟩ | ⟨hpend, hst⟩
  · cases h
  · obtain rfl : st = .badOperand := Option.some.inj hst
    rw [if_neg hpend, if_neg hsafe]
    split
    · next hn hv hx hw =>
      exact absurd ⟨pairOf_isSome.1 ⟨_, hn⟩, suspectOf_isSome.1 ⟨_, hv⟩, confirmedOf_isSome.1 ⟨_, hx⟩,
        pairOf_isSome.1 ⟨_, hw⟩⟩ hbad
    · rfl
  · obtain rfl : st = .roofSafe := Option.some.inj hst
    rw [if_neg hpend, if_pos (not_not.1 hsafe)]
  · obtain rfl : st = .notConfigured := Option.some.inj hst
    rw [if_pos (not_not.1 hpend)]

/-! Senders without the authority (R169, R171). -/

/-- A frame of a link that does not hold the authority leaves the supervision (R164). -/
theorem superviseFrame_of_other (hother : s.auth.holder ≠ some l) : superviseFrame l s = s := by
  unfold superviseFrame
  exact if_neg fun h => hother h.1

theorem takeAuthority_denied (hother : s.auth.holder ≠ some l)
    (hno : s.auth.requester ≠ some l ∨ s.auth.parked ≠ none) : takeAuthority l tag c s = refuse s .authNotHeld := by
  unfold takeAuthority
  rw [if_neg hother]
  split
  · next hreq =>
    obtain ⟨p, hp⟩ := Option.ne_none_iff_exists'.1 (hno.resolve_left fun h => h hreq)
    simp only [bare, park, hp]
    rfl
  · rfl

theorem takeAuthority_parks (hother : s.auth.holder ≠ some l) (hreq : s.auth.requester = some l)
    (hfree : s.auth.parked = none) : takeAuthority l tag c s =
      ({ s with auth := { s.auth with parked := some ⟨c, tag⟩ } }, some (.queued, [])) := by
  unfold takeAuthority
  rw [if_neg hother, if_pos hreq]
  simp only [bare, park, hfree]
  rfl

end Checks

/-- Settles O16: each row's refusals by the lemma of its command, in the state with the supervision restarted. -/
theorem authorityClassCheck : Obligations.AuthorityClassCheck := by
  refine ⟨fun i l tag c s hoff hcls hfree hother => ⟨fun hreq => ?denied, fun hreq hpark => ?parks, fun hreq hpark => ?full⟩,
    fun l tag n x s hcmd => ?held, fun s => ⟨serviceRefusal_first s, roofRefusal_first s⟩⟩
  case denied =>
    rw [exec_free hoff hfree, superviseFrame_of_other hother, takeCmd_answered
      ((runCmd_of_isAuthority hcls).trans (takeAuthority_denied hother (.inl hreq))) (fun h => nomatch h)]
    simp [follow, followUp_of_isAuthority hcls, Status.effective]
  case full =>
    rw [exec_free hoff hfree, superviseFrame_of_other hother, takeCmd_answered
      ((runCmd_of_isAuthority hcls).trans (takeAuthority_denied hother (.inr hpark))) (fun h => nomatch h)]
    simp [follow, followUp_of_isAuthority hcls, Status.effective]
  case parks =>
    rw [exec_free hoff hfree, superviseFrame_of_other hother, takeCmd_answered
      ((runCmd_of_isAuthority hcls).trans (takeAuthority_parks hother hreq hpark)) (fun h => nomatch h)]
    simp [follow, followUp_of_isAuthority hcls, Status.effective]
  case held =>
    obtain ⟨y, hy⟩ := superviseFrame_eq l s
    have refused : ∀ (i : Instr) (c : Cmd) (st : Status), i.offered = some (l, tag, c) → isAuthority c = true →
        runAuthority l c (superviseFrame l s) = (superviseFrame l s, st) → st.effective = false ∧ st ≠ .illegalSequence →
        exec i s = .next ((superviseFrame l s).answered l tag c.code st []) := fun i c st hoff hcls hrun hst =>
      exec_authority_refused hoff hcls hcmd hrun hst.1 hst.2
    have hreason : ∀ xs : List (Prop × Status), (∀ x ∈ xs, x.2 ∈ [Status.notConfigured, .roofSafe, .entryLocked, .badOperand]) →
        ∀ x ∈ xs, x.2.effective = false ∧ x.2 ≠ .illegalSequence := fun xs hall x hx => by
      have hmem := hall x hx
      simp only [List.mem_cons, List.not_mem_nil, or_false] at hmem
      rcases hmem with h | h | h | h <;> rw [h] <;> exact ⟨rfl, fun h => nomatch h⟩
    have hservice := hreason [s.notPending, s.notSafe, s.notLocked] (by simp [State.notPending, State.notSafe, State.notLocked])
    have hroofed := hreason [s.notSafe, s.notLocked] (by simp [State.notSafe, State.notLocked])
    refine ⟨fun st hser => ?_, fun st hroof => ?_, fun hser hbad => ?_, fun hser hbad => ?_, fun hroof hbad => ?_,
      fun hroof hbad => ?_, fun st hfirst => ?_, fun st hfirst => ?_, fun st hfirst => ?_, fun v w st hfirst => ?_⟩
    · have hst := FirstUnmet.refuses (hser ▸ serviceRefusal_first s) hservice
      obtain ⟨hraise, hclose, hselect⟩ := runAuthority_service_refused (l := l) (t := superviseFrame l s) (by simpa) n x
      exact ⟨refused _ (.raise n x) st rfl rfl hraise hst, refused _ .breakerClose st rfl rfl hclose hst,
        refused _ (.select n) st rfl rfl hselect hst⟩
    · have hst := FirstUnmet.refuses (hroof ▸ roofRefusal_first s) hroofed
      obtain ⟨hlower, hdisc, hopen⟩ := runAuthority_roof_refused (l := l) (t := superviseFrame l s) (by simpa) n x
      exact ⟨refused _ (.lower n) st rfl rfl hlower hst, refused _ (.discSet n x) st rfl rfl hdisc hst,
        refused _ .breakerOpen st rfl rfl hopen hst⟩
    · exact refused _ (.raise n x) _ rfl rfl (runAuthority_raise_badOperand (by simpa) hbad) ⟨rfl, fun h => nomatch h⟩
    · exact refused _ (.select n) _ rfl rfl (runAuthority_select_badOperand (by simpa) hbad) ⟨rfl, fun h => nomatch h⟩
    · exact refused _ (.lower n) _ rfl rfl (runAuthority_lower_badOperand (by simpa) hbad) ⟨rfl, fun h => nomatch h⟩
    · exact refused _ (.discSet n x) _ rfl rfl (runAuthority_discSet_badOperand (by simpa) hbad) ⟨rfl, fun h => nomatch h⟩
    · exact refused _ (.setFormation n x) st rfl rfl (runAuthority_setFormation_refused (by rw [hy]; exact hfirst))
        (hfirst.refuses (hreason _ (by simp [State.notLocked])))
    · exact refused _ (.addReset n) st rfl rfl (runAuthority_addReset_refused (by rw [hy]; exact hfirst))
        (hfirst.refuses (hreason _ (by simp [State.notSafe])))
    · exact refused _ (.heat n x) st rfl rfl (runAuthority_heat_refused (by rw [hy]; exact hfirst))
        (hfirst.refuses (hreason _ (by simp [State.notSafe])))
    · exact refused _ (.iceMode n v x w) st rfl rfl (runAuthority_iceMode_refused (by rw [hy]; exact hfirst))
        (hfirst.refuses (hreason _ (by simp [State.notSafe, State.notPending])))

section WeatherAndFault

variable {s t u : State} {l : Link} {tag : Byte}

/-- What the weather flag does to level 1 and the release timer (R146, R147). -/
theorem setWeather_eq (on : Bool) (now : Time) (i : Ice) : i.setWeather on now = { i with
    weather := on
    releaseStart := if (i.run = 60 ∨ i.weather = true) ∧ i.run ≠ 60 ∧ on = false then now else i.releaseStart
    releaseReached := if i.run = 60 ∨ i.weather = true ∨ on = true then false else i.releaseReached } := by
  have hlevel : ∀ j : Ice, j.level1 = (decide (j.run = 60) || j.weather) := fun _ => rfl
  unfold Ice.setWeather Ice.relevel
  simp only [hlevel]
  by_cases hrun : i.run = 60 <;> cases on <;> cases i.weather <;> simp [hrun]

/-- What reactions keep, field by field. -/
theorem Kept.fields (h : Kept s t) : t.cfg = s.cfg ∧ t.lines = s.lines ∧ t.ldet = s.ldet ∧ t.clk = s.clk
    ∧ t.trv.still = s.trv.still ∧ t.ice.still = s.ice.still ∧ t.map.nextId = s.map.nextId ∧ t.pending = s.pending := by
  have hstill := h.still
  simp only [State.still, State.mk.injEq, RouteMap.mk.injEq] at hstill
  obtain ⟨hclk, hlines, hcfg, htrv, hldet, -, -, -, hmap, -, hice, -, -, -, -, -, -, -, -, hpend⟩ := hstill
  exact ⟨hcfg, hlines, hldet, hclk, htrv, hice, hmap.2.1, hpend⟩

/-- A response handed with an answer stands in the transmitter behind the reactions. -/
theorem response_settled {code : Byte} {st : Status} {bytes : List Byte} (hlnk : (u.lnk.get l).tx = (s.lnk.get l).tx) :
    (s.lnk.get l).tx ++ [.response code tag st bytes] <+: ((settle (u.answered l tag code st bytes)).lnk.get l).tx := by
  have hkept : Kept (u.answered l tag code st bytes) (settle (u.answered l tag code st bytes)) := (Kept.refl _).settle
  refine List.IsPrefix.trans ?_ (hkept.tx l)
  simp [State.answered, hlnk]

end WeatherAndFault

/-- Settles O32. -/
theorem weatherAndFaultClear : Obligations.WeatherAndFaultClear := by
  intro l tag s hfree
  obtain ⟨x, hx⟩ := superviseFrame_eq l s
  refine ⟨fun o on hm hsafe ho => ?weather, fun o hm => ?notM, fun o hm hsafe => ?safe, fun o hm hsafe h1 h2 => ?bad,
    fun hheld => ?clear, fun hheld => ?notHeld⟩
  case weather =>
    have hrun : runCmd l tag (.iceWeather o) (superviseFrame l s)
        = query { superviseFrame l s with ice := s.ice.setWeather on s.clk.time } [] := by
      rw [hx]
      simp only [runCmd, cmdIceWeather, ho, ne_eq, hm, not_true_eq_false, if_false, if_neg hsafe]
      rfl
    have hexec := exec_roof_ok (r := .iceWeather l tag o) rfl rfl hfree hrun
    rw [setWeather_eq] at hexec
    refine ⟨_, _, hexec, rfl, ?_⟩
    generalize hu : State.answered _ l tag (Cmd.iceWeather o).code .ok [] = u
    obtain ⟨hcfg, hlines, hldet, -, htrv, hice, -⟩ := ((Kept.refl u).settle).fields
    simp only [Ice.still, Ice.mk.injEq, Travel.still, Travel.mk.injEq] at hice htrv
    obtain ⟨-, -, -, -, -, htemp, -, -, hrun, hweather, -⟩ := hice
    rw [hcfg, hlines, hldet, htrv.1, htemp, hrun, hweather]
    subst hu
    rw [hx]
    exact ⟨rfl, rfl, rfl, rfl, rfl, rfl, rfl, response_settled rfl, answers_of_lnk (raiseAll_nil _).symm, rfl, rfl⟩
  case notM =>
    exact exec_roof_refused (x := .iceWeather o) rfl rfl hfree (by simp [runCmd, cmdIceWeather, hm]) rfl (fun h => nomatch h)
  case safe =>
    exact exec_roof_refused (x := .iceWeather o) rfl rfl hfree (by simp [runCmd, cmdIceWeather, hm, hsafe]) rfl
      (fun h => nomatch h)
  case bad =>
    exact exec_roof_refused (x := .iceWeather o) rfl rfl hfree
      (by simp [runCmd, cmdIceWeather, hm, hsafe, pairOf_of_other h1 h2]) rfl (fun h => nomatch h)
  case clear =>
    have hrun : runCmd l tag .faultClear (superviseFrame l s) = query { superviseFrame l s with fault := none } [] := by
      simp only [runCmd, cmdFaultClear, superviseFrame_holderOrM, hheld]
      rfl
    have hexec := exec_roof_ok (r := .faultClear l tag) rfl rfl hfree hrun
    rw [hx] at hexec ⊢
    exact ⟨_, hexec, answers_of_lnk (raiseAll_nil _).symm, rfl, rfl⟩
  case notHeld =>
    exact exec_roof_refused (x := .faultClear) rfl rfl hfree (by simp [runCmd, cmdFaultClear, hheld]) rfl (fun h => nomatch h)

section SquareRoot

/-- The digits of the root from one down: what the digits before it leave is closed by them (R25). -/
theorem isqrtFrom_spec (n : Nat) : ∀ k r, r * r ≤ n → n < (r + 2 ^ k) * (r + 2 ^ k) →
    isqrtFrom k n r * isqrtFrom k n r ≤ n ∧ n < (isqrtFrom k n r + 1) * (isqrtFrom k n r + 1)
  | 0, r, hlo, hhi => ⟨hlo, by simpa [isqrtFrom] using hhi⟩
  | k + 1, r, hlo, hhi => by
    unfold isqrtFrom
    split
    · next hdigit =>
      refine isqrtFrom_spec n k (r + 2 ^ k) hdigit ?_
      rwa [Nat.add_assoc, ← Nat.two_mul, ← Nat.pow_succ']
    · next hdigit => exact isqrtFrom_spec n k r hlo (Nat.lt_of_not_le hdigit)

end SquareRoot

/-- Settles O44, by induction on the binary digits of the root. -/
theorem squareRootsRoundDown : Obligations.SquareRootsRoundDown := fun n hn =>
  isqrtFrom_spec n 24 0 (Nat.zero_le n) (by rwa [Nat.zero_add, ← Nat.pow_add])

end Sys2Proof.Machine

/-! ### The pantographs: operations in place, the arbiter, the force regulator (R45, R54 to R57, R69 to R75, R186) -/

namespace Sys2Proof.Machine

section Owners

variable {s : State} {p : Pan} {src : Source} {op : Op} {out : OpOutcome} {j : Job}

@[simp] theorem PerPan.set_set {α : Type} (v : PerPan α) (p : Pan) (x y : α) : (v.set p x).set p y = v.set p y := by
  cases p <;> rfl

/-- The long operations that stand where an operation of a channel ends (R186). -/
def freeLong (p : Pan) (job : Option Job) (ops : List LongOp) : List LongOp :=
  ops.filter fun o =>
    match job with
    | none => true
    | some ⟨_, .raise _⟩ => decide (o.kind ≠ .raise p ∧ o.kind ≠ .joined p)
    | some ⟨_, .lower⟩ => decide (o.kind ≠ .lower p)
    | some ⟨_, .discMove _⟩ => decide (o.kind ≠ .disc p)

theorem longFreed_eq (s : State) (p : Pan) : s.longFreed p = freeLong p (s.ch p).job s.longOps := rfl

theorem endOpLong_eq (p : Pan) (j : Job) (s : State) :
    endOpLong p j.op s = { s with longOps := freeLong p (some j) s.longOps } := by
  obtain ⟨src, op⟩ := j
  cases op with
  | raise d =>
    have hfilter : freeLong p (some ⟨src, .raise d⟩) s.longOps
        = (s.longOps.filter fun o => o.kind ≠ .raise p).filter fun o => o.kind ≠ .joined p := by
      rw [List.filter_filter]
      refine List.filter_congr fun o _ => ?_
      simp [Bool.and_comm]
    rw [hfilter]
    rfl
  | lower => rfl
  | discMove q => rfl

/-- A channel whose operation has left it (R56). -/
def Channel.dropped (c : Channel) : Channel := { c with job := none, raiseWaiting := false, lowerReq := false }

/-- A channel whose operation ended with an outcome (R57). -/
def Channel.ended (c : Channel) (j : Job) (out : OpOutcome) : Channel :=
  { c with job := none, raiseWaiting := false, lowerReq := false, lastResult := some ⟨j.source, j.op, out⟩ }

theorem dropJob_eq (p : Pan) (s : State) :
    dropJob p s = { s with pch := s.pch.set p (s.ch p).dropped, longOps := s.longFreed p } := by
  unfold dropJob
  rw [longFreed_eq]
  cases hj : (s.ch p).job with
  | none =>
    have hall : freeLong p none s.longOps = s.longOps := List.filter_true _
    rw [hall]
    rfl
  | some j =>
    simp only [endOpLong_eq]
    rfl

theorem reportOutcome_eq (p : Pan) (j : Job) (out : OpOutcome) (s : State) :
    reportOutcome p j.source j.op out s = { s with reports := s.reports ++ outcomeReports p j out } := by
  obtain ⟨src, op⟩ := j
  cases src with
  | authority l => exact (congrArg s.setReports (List.append_nil s.reports)).symm
  | sequencer => rfl
  | ice => rfl

/-- An operation in place ends with an outcome (R57, R186). -/
theorem endJob_eq (hj : (s.ch p).job = some j) (out : OpOutcome) : endJob p out s = { s with
    pch := s.pch.set p ((s.ch p).ended j out), longOps := s.longFreed p, lnk := raiseAll [.pan] s.lnk
    reports := s.reports ++ outcomeReports p j out } := by
  unfold endJob
  rw [hj]
  simp only [recordOutcome, reportOutcome_eq, changePan_eq, dropJob_eq, State.ch, PerPan.get_set_same, PerPan.set_set]
  rfl

theorem endJob_none (hj : (s.ch p).job = none) (out : OpOutcome) : endJob p out s = s := by
  unfold endJob
  rw [hj]

/-- The long operation that an operation of a source is (R186). -/
def startsLong (p : Pan) (src : Source) (op : Op) : List LongOp :=
  match src with
  | .authority l => [⟨l, op.long p, false⟩]
  | .sequencer | .ice => []

theorem placeJob_eq (p : Pan) (src : Source) (op : Op) (s : State) : placeJob p src op s = { s with
    pch := s.pch.set p { s.ch p with job := some ⟨src, op⟩ }, longOps := s.longOps ++ startsLong p src op } := by
  cases src with
  | authority l => rfl
  | sequencer =>
    simp only [startsLong, List.append_nil]
    rfl
  | ice =>
    simp only [startsLong, List.append_nil]
    rfl

/-- The reports of an operation that gives way to a source (R56, R57). -/
def Channel.preemptReports (c : Channel) (p : Pan) (src : Source) : List Report :=
  match c.job with
  | none => []
  | some j => if j.source = src then [] else outcomeReports p j .aborted

/-- An admitted request takes the channel (R56, R57, R186). -/
theorem takeOver_eq (p : Pan) (src : Source) (op : Op) (s : State) : takeOver p src op s = { s with
    pch := s.pch.set p { (s.ch p).freedFor src with job := some ⟨src, op⟩ }
    longOps := s.longFreed p ++ startsLong p src op
    lnk := raiseAll ((s.ch p).preemptedBy src) s.lnk
    reports := s.reports ++ (s.ch p).preemptReports p src } := by
  unfold takeOver Channel.freedFor Channel.preemptedBy Channel.preemptReports
  rw [placeJob_eq]
  cases hj : (s.ch p).job with
  | none =>
    have hall : s.longFreed p = s.longOps := by rw [longFreed_eq, hj]; exact List.filter_true _
    simp only [hall, raiseAll_nil, List.append_nil]
  | some j =>
    by_cases hsrc : j.source = src
    · simp only [if_pos hsrc, dropJob_eq, State.ch, PerPan.get_set_same, PerPan.set_set, raiseAll_nil, List.append_nil]
      rfl
    · simp only [if_neg hsrc, endJob_eq hj, State.ch, PerPan.get_set_same, PerPan.set_set]
      rfl

/-! Lowering (R45, R75, R144). -/

/-- A force channel that FREG regulates no longer (R75). -/
def Force.stopped (f : Force) : Force := { f with target := none, pCmd := 0 }

/-- A channel that enters LOWERING (R45). -/
def State.lowering (s : State) (c : Channel) : Channel :=
  { c with
    state := .lowering, settle := none, loss := none, below := 0, lowerReq := false
    lowerStart := s.clk.total, lowerLen := s.cfg.items.lowerLimit, lowerFired := false }

/-- The long operations without the raises joined to that of a pantograph (R186). -/
def unjoined (p : Pan) (ops : List LongOp) : List LongOp := ops.filter fun o => o.kind ≠ .joined p

/-- The lower limit ends a LOWER in place DONE (R45). -/
theorem reachLowered_of_lower (hj : (s.ch p).job = some ⟨src, .lower⟩) : reachLowered p s = { s with
    pch := s.pch.set p { (s.ch p).ended ⟨src, .lower⟩ .done with state := .lowered, role := none }
    ice := { s.ice with arcs := s.ice.arcs.set p .empty }
    lnk := raiseAll ([.pan] ++ [.pan]) s.lnk, iceEval := true
    longOps := freeLong p (some ⟨src, .lower⟩) s.longOps
    reports := s.reports ++ outcomeReports p ⟨src, .lower⟩ .done } := by
  have hj' : ({ s with
      pch := s.pch.set p { s.ch p with state := .lowered, role := none }
      ice := { s.ice with arcs := s.ice.arcs.set p .empty }
      lnk := raiseAll [.pan] s.lnk, iceEval := true } : State).ch p
      = { s.ch p with state := .lowered, role := none } := PerPan.get_set_same ..
  unfold reachLowered
  simp only [hj]
  rw [movePan_eq]
  refine (endJob_eq (j := ⟨src, .lower⟩) ((congrArg Channel.job hj').trans hj) .done).trans ?_
  rw [longFreed_eq, raiseAll_raiseAll]
  simp only [State.ch, PerPan.get_set_same, PerPan.set_set] at hj ⊢
  rw [hj]
  rfl

/-- The lower limit leaves an operation in place that is no LOWER (R45). -/
theorem reachLowered_of_other (hj : ∀ src, (s.ch p).job ≠ some ⟨src, .lower⟩) : reachLowered p s = { s with
    pch := s.pch.set p { s.ch p with state := .lowered, role := none }
    ice := { s.ice with arcs := s.ice.arcs.set p .empty }
    lnk := raiseAll [.pan] s.lnk, iceEval := true } := by
  unfold reachLowered
  dsimp only
  rw [movePan_eq]
  split
  · next h => exact absurd h (hj _)
  all_goals rfl

/-- The state in which a pantograph has entered LOWERING, its limit not yet judged (R45, R75). -/
def State.goesDown (s : State) (p : Pan) : State := { s with
  pch := s.pch.set p (s.lowering (s.ch p)), freg := s.freg.set p (s.freg.get p).stopped
  lnk := raiseAll [.pan] s.lnk, iceEval := true, longOps := unjoined p s.longOps }

theorem goesDown_ch (p : Pan) (s : State) : (s.goesDown p).ch p = s.lowering (s.ch p) := PerPan.get_set_same ..

theorem enterLowering_eq (p : Pan) (s : State) :
    enterLowering p s = if s.lines.lowered.get p then reachLowered p (s.goesDown p) else s.goesDown p := by
  unfold enterLowering
  rw [movePan_eq]
  rfl

/-- Entry into LOWERING with the lowered limit not active (R45, R75). -/
theorem enterLowering_up (hup : s.lines.lowered.get p = false) : enterLowering p s = s.goesDown p := by
  rw [enterLowering_eq, hup]
  rfl

/-- Entry into LOWERING with the lowered limit active and a LOWER in place (R45, R75). -/
theorem enterLowering_done (hdown : s.lines.lowered.get p = true) (hj : (s.ch p).job = some ⟨src, .lower⟩) :
    enterLowering p s = { s with
      pch := s.pch.set p { (s.lowering (s.ch p)).ended ⟨src, .lower⟩ .done with state := .lowered, role := none }
      freg := s.freg.set p (s.freg.get p).stopped
      ice := { s.ice with arcs := s.ice.arcs.set p .empty }
      lnk := raiseAll ([.pan] ++ ([.pan] ++ [.pan])) s.lnk, iceEval := true
      longOps := freeLong p (some ⟨src, .lower⟩) (unjoined p s.longOps)
      reports := s.reports ++ outcomeReports p ⟨src, .lower⟩ .done } := by
  have hjob : ((s.goesDown p).ch p).job = some ⟨src, .lower⟩ := by rw [goesDown_ch]; exact hj
  rw [enterLowering_eq, if_pos hdown, reachLowered_of_lower hjob, goesDown_ch]
  simp only [State.goesDown, PerPan.set_set, raiseAll_raiseAll]

/-- Entry into LOWERING with the lowered limit active and another operation in place or none (R45, R75). -/
theorem enterLowering_down (hdown : s.lines.lowered.get p = true) (hj : ∀ src, (s.ch p).job ≠ some ⟨src, .lower⟩) :
    enterLowering p s = { s with
      pch := s.pch.set p { s.lowering (s.ch p) with state := .lowered, role := none }
      freg := s.freg.set p (s.freg.get p).stopped
      ice := { s.ice with arcs := s.ice.arcs.set p .empty }
      lnk := raiseAll ([.pan] ++ [.pan]) s.lnk, iceEval := true
      longOps := unjoined p s.longOps } := by
  have hjob : ∀ src, ((s.goesDown p).ch p).job ≠ some ⟨src, .lower⟩ := fun src => by rw [goesDown_ch]; exact hj src
  rw [enterLowering_eq, if_pos hdown, reachLowered_of_other hjob, goesDown_ch]
  simp only [State.goesDown, PerPan.set_set, raiseAll_raiseAll]

/-! The force regulator (R69 to R73). -/

/-- The profile force is the point of the table's segment (R71). -/
theorem profileForce_onProfile (t : List Nat) (kmh : Nat) : OnProfile t kmh (profileForce t kmh) := by
  refine ⟨fun hlast => ?_, fun hseg i a b hi ha hb => ⟨fun hle => ?_, fun hlt => ?_⟩⟩
  · have : 8 ≤ kmh / 40 := by omega
    simp only [profileForce, tablePoint, if_pos this]
  all_goals
    subst hi ha hb
    have hin : ¬ 8 ≤ kmh / 40 := by omega
    simp only [profileForce, tablePoint, if_neg hin]
    generalize t.getD (kmh / 40) 0 = a at *
    generalize t.getD (kmh / 40 + 1) 0 = b at *
    have hk : (kmh : Int) - 40 * (kmh / 40 : Nat) = ((kmh - 40 * (kmh / 40) : Nat) : Int) := by omega
    rw [hk]
    generalize kmh - 40 * (kmh / 40) = x
  · have hd : (b : Int) - a = ((b - a : Nat) : Int) := by omega
    rw [hd, ← Int.natCast_mul]
    have : Int.tdiv (((b - a) * x : Nat) : Int) 40 = (((b - a) * x / 40 : Nat) : Int) := rfl
    rw [this]
    omega
  · have hd : (b : Int) - a = -((a - b : Nat) : Int) := by omega
    rw [hd, Int.neg_mul, ← Int.natCast_mul, Int.neg_tdiv]
    have : Int.tdiv (((a - b) * x : Nat) : Int) 40 = (((a - b) * x / 40 : Nat) : Int) := rfl
    rw [this]
    omega

/-- The force regulator where it starts to regulate (R69). -/
def State.startedForce (s : State) (p : Pan) (role : Option Duty) : Force :=
  let it := s.cfg.items
  let kmh := kmhOf s.trv.speed
  let profile := profileForce (s.cfg.tables.get (it.panClass.get p)) kmh
  let force := setpointOf profile role it.scrapeBonus
  { s.freg.get p with
    vKmh := kmh, point := min 8 (kmh / 40), profile := profile, force := force
    target := some (targetOf (it.calOffset.get p) (it.calGain.get p) it.pMax force), pCmd := 0 }

theorem startForce_eq (p : Pan) (s : State) :
    startForce p s = { s with freg := s.freg.set p (s.startedForce p (s.ch p).role) } := by
  simp only [startForce, computeForce, State.modForce, PerPan.get_set_same, PerPan.set_set, State.startedForce]

theorem startedForce_starts (p : Pan) (d : Duty) {u : State} (hu : u.freg.get p = s.startedForce p (some d)) :
    s.StartsForce u p d := by
  rw [State.StartsForce, hu]
  refine ⟨rfl, ⟨_, profileForce_onProfile _ _, ?_⟩, rfl⟩
  simp only [State.startedForce, setpointOf, clampNat, Config.forceMin, Config.forceMax, kmhOf]

/-- The context of a sequence whose set of raised pantographs a grant to SEQ joins (R127). -/
def State.raisedBySeq (s : State) (p : Pan) : Option SeqCtx :=
  match (s.ch p).job with
  | some ⟨.sequencer, _⟩ => s.seq.ctx.map fun c => { c with raised := c.raised.set p true }
  | some ⟨.authority _, _⟩ | some ⟨.ice, _⟩ | none => s.seq.ctx

theorem raisedBySeq_of_seq (hj : (s.ch p).job = some ⟨.sequencer, op⟩) :
    s.raisedBySeq p = s.seq.ctx.map fun c => { c with raised := c.raised.set p true } := by
  unfold State.raisedBySeq
  rw [hj]

theorem raisedBySeq_of_other (hj : ∀ op, (s.ch p).job ≠ some ⟨.sequencer, op⟩) : s.raisedBySeq p = s.seq.ctx := by
  unfold State.raisedBySeq
  split
  · next h => exact absurd h (hj _)
  all_goals rfl

/-- What the grant of a raise does (R39, R40, R69, R127). -/
theorem grantRaise_eq (p : Pan) (d : Duty) (s : State) : grantRaise p d s = { s with
    pch := s.pch.set p (s.granted p d (s.ch p)), freg := s.freg.set p (s.startedForce p (some d))
    seq := { s.seq with ctx := s.raisedBySeq p }, lnk := raiseAll [.pan] s.lnk, iceEval := true } := by
  have hstart : startForce p (movePan p (s.granted p d) s) = { s with
      pch := s.pch.set p (s.granted p d (s.ch p)), freg := s.freg.set p (s.startedForce p (some d))
      lnk := raiseAll [.pan] s.lnk, iceEval := true } := by
    rw [movePan_eq, startForce_eq]
    simp only [State.ch, PerPan.get_set_same]
    rfl
  have hgrant : grantRaise p d s = match (s.ch p).job with
      | some ⟨.sequencer, _⟩ => markRaised p (startForce p (movePan p (s.granted p d) s))
      | some ⟨.authority _, _⟩ | some ⟨.ice, _⟩ | none => startForce p (movePan p (s.granted p d) s) := rfl
  rw [hgrant, hstart]
  by_cases hseq : ∃ op, (s.ch p).job = some ⟨.sequencer, op⟩
  · obtain ⟨op, hj⟩ := hseq
    rw [raisedBySeq_of_seq hj, hj]
    rfl
  · rw [raisedBySeq_of_other fun op h => hseq ⟨op, h⟩]
    split
    · next h => exact absurd ⟨_, h⟩ hseq
    all_goals rfl

end Owners

end Sys2Proof.Machine

/-! ### RAISE (R39, R54 to R57, R59, Table 3-4) -/

namespace Sys2Proof.Machine

section Raise

variable {s : State} {p : Pan} {d : Duty} {src : Source} {l : Link}

/-! Table 3-4. -/

theorem systemPosition_eq_some {y : LineSys} : s.systemPosition = some y ↔ s.bsc.selector = .rest (.sys y) := by
  unfold State.systemPosition
  split <;> simp_all

theorem selectorSuits_iff (s : State) (p : Pan) : s.selectorSuits p = true
    ↔ ∃ y, s.bsc.selector = .rest (.sys y) ∧ y.cls = s.cfg.items.panClass.get p := by
  unfold State.selectorSuits
  simp only [← systemPosition_eq_some]
  cases s.systemPosition with
  | none => simp
  | some y => simp

theorem mem_pansWhere {f : Pan → Bool} {q : Pan} : q ∈ pansWhere f ↔ f q = true := by
  have hall : q ∈ Pan.all := by cases q <;> decide
  simp [pansWhere, hall]

theorem collectingRaised_iff (s : State) : s.collectingRaised = true
    ↔ ¬ ∀ q, ¬ ((s.ch q).state.isRaised = true ∧ (s.ch q).role = some .collecting) := by
  simp [State.collectingRaised, State.raisedPans, List.any_eq_true, mem_pansWhere]

theorem collectorRaised_eq_none_iff (s : State) : s.collectorRaised = none
    ↔ ¬ ∃ q, (s.ch q).state = .raised ∧ (s.ch q).role = some .collecting := by
  simp [State.collectorRaised, List.eq_nil_iff_forall_not_mem, mem_pansWhere]

theorem entry_contains_iff {e : Entry} {front : Nat} :
    e.contains front = true ↔ e.start * 1000 ≤ front ∧ front < (e.start + e.length) * 1000 := by
  rw [Entry.contains, Bool.and_eq_true]
  exact and_congr decide_eq_true_iff decide_eq_true_iff

theorem routeInhibits_iff (s : State) : s.routeInhibits = true
    ↔ ¬ ∀ e ∈ s.map.entries, e.sect = .lowerZone ∨ e.state = .active →
      ¬ (e.start * 1000 ≤ s.trv.front ∧ s.trv.front < (e.start + e.length) * 1000) := by
  simp only [State.routeInhibits, List.any_eq_true, Bool.and_eq_true, entry_contains_iff, Bool.or_eq_true,
    decide_eq_true_eq, not_forall, not_not, exists_prop]

/-- The raise conditions are tested in the order of Table 3-4 (R54). -/
theorem raiseRefusal_first (p : Pan) (d : Duty) (s : State) : FirstUnmet (s.raiseTable p d) (s.raiseRefusal p d) := by
  refine firstUnmet_ite not_not.symm (firstUnmet_ite not_not.symm (firstUnmet_ite Iff.rfl (firstUnmet_ite Iff.rfl
    (firstUnmet_ite ?suits (firstUnmet_ite ?collects (firstUnmet_ite ?scrapes (firstUnmet_ite ?two (firstUnmet_ite ?earth
    (firstUnmet_ite (routeInhibits_iff s) firstUnmet_nil)))))))))
  case suits => rw [← selectorSuits_iff]; cases d <;> simp
  case collects => rw [collectingRaised_iff]; cases d <;> simp
  case scrapes => rw [collectorRaised_eq_none_iff]; cases d <;> simp
  case two => exact not_lt.symm
  case earth =>
    have : s.earthed = s.lines.earthed := rfl
    cases h : s.lines.earthed <;> cases s.bsc.permit <;> simp [this, h]

/-- The arbiter admits a source that the owner has no priority over (R56, R57). -/
theorem admits_iff (s : State) (p : Pan) (src : Source) :
    s.admits p src = true ↔ ∀ j, (s.ch p).job = some j → ¬ j.source.Outranks src := by
  have hrank : ∀ a b : Source, a.rank ≤ b.rank ↔ ¬ a.Outranks b := fun a b => by
    cases a <;> cases b <;> simp [Source.rank, Source.Outranks]
  unfold State.admits
  cases (s.ch p).job with
  | none => simp
  | some j => simp [hrank]

/-- The first four conditions of Table 3-4. -/
theorem raiseTable_met (hall : ∀ x ∈ s.raiseTable p d, x.1) : s.seq.mode ≠ .configPending ∧ s.seq.mode ≠ .roofSafe
    ∧ (s.ch p).state = .lowered ∧ (s.ch p).disc = .resting (discNeed d) :=
  ⟨hall _ (.head _), hall _ (.tail _ (.head _)), hall _ (.tail _ (.tail _ (.head _))),
    hall _ (.tail _ (.tail _ (.tail _ (.head _))))⟩

/-! The answers of a raise request, case by case (R54 to R57). -/

theorem requestRaise_busy (hno : s.admits p src = false) : requestRaise p d src s = (s, .busy) := by
  unfold requestRaise
  rw [hno]
  rfl

theorem requestRaise_unavailable (hadm : s.admits p src = true) (hout : (s.ch p).state = .dropped ∨ (s.ch p).state = .isolated
      ∨ (s.ch p).state.isRaised = true ∧ (s.ch p).role ≠ some d) : requestRaise p d src s = (s, .unavailable) := by
  unfold requestRaise
  rcases hout with h | h | ⟨hraised, hrole⟩
  · simp [hadm, h]
  · simp [hadm, h]
  · have hdrop : (s.ch p).state ≠ .dropped := fun h => by rw [h] at hraised; cases hraised
    have hiso : (s.ch p).state ≠ .isolated := fun h => by rw [h] at hraised; cases hraised
    simp [hadm, hdrop, hiso, hraised, hrole]

theorem requestRaise_raised (hadm : s.admits p src = true) (hraised : (s.ch p).state.isRaised = true)
    (hrole : (s.ch p).role = some d) : requestRaise p d src s = raiseRaised p d src s := by
  have hdrop : (s.ch p).state ≠ .dropped := fun h => by rw [h] at hraised; cases hraised
  have hiso : (s.ch p).state ≠ .isolated := fun h => by rw [h] at hraised; cases hraised
  unfold requestRaise
  simp [hadm, hdrop, hiso, hraised, hrole]

/-- A raise request waits for the end of a lowering, or of a move to the position that the role needs (R55). -/
theorem raiseWaits_iff (c : Channel) (d : Duty) : c.raiseWaits d = true ↔ c.state = .lowering ∧ (∀ q, c.disc ≠ .moving q)
    ∨ (c.state = .lowering ∨ c.state = .lowered) ∧ c.disc = .moving (discNeed d) := by
  unfold Channel.raiseWaits
  cases c.disc <;> simp [and_comm]

theorem requestRaise_waits (hadm : s.admits p src = true) (hwaits : (s.ch p).raiseWaits d = true) :
    requestRaise p d src s =
      ((takeOver p src (.raise d) s).modPan p fun c => { c with raiseWaiting := true }, .waiting) := by
  have hstate : (s.ch p).state = .lowering ∨ (s.ch p).state = .lowered := by
    rcases (raiseWaits_iff _ d).1 hwaits with ⟨h, -⟩ | ⟨h, -⟩
    · exact .inl h
    · exact h
  unfold requestRaise
  rcases hstate with h | h <;> simp [hadm, h, PanState.isRaised, hwaits]

/-- A raise request of a LOWERED pantograph that need not wait is judged by Table 3-4 (R54). -/
theorem requestRaise_lowered (hadm : s.admits p src = true) (hlow : (s.ch p).state = .lowered)
    (hstill : (s.ch p).disc ≠ .moving (discNeed d)) : requestRaise p d src s =
      match s.raiseRefusal p d with
      | some st => (s, .refused st)
      | none => (grantRaise p d (takeOver p src (.raise d) s), .granted) := by
  have hwaits : (s.ch p).raiseWaits d = false := by
    rw [← Bool.not_eq_true, raiseWaits_iff]
    simp [hlow, hstill]
  unfold requestRaise
  simp [hadm, hlow, PanState.isRaised, hwaits] <;> rfl

/-- A grant to a source that takes the channel, of a link or of SEQ or ICE (R39, R56, R69). -/
theorem grantTaken_eq (p : Pan) (d : Duty) (src : Source) (s : State) : grantRaise p d (takeOver p src (.raise d) s) = { s with
    pch := s.pch.set p (s.granted p d { (s.ch p).freedFor src with job := some ⟨src, .raise d⟩ })
    freg := s.freg.set p (s.startedForce p (some d))
    seq := { s.seq with
      ctx := if src = .sequencer then s.seq.ctx.map fun c => { c with raised := c.raised.set p true } else s.seq.ctx }
    longOps := s.longFreed p ++ startsLong p src (.raise d)
    lnk := raiseAll ((s.ch p).preemptedBy src ++ [.pan]) s.lnk, iceEval := true
    reports := s.reports ++ (s.ch p).preemptReports p src } := by
  have hch : (takeOver p src (.raise d) s).ch p = { (s.ch p).freedFor src with job := some ⟨src, .raise d⟩ } := by
    rw [takeOver_eq]
    exact PerPan.get_set_same ..
  have hctx : (takeOver p src (.raise d) s).raisedBySeq p
      = if src = .sequencer then s.seq.ctx.map fun c => { c with raised := c.raised.set p true } else s.seq.ctx := by
    have hseq : (takeOver p src (.raise d) s).seq = s.seq := by rw [takeOver_eq]
    by_cases hsrc : src = .sequencer
    · rw [if_pos hsrc, raisedBySeq_of_seq (op := .raise d) (by rw [hch, hsrc]), hseq]
    · rw [if_neg hsrc, raisedBySeq_of_other fun op h => hsrc (by rw [hch] at h; cases h; rfl), hseq]
  rw [grantRaise_eq, hctx, hch, takeOver_eq, ← raiseAll_raiseAll]
  simp only [PerPan.set_set]
  rfl

/-- PAN of a preemption beside PAN of the operation is PAN. -/
theorem preemptedBy_pan (c : Channel) (src : Source) : causeBits (c.preemptedBy src ++ [.pan]) = causeBits [.pan] := by
  unfold Channel.preemptedBy
  split
  · rfl
  · split <;> decide

theorem dutyOf_num (d : Duty) : dutyOf (Duty.num d) = some d := by cases d <;> rfl

theorem runAuthority_raise (hser : s.serviceRefusal = none) : runAuthority l (.raise p.num (Duty.num d)) s =
    ((requestRaise p d (.authority l) s).1, (requestRaise p d (.authority l) s).2.status) := by
  simp only [runAuthority, cmdRaise, hser, pan_ofNum_num, dutyOf_num]

/-- The reports where a request takes a channel (R57). -/
theorem reportsPreempted_of_eq {u : State} (h : u.reports = s.reports ++ (s.ch p).preemptReports p src) :
    s.ReportsPreempted u p src := h

/-- No other pantograph changes where one channel and its force are set. -/
theorem othersStand_of_set {u : State} {c : Channel} {f : Force} (hch : u.pch = s.pch.set p c)
    (hforce : u.freg = s.freg.set p f) : s.OthersStand u p := fun q hq => by
  rw [State.ch, hch, hforce]
  exact ⟨PerPan.get_set_ne _ _ hq, PerPan.get_set_ne _ _ hq⟩

theorem othersStand_of_ch {u : State} {c : Channel} (hch : u.pch = s.pch.set p c) (hforce : u.freg = s.freg) :
    s.OthersStand u p := fun q hq => by
  rw [State.ch, hch, hforce]
  exact ⟨PerPan.get_set_ne _ _ hq, rfl⟩

end Raise

/-- Settles O18. -/
theorem raiseIsGranted : Obligations.RaiseIsGranted := by
  intro l tag p d s hcmd hlocked hadm hall
  obtain ⟨x, hx⟩ := superviseFrame_eq l s
  obtain ⟨hpend, hsafe, hlow, hdisc⟩ := raiseTable_met hall
  have hser : s.serviceRefusal = none := by simp [State.serviceRefusal, hpend, hsafe, hlocked]
  have hgrant : s.raiseRefusal p d = none := (raiseRefusal_first p d s).unique (firstUnmet_none_iff.2 hall)
  have hact : runAuthority l (.raise p.num (Duty.num d)) (superviseFrame l s)
      = (grantRaise p d (takeOver p (.authority l) (.raise d) (superviseFrame l s)), .accepted) := by
    rw [runAuthority_raise (by simpa), hx, requestRaise_lowered (by exact hadm) (by exact hlow)
      (by exact fun h => nomatch hdisc.symm.trans h)]
    have : ({ s with auth := { s.auth with supervision := x } } : State).raiseRefusal p d = none := hgrant
    rw [this]
    rfl
  rw [grantTaken_eq] at hact
  have hexec := exec_authority_acts (i := .raise l tag p.num (Duty.num d)) rfl rfl hcmd hact rfl
  rw [hx] at hexec ⊢
  exact ⟨_, hexec, answers_of_bits rfl (preemptedBy_pan _ _), PerPan.get_set_same .., startedForce_starts p d (PerPan.get_set_same ..),
    othersStand_of_set rfl rfl, reportsPreempted_of_eq rfl, rfl, rfl⟩

end Sys2Proof.Machine

/-! ### RAISE: refusals, waits and raises in place (R54 to R57, R59) -/

namespace Sys2Proof.Machine

section RaiseWaits

variable {s : State} {p : Pan} {d : Duty} {src : Source} {l : Link} {op : Op} {st : Status}

/-- A long operation that a request started is freed with it (R186). -/
theorem freeLong_starts (p : Pan) (src : Source) (op : Op) (ops : List LongOp) :
    freeLong p (some ⟨src, op⟩) (ops ++ startsLong p src op) = freeLong p (some ⟨src, op⟩) ops := by
  have hnone : freeLong p (some ⟨src, op⟩) (startsLong p src op) = [] := by
    cases src <;> cases op <;> simp [freeLong, startsLong, Op.long]
  rw [freeLong, List.filter_append]
  exact (congrArg _ hnone).trans (List.append_nil _)

/-- A channel that a source took and whose operation has ended. -/
theorem ended_freedFor (c : Channel) (src : Source) (op : Op) (out : OpOutcome) :
    ({ c.freedFor src with job := some ⟨src, op⟩ } : Channel).ended ⟨src, op⟩ out = c.ended ⟨src, op⟩ out := by
  unfold Channel.freedFor
  split <;> rfl

/-- A request that takes the channel and ends at once (R56, R57). -/
theorem endTaken_eq (p : Pan) (src : Source) (op : Op) (out : OpOutcome) (s : State) :
    endJob p out (takeOver p src op s) = { s with
      pch := s.pch.set p ((s.ch p).ended ⟨src, op⟩ out)
      longOps := freeLong p (some ⟨src, op⟩) (s.longFreed p)
      lnk := raiseAll ((s.ch p).preemptedBy src ++ [.pan]) s.lnk
      reports := s.reports ++ (s.ch p).preemptReports p src ++ outcomeReports p ⟨src, op⟩ out } := by
  have hch : (takeOver p src op s).ch p = { (s.ch p).freedFor src with job := some ⟨src, op⟩ } := by
    rw [takeOver_eq]
    exact PerPan.get_set_same ..
  rw [endJob_eq (j := ⟨src, op⟩) (by rw [hch]), longFreed_eq, hch, ended_freedFor, takeOver_eq]
  simp only [PerPan.set_set, raiseAll_raiseAll, freeLong_starts]

/-- A request that takes the channel, which a flag marks (R55, R56). -/
theorem markTaken_eq (p : Pan) (src : Source) (op : Op) (f : Channel → Channel) (s : State) :
    (takeOver p src op s).modPan p f = { s with
      pch := s.pch.set p (f { (s.ch p).freedFor src with job := some ⟨src, op⟩ })
      longOps := s.longFreed p ++ startsLong p src op
      lnk := raiseAll ((s.ch p).preemptedBy src) s.lnk
      reports := s.reports ++ (s.ch p).preemptReports p src } := by
  rw [takeOver_eq]
  simp only [State.modPan, PerPan.get_set_same, PerPan.set_set]

/-! The end of a wait (R55). -/

theorem watchRaiseWait_ends (hj : (s.ch p).job = some ⟨src, .raise d⟩) (hwait : (s.ch p).raiseWaiting = true)
    (hlow : (s.ch p).state = .lowered) (hstill : ∀ q, (s.ch p).disc ≠ .moving q) : watchRaiseWait p s =
      match s.raiseRefusal p d with
      | some st => some (endJob p (.failed (.status st)) s)
      | none => some (grantRaise p d s) := by
  unfold watchRaiseWait
  simp only [hj, hwait, hlow]
  cases hdisc : (s.ch p).disc with
  | moving q => exact absurd hdisc (hstill q)
  | resting q => rfl
  | failed => rfl

theorem watchRaiseWait_none (hno : (∀ src d, (s.ch p).job ≠ some ⟨src, .raise d⟩) ∨ (s.ch p).raiseWaiting = false
    ∨ (s.ch p).state ≠ .lowered ∨ ∃ q, (s.ch p).disc = .moving q) : watchRaiseWait p s = none := by
  unfold watchRaiseWait
  dsimp only
  split
  iterate 2
    next hj hdisc =>
      rcases hno with h | h | h | ⟨q, h⟩
      · exact absurd hj (h _ _)
      · simp [h]
      · simp [h]
      · rw [h] at hdisc; cases hdisc
  all_goals rfl

/-- The wait of a raise ends in the raise where every condition is met (R39, R55, R127). -/
theorem watchRaiseWait_grants (hj : (s.ch p).job = some ⟨src, .raise d⟩) (hwait : (s.ch p).raiseWaiting = true)
    (hlow : (s.ch p).state = .lowered) (hstill : ∀ q, (s.ch p).disc ≠ .moving q) (hall : ∀ x ∈ s.raiseTable p d, x.1) :
    ∃ u, watchRaiseWait p s = some u ∧ u.ch p = s.granted p d (s.ch p) ∧ s.StartsForce u p d ∧ s.OthersStand u p
      ∧ u.seq.ctx = (if src = .sequencer then s.seq.ctx.map fun c => { c with raised := c.raised.set p true } else s.seq.ctx)
      ∧ s.Raises u (fun _ => [.pan])
      ∧ { u with pch := s.pch, freg := s.freg, seq := { u.seq with ctx := s.seq.ctx }, lnk := s.lnk
                 iceEval := s.iceEval } = s := by
  have hgrant : s.raiseRefusal p d = none := (raiseRefusal_first p d s).unique (firstUnmet_none_iff.2 hall)
  have hctx : s.raisedBySeq p
      = if src = .sequencer then s.seq.ctx.map fun c => { c with raised := c.raised.set p true } else s.seq.ctx := by
    by_cases hsrc : src = .sequencer
    · rw [if_pos hsrc, raisedBySeq_of_seq (hsrc ▸ hj)]
    · rw [if_neg hsrc, raisedBySeq_of_other fun op h => hsrc (by rw [hj] at h; cases h; rfl)]
  have hwatch := watchRaiseWait_ends hj hwait hlow hstill
  rw [hgrant] at hwatch
  simp only [grantRaise_eq, hctx] at hwatch
  exact ⟨_, hwatch, PerPan.get_set_same .., startedForce_starts p d (PerPan.get_set_same ..), othersStand_of_set rfl rfl, rfl,
    raises_of_lnk rfl, rfl⟩

/-- The wait of a raise ends FAILED with the first condition that is not met (R55, R57). -/
theorem watchRaiseWait_fails (hj : (s.ch p).job = some ⟨src, .raise d⟩) (hwait : (s.ch p).raiseWaiting = true)
    (hlow : (s.ch p).state = .lowered) (hstill : ∀ q, (s.ch p).disc ≠ .moving q)
    (hfirst : FirstUnmet (s.raiseTable p d) (some st)) :
    ∃ u, watchRaiseWait p s = some u
      ∧ u.ch p = { s.ch p with
          job := none, raiseWaiting := false, lowerReq := false
          lastResult := some ⟨src, .raise d, .failed (.status st)⟩ }
      ∧ s.OthersStand u p ∧ u.longOps = s.longFreed p
      ∧ u.reports = s.reports ++ outcomeReports p ⟨src, .raise d⟩ (.failed (.status st))
      ∧ s.Raises u (fun _ => [.pan])
      ∧ { u with pch := s.pch, lnk := s.lnk, longOps := s.longOps, reports := s.reports } = s := by
  have hrefuse : s.raiseRefusal p d = some st := (raiseRefusal_first p d s).unique hfirst
  have hwatch := watchRaiseWait_ends hj hwait hlow hstill
  rw [hrefuse] at hwatch
  simp only [endJob_eq hj] at hwatch
  exact ⟨_, hwatch, PerPan.get_set_same .., othersStand_of_ch rfl rfl, rfl, rfl, raises_of_lnk rfl, rfl⟩

/-- The reasons of Table 3-4 are refusals. -/
theorem raiseTable_refuses (hfirst : FirstUnmet (s.raiseTable p d) (some st)) :
    st.effective = false ∧ st ≠ .illegalSequence := by
  refine hfirst.refuses ?_
  simp [State.raiseTable, Status.effective]

end RaiseWaits

/-- Settles O19: Table 3-4 and the arbiter by their lemmas, the wait by its two ends, RAISE by the answers of the request. -/
theorem raiseIsRefusedOrWaits : Obligations.RaiseIsRefusedOrWaits := by
  refine ⟨fun p d s => raiseRefusal_first p d s, fun p src s => admits_iff s p src,
    fun p s => ⟨fun src d hj hwait hlow hstill => ⟨fun hall => watchRaiseWait_grants hj hwait hlow hstill hall,
      fun st hfirst => watchRaiseWait_fails hj hwait hlow hstill hfirst⟩, watchRaiseWait_none⟩,
    fun l tag p d s hcmd hser => ?_⟩
  obtain ⟨x, hx⟩ := superviseFrame_eq l s
  have hrun := runAuthority_raise (s := superviseFrame l s) (p := p) (d := d) (l := l) (by simpa)
  have refused : ∀ {a : RaiseAnswer}, requestRaise p d (.authority l) (superviseFrame l s) = (superviseFrame l s, a) →
      a.status.effective = false ∧ a.status ≠ .illegalSequence →
      exec (.raise l tag p.num (Duty.num d)) s = .next ((superviseFrame l s).answered l tag 0x08 a.status []) :=
    fun hreq hst => exec_authority_refused (c := .raise p.num (Duty.num d)) rfl rfl hcmd (hrun.trans (by rw [hreq])) hst.1 hst.2
  have acts : ∀ {u : State} {a : RaiseAnswer}, requestRaise p d (.authority l) (superviseFrame l s) = (u, a) →
      a.status.effective = true →
      exec (.raise l tag p.num (Duty.num d)) s = .next (settle (u.answered l tag 0x08 a.status [])) := fun hreq heff =>
    exec_authority_acts (c := .raise p.num (Duty.num d)) rfl rfl hcmd (hrun.trans (by rw [hreq])) heff
  refine ⟨fun hno => ?busy, fun hadm => ⟨fun hout => ?unavailable, fun st hlow hstill hfirst => ?unmet, fun hwaits => ?waits,
    fun hraised hrole => ?done, fun hraised hrole => ⟨fun hjob => ?joined, fun hjob => ?takes⟩⟩⟩
  case busy => exact refused (requestRaise_busy (by rw [hx]; exact hno)) ⟨rfl, fun h => nomatch h⟩
  case unavailable =>
    exact refused (requestRaise_unavailable (by rw [hx]; exact hadm) (by simpa)) ⟨rfl, fun h => nomatch h⟩
  case unmet =>
    have hreq := requestRaise_lowered (src := .authority l) (d := d) (s := superviseFrame l s) (p := p) (by rw [hx]; exact hadm)
      (by simpa) (by simpa)
    have hrefuse : (superviseFrame l s).raiseRefusal p d = some st := by
      rw [hx]
      exact (raiseRefusal_first p d s).unique hfirst
    rw [hrefuse] at hreq
    exact refused hreq (raiseTable_refuses hfirst)
  case waits =>
    have hreq := requestRaise_waits (src := .authority l) (d := d) (s := superviseFrame l s) (p := p) (by rw [hx]; exact hadm)
      (by rw [superviseFrame_ch]; exact (raiseWaits_iff _ d).2 hwaits)
    rw [markTaken_eq] at hreq
    have hexec := acts hreq rfl
    rw [hx] at hexec ⊢
    exact ⟨_, hexec, answers_of_lnk rfl, PerPan.get_set_same .., othersStand_of_ch rfl rfl, reportsPreempted_of_eq rfl, rfl, rfl⟩
  case done =>
    have hreq := requestRaise_raised (src := .authority l) (d := d) (s := superviseFrame l s) (p := p) (by rw [hx]; exact hadm)
      (by simp [hraised, PanState.isRaised]) (by simpa)
    have hdone : raiseRaised p d (.authority l) (superviseFrame l s)
        = (endJob p .done (takeOver p (.authority l) (.raise d) (superviseFrame l s)), .doneAtOnce) :=
      if_pos (by simpa using hraised)
    rw [hdone, endTaken_eq] at hreq
    have hexec := acts hreq rfl
    rw [hx] at hexec ⊢
    exact ⟨_, hexec, answers_of_bits rfl (preemptedBy_pan _ _), PerPan.get_set_same .., othersStand_of_ch rfl rfl,
      reportsPreempted_of_eq (List.append_nil _), rfl, rfl⟩
  case joined =>
    obtain ⟨src, e, hj⟩ := hjob
    have hreq := requestRaise_raised (src := .authority l) (d := d) (s := superviseFrame l s) (p := p) (by rw [hx]; exact hadm)
      (by rcases hraised with h | h <;> simp [h, PanState.isRaised]) (by simpa)
    have hjoin : raiseRaised p d (.authority l) (superviseFrame l s)
        = (startLong l (.joined p) (superviseFrame l s), .joined) := by
      unfold raiseRaised
      rw [if_neg (by rcases hraised with h | h <;> simp [h]), superviseFrame_ch, hj]
    rw [hjoin] at hreq
    have hexec := acts hreq rfl
    rw [hx] at hexec ⊢
    exact ⟨_, hexec, answers_of_lnk (raiseAll_nil _).symm, rfl, rfl⟩
  case takes =>
    have hreq := requestRaise_raised (src := .authority l) (d := d) (s := superviseFrame l s) (p := p) (by rw [hx]; exact hadm)
      (by rcases hraised with h | h <;> simp [h, PanState.isRaised]) (by simpa)
    have htake : raiseRaised p d (.authority l) (superviseFrame l s)
        = (takeOver p (.authority l) (.raise d) (superviseFrame l s), .joined) := by
      unfold raiseRaised
      rw [if_neg (by rcases hraised with h | h <;> simp [h]), superviseFrame_ch]
      split
      · next h => exact absurd h (hjob _ _)
      all_goals rfl
    rw [htake, takeOver_eq] at hreq
    have hexec := acts hreq rfl
    rw [hx] at hexec ⊢
    exact ⟨_, hexec, answers_of_lnk rfl, PerPan.get_set_same .., othersStand_of_ch rfl rfl, reportsPreempted_of_eq rfl, rfl, rfl⟩

end Sys2Proof.Machine

/-! ### LOWER and DISC_SET (R45, R47, R52, R53, R60) -/

namespace Sys2Proof.Machine

section Lower

variable {s : State} {p : Pan} {src : Source} {l : Link} {q : DiscPos}

/-- Only the bits of the causes count. -/
theorem raiseAll_congr {cs ds : List Notice} (hbits : causeBits cs = causeBits ds) (v : PerLink Port) :
    raiseAll cs v = raiseAll ds v := by simp only [raiseAll, hbits]

/-- Entry into LOWERING with a LOWER in place (R45, R75). -/
theorem enterLowering_lower (hj : (s.ch p).job = some ⟨src, .lower⟩) : enterLowering p s = { s with
    pch := s.pch.set p (s.lowers p src (s.ch p)), freg := s.freg.set p (s.freg.get p).stopped
    ice := { s.ice with arcs := if s.lines.lowered.get p then s.ice.arcs.set p .empty else s.ice.arcs }
    lnk := raiseAll [.pan] s.lnk, iceEval := true
    longOps := s.longOps.filter fun o => o.kind ≠ .joined p ∧ (s.lines.lowered.get p = true → o.kind ≠ .lower p)
    reports := s.reports ++ if s.lines.lowered.get p then outcomeReports p ⟨src, .lower⟩ .done else [] } := by
  cases hdown : s.lines.lowered.get p with
  | true =>
    have hops : freeLong p (some ⟨src, .lower⟩) (unjoined p s.longOps)
        = s.longOps.filter fun o => o.kind ≠ .joined p ∧ (true = true → o.kind ≠ .lower p) := by
      rw [freeLong, unjoined, List.filter_filter]
      exact List.filter_congr fun o _ => by simp [Bool.and_comm]
    have hchan : s.lowers p src (s.ch p)
        = { (s.lowering (s.ch p)).ended ⟨src, .lower⟩ .done with state := .lowered, role := none } := by
      unfold State.lowers
      rw [if_pos hdown]
      rfl
    have hpan : raiseAll ([.pan] ++ ([.pan] ++ [.pan])) s.lnk = raiseAll [.pan] s.lnk := raiseAll_congr (by decide) _
    rw [enterLowering_done hdown hj, hops, hchan, hpan, if_pos rfl, if_pos rfl]
  | false =>
    have hops : unjoined p s.longOps
        = s.longOps.filter fun o => o.kind ≠ .joined p ∧ (false = true → o.kind ≠ .lower p) :=
      List.filter_congr fun o _ => by simp
    have hchan : s.lowers p src (s.ch p) = s.lowering (s.ch p) := by
      unfold State.lowers State.lowering
      rw [hdown, ← hj]
      rfl
    rw [enterLowering_up hdown, State.goesDown, ← hops, hchan, if_neg (fun h => nomatch h), if_neg (fun h => nomatch h),
      List.append_nil]

/-- A lower request that takes the channel of a pantograph that may go down at once (R47, R56). -/
theorem lowerTaken_eq (p : Pan) (src : Source) (s : State) : enterLowering p (takeOver p src .lower s) = { s with
    pch := s.pch.set p (s.lowers p src ((s.ch p).freedFor src)), freg := s.freg.set p (s.freg.get p).stopped
    ice := { s.ice with arcs := if s.lines.lowered.get p then s.ice.arcs.set p .empty else s.ice.arcs }
    lnk := raiseAll ((s.ch p).preemptedBy src ++ [.pan]) s.lnk, iceEval := true
    longOps := (s.longFreed p ++ startsLong p src .lower).filter fun o =>
      o.kind ≠ .joined p ∧ (s.lines.lowered.get p = true → o.kind ≠ .lower p)
    reports := s.reports ++ (s.ch p).preemptReports p src
      ++ if s.lines.lowered.get p then outcomeReports p ⟨src, .lower⟩ .done else [] } := by
  have hch : (takeOver p src .lower s).ch p = { (s.ch p).freedFor src with job := some ⟨src, .lower⟩ } := by
    rw [takeOver_eq]
    exact PerPan.get_set_same ..
  have hlowers : s.lowers p src { (s.ch p).freedFor src with job := some ⟨src, .lower⟩ }
      = s.lowers p src ((s.ch p).freedFor src) := by
    unfold State.lowers
    split <;> rfl
  rw [enterLowering_lower (src := src) (by rw [hch]), hch, ← hlowers, takeOver_eq]
  simp only [PerPan.set_set, raiseAll_raiseAll]
  rfl

/-! The answers of a lower request, case by case (R47, R57). -/

theorem requestLower_busy (hno : s.admits p src = false) : requestLower p src s = (s, .busy) := by
  unfold requestLower
  rw [hno]
  rfl

theorem requestLower_unavailable (hadm : s.admits p src = true)
    (hout : (s.ch p).state = .dropped ∨ (s.ch p).state = .isolated) : requestLower p src s = (s, .unavailable) := by
  unfold requestLower
  rcases hout with h | h <;> simp [hadm, h]

theorem requestLower_lowered (hadm : s.admits p src = true) (hlow : (s.ch p).state = .lowered) :
    requestLower p src s = (endJob p .done (takeOver p src .lower s), .done) := by
  unfold requestLower
  simp [hadm, hlow]

theorem requestLower_lowering (hadm : s.admits p src = true) (hlow : (s.ch p).state = .lowering) :
    requestLower p src s = (takeOver p src .lower s, .taken) := by
  unfold requestLower
  simp [hadm, hlow]

theorem requestLower_raised (hadm : s.admits p src = true) (hraised : (s.ch p).state.isRaised = true) :
    requestLower p src s = if (s.ch p).role = some .scrape ∨ s.bsc.breaker = .opened
      then (enterLowering p (takeOver p src .lower s), .taken)
      else (openRequest ((takeOver p src .lower s).modPan p fun c => { c with lowerReq := true }), .taken) := by
  unfold requestLower
  cases h : (s.ch p).state with
  | raising | settling | raised => simp [hadm]
  | dropped | isolated | lowered | lowering => rw [h] at hraised; cases hraised

theorem runAuthority_lower (hroof : s.roofRefusal = none) : runAuthority l (.lower p.num) s =
    ((requestLower p (.authority l) s).1, (requestLower p (.authority l) s).2.status) := by
  simp only [runAuthority, cmdLower, hroof, pan_ofNum_num]

/-- The wait of a lower request ends at the breaker OPEN (R47). -/
theorem watchLowerWait_ends (hj : (s.ch p).job = some ⟨src, .lower⟩) (hreq : (s.ch p).lowerReq = true)
    (hopen : s.bsc.breaker = .opened) :
    ∃ u, watchLowerWait p s = some u ∧ u.ch p = s.lowers p src (s.ch p) ∧ s.StopsOnLowering u p ∧ s.OthersStand u p
      ∧ u.longOps = s.longOps.filter (fun o =>
          o.kind ≠ .joined p ∧ (s.lines.lowered.get p = true → o.kind ≠ .lower p))
      ∧ u.reports = s.reports ++ (if s.lines.lowered.get p then outcomeReports p ⟨src, .lower⟩ .done else [])
      ∧ s.Raises u (fun _ => [.pan])
      ∧ { u with pch := s.pch, freg := s.freg, ice := s.ice, lnk := s.lnk, longOps := s.longOps,
                 iceEval := s.iceEval, reports := s.reports } = s := by
  have hwatch : watchLowerWait p s = some (enterLowering p s) := by
    unfold watchLowerWait
    simp [hreq, hopen]
  rw [enterLowering_lower hj] at hwatch
  exact ⟨_, hwatch, PerPan.get_set_same .., ⟨PerPan.get_set_same .., rfl⟩, othersStand_of_set rfl rfl, rfl, rfl,
    raises_of_lnk rfl, rfl⟩

theorem watchLowerWait_none (hno : (s.ch p).lowerReq = false ∨ s.bsc.breaker ≠ .opened) : watchLowerWait p s = none := by
  unfold watchLowerWait
  rcases hno with h | h <;> simp [h]

end Lower

/-- Settles O20: the wait by its end, LOWER by the answers of the request. -/
theorem lowerWaitsForTheBreaker : Obligations.LowerWaitsForTheBreaker := by
  refine ⟨fun p s => ⟨fun src hj hreq hopen => watchLowerWait_ends hj hreq hopen, watchLowerWait_none⟩,
    fun l tag p s hcmd hroof => ?_⟩
  obtain ⟨x, hx⟩ := superviseFrame_eq l s
  have hrun := runAuthority_lower (s := superviseFrame l s) (p := p) (l := l) (by simpa)
  have refused : ∀ {a : LowerAnswer}, requestLower p (.authority l) (superviseFrame l s) = (superviseFrame l s, a) →
      a.status.effective = false ∧ a.status ≠ .illegalSequence →
      exec (.lower l tag p.num) s = .next ((superviseFrame l s).answered l tag 0x09 a.status []) :=
    fun hreq hst => exec_authority_refused (c := .lower p.num) rfl rfl hcmd (hrun.trans (by rw [hreq])) hst.1 hst.2
  have acts : ∀ {u : State} {a : LowerAnswer}, requestLower p (.authority l) (superviseFrame l s) = (u, a) →
      a.status.effective = true →
      exec (.lower l tag p.num) s = .next (settle (u.answered l tag 0x09 a.status [])) := fun hreq heff =>
    exec_authority_acts (c := .lower p.num) rfl rfl hcmd (hrun.trans (by rw [hreq])) heff
  refine ⟨fun hno => refused (requestLower_busy (by rw [hx]; exact hno)) ⟨rfl, fun h => nomatch h⟩, fun hadm => ?_⟩
  have hadm' : (superviseFrame l s).admits p (.authority l) = true := by rw [hx]; exact hadm
  refine ⟨fun hraised hfree => ?atOnce, fun hraised hrole hclosed => ?waits, fun hlow => ?done, fun hlow => ?takes,
    fun hout => refused (requestLower_unavailable hadm' (by simpa)) ⟨rfl, fun h => nomatch h⟩⟩
  case atOnce =>
    have hreq := requestLower_raised hadm' (by simpa)
    rw [if_pos (by simpa), lowerTaken_eq] at hreq
    have hexec := acts hreq rfl
    rw [hx] at hexec ⊢
    refine ⟨_, hexec, answers_of_bits rfl (preemptedBy_pan _ _), PerPan.get_set_same .., ⟨PerPan.get_set_same .., rfl⟩,
      othersStand_of_set rfl rfl, reportsPreempted_of_eq ?_, rfl, rfl⟩
    exact (congrArg (_ ++ ·) (ite_self [])).trans (List.append_nil _)
  case waits =>
    have hreq := requestLower_raised hadm' (by simpa)
    rw [if_neg (by simp [hrole, hclosed]), markTaken_eq] at hreq
    by_cases hb : s.bsc.breaker = .closed ∨ s.bsc.breaker = .closing
    · rw [openRequest_opens (by simpa)] at hreq
      have hexec := acts hreq rfl
      rw [hx] at hexec ⊢
      rw [if_pos hb]
      refine ⟨_, hexec, answers_of_bits (raiseAll_raiseAll ..) ((causeBits_append ..).trans ?_), PerPan.get_set_same ..,
        othersStand_of_ch rfl rfl, reportsPreempted_of_eq rfl, fun _ => ⟨rfl, rfl, rfl, rfl⟩, fun h => ?_⟩
      · rw [causeBits_append, BitVec.or_comm]
        rfl
      · rcases hb with hb | hb <;> rcases h with h | h <;> exact nomatch hb.symm.trans h
    · rw [openRequest_stands (by simpa using hb)] at hreq
      have hexec := acts hreq rfl
      rw [hx] at hexec ⊢
      rw [if_neg hb]
      exact ⟨_, hexec, answers_of_lnk rfl, PerPan.get_set_same .., othersStand_of_ch rfl rfl, reportsPreempted_of_eq rfl,
        fun h => absurd h hb, fun _ => ⟨rfl, rfl⟩⟩
  case done =>
    have hreq := requestLower_lowered hadm' (by simpa)
    rw [endTaken_eq] at hreq
    have hexec := acts hreq rfl
    rw [hx] at hexec ⊢
    exact ⟨_, hexec, answers_of_bits rfl (preemptedBy_pan _ _), PerPan.get_set_same .., othersStand_of_ch rfl rfl,
      reportsPreempted_of_eq (List.append_nil _), rfl, rfl⟩
  case takes =>
    have hreq := requestLower_lowering hadm' (by simpa)
    rw [takeOver_eq] at hreq
    have hexec := acts hreq rfl
    rw [hx] at hexec ⊢
    exact ⟨_, hexec, answers_of_lnk rfl, PerPan.get_set_same .., othersStand_of_ch rfl rfl, reportsPreempted_of_eq rfl, rfl, rfl⟩

section Disconnector

variable {s : State} {p : Pan} {src : Source} {l : Link} {q : DiscPos}

/-! The answers of a move request, case by case (R49, R52, R57). -/

theorem requestDisc_busy (hno : s.admits p src = false) : requestDisc p q src s = (s, .busy) := by
  unfold requestDisc
  dsimp only
  rw [hno]
  rfl

theorem requestDisc_unavailable (hadm : s.admits p src = true) (hout : (s.ch p).state = .dropped ∨ (s.ch p).state = .isolated
      ∨ (s.ch p).state ≠ .lowered ∧ ∀ r, (s.ch p).disc ≠ .moving r) : requestDisc p q src s = (s, .unavailable) := by
  unfold requestDisc
  rcases hout with h | h | ⟨hup, hstill⟩
  · simp [hadm, h]
  · simp [hadm, h]
  · cases hdisc : (s.ch p).disc with
    | moving r => exact absurd hdisc (hstill r)
    | resting r => simp [hadm, hup, hdisc]
    | failed => simp [hadm, hup, hdisc]

/-- A move to the position of a disconnector at rest is done at once (R52). -/
theorem requestDisc_done (hadm : s.admits p src = true) (hlow : (s.ch p).state = .lowered) (hrest : (s.ch p).disc = .resting q) :
    requestDisc p q src s = (endJob p .done (takeOver p src (.discMove q) s), .done) := by
  unfold requestDisc
  simp [hadm, hlow, hrest]

/-- A move to another position, or of a disconnector that moves or has failed, starts (R52). -/
theorem requestDisc_starts (hadm : s.admits p src = true)
    (hmoves : (s.ch p).state = .lowered ∧ ((s.ch p).disc = .failed ∨ ∃ r, r ≠ q ∧ (s.ch p).disc = .resting r)
      ∨ (s.ch p).state ≠ .dropped ∧ (s.ch p).state ≠ .isolated ∧ ∃ r, (s.ch p).disc = .moving r) :
    requestDisc p q src s = (startDisc p q (takeOver p src (.discMove q) s), .taken) := by
  unfold requestDisc
  rcases hmoves with ⟨hlow, hfailed | ⟨r, hr, hrest⟩⟩ | ⟨hdrop, hiso, r, hmove⟩
  · simp [hadm, hlow, hfailed]
  · simp [hadm, hlow, hrest, hr]
  · simp [hadm, hdrop, hiso, hmove]

/-- A move that a request starts (R52, R56). -/
theorem discTaken_eq (p : Pan) (q : DiscPos) (src : Source) (s : State) :
    startDisc p q (takeOver p src (.discMove q) s) = { s with
      pch := s.pch.set p { (s.ch p).freedFor src with
        disc := .moving q, discDrive := some q, discStart := s.clk.time, job := some ⟨src, .discMove q⟩ }
      longOps := s.longFreed p ++ startsLong p src (.discMove q)
      lnk := raiseAll ((s.ch p).preemptedBy src ++ [.pan]) s.lnk
      reports := s.reports ++ (s.ch p).preemptReports p src } := by
  rw [startDisc, changePan_eq, takeOver_eq, ← raiseAll_raiseAll]
  simp only [State.ch, PerPan.get_set_same, PerPan.set_set]
  rfl

theorem discPosOf_num (q : DiscPos) : discPosOf (DiscPos.num q) = some q := by cases q <;> rfl

theorem runAuthority_discSet (hroof : s.roofRefusal = none) : runAuthority l (.discSet p.num (DiscPos.num q)) s =
    ((requestDisc p q (.authority l) s).1, (requestDisc p q (.authority l) s).2.status) := by
  simp only [runAuthority, cmdDiscSet, hroof, pan_ofNum_num, discPosOf_num]

end Disconnector

/-- Settles O21, by the answers of the move request. -/
theorem discSetMovesTheDisconnector : Obligations.DiscSetMovesTheDisconnector := by
  intro l tag p q s hcmd hroof
  obtain ⟨x, hx⟩ := superviseFrame_eq l s
  have hrun := runAuthority_discSet (s := superviseFrame l s) (p := p) (q := q) (l := l) (by simpa)
  have refused : ∀ {a : DiscAnswer}, requestDisc p q (.authority l) (superviseFrame l s) = (superviseFrame l s, a) →
      a.status.effective = false ∧ a.status ≠ .illegalSequence →
      exec (.discSet l tag p.num (DiscPos.num q)) s = .next ((superviseFrame l s).answered l tag 0x0A a.status []) :=
    fun hreq hst =>
      exec_authority_refused (c := .discSet p.num (DiscPos.num q)) rfl rfl hcmd (hrun.trans (by rw [hreq])) hst.1 hst.2
  have acts : ∀ {u : State} {a : DiscAnswer}, requestDisc p q (.authority l) (superviseFrame l s) = (u, a) →
      a.status.effective = true →
      exec (.discSet l tag p.num (DiscPos.num q)) s = .next (settle (u.answered l tag 0x0A a.status [])) := fun hreq heff =>
    exec_authority_acts (c := .discSet p.num (DiscPos.num q)) rfl rfl hcmd (hrun.trans (by rw [hreq])) heff
  refine ⟨fun hno => refused (requestDisc_busy (by rw [hx]; exact hno)) ⟨rfl, fun h => nomatch h⟩, fun hadm => ?_⟩
  have hadm' : (superviseFrame l s).admits p (.authority l) = true := by rw [hx]; exact hadm
  refine ⟨fun hlow hrest => ?done, fun hmoves => ?starts,
    fun hout => refused (requestDisc_unavailable hadm' (by simpa)) ⟨rfl, fun h => nomatch h⟩⟩
  case done =>
    have hreq := requestDisc_done (q := q) hadm' (by simpa) (by simpa)
    rw [endTaken_eq] at hreq
    have hexec := acts hreq rfl
    rw [hx] at hexec ⊢
    exact ⟨_, hexec, answers_of_bits rfl (preemptedBy_pan _ _), PerPan.get_set_same .., othersStand_of_ch rfl rfl,
      reportsPreempted_of_eq (List.append_nil _), rfl, rfl⟩
  case starts =>
    have hreq := requestDisc_starts (q := q) hadm' (by simpa)
    rw [discTaken_eq] at hreq
    have hexec := acts hreq rfl
    rw [hx] at hexec ⊢
    exact ⟨_, hexec, answers_of_bits rfl (preemptedBy_pan _ _), PerPan.get_set_same .., othersStand_of_ch rfl rfl,
      reportsPreempted_of_eq rfl, rfl, rfl⟩

end Sys2Proof.Machine

/-! ### The map: staging, arming, returns and MAP_INSERT (R98 to R101, R104 to R107) -/

namespace Sys2Proof.Machine

section MapForms

variable {s t u : State} {e : Entry} {cs ds : Link → List Notice}

theorem firstSome_two {α : Type} (a b : Option α) : firstSome [a, b] = if a.isSome then a else b := by
  cases a <;> cases b <;> rfl

theorem stage_eq_staged (s : State) (e : Entry) : stage s e = s.staged e := by
  have htarget : ∀ y, s.stagedTarget y =
      if (s.cfg.items.panPreferred.get y).any (s.eligible y) then s.cfg.items.panPreferred.get y
      else if (s.cfg.items.panAlternate.get y).any (s.eligible y) then s.cfg.items.panAlternate.get y
      else none := fun y => by
    unfold State.stagedTarget
    rw [firstSome_two]
    cases s.cfg.items.panPreferred.get y with
    | none => cases s.cfg.items.panAlternate.get y <;> simp [Option.filter]
    | some p => cases s.cfg.items.panAlternate.get y <;> cases hp : s.eligible y p <;> simp [Option.filter, hp]
  unfold stage State.staged
  cases e.sect with
  | systemChange y w n =>
    have heligible : s.eligible y = fun p =>
        decide (s.cfg.items.panClass.get p = y.cls ∧ ((s.ch p).state = .lowered ∨ (s.ch p).state.isRaised = true)) :=
      funext fun p => by simp [State.eligible]
    simp only [htarget, heligible]
  | neutral n => rfl
  | lowerZone => rfl

theorem arms_iff (s : State) (e : Entry) : s.arms e = true ↔ e.state = .pending
    ∧ e.start * 1000 ≤ s.trv.front + s.cfg.items.armDistance * 1000 ∧ s.trv.direction = .normal ∧ s.seq.mode = .inService := by
  simp only [State.arms, Bool.and_eq_true, decide_eq_true_eq, and_assoc]
  exact Iff.rfl.and (decide_eq_true_iff.and Iff.rfl)

/-- An entry that a movement leaves, by the model's two tests (R104, R105). -/
theorem moved_eq (s : State) (back : Entry → Bool) (e : Entry) :
    s.moved back e = armEntry s (if e.state = .armed ∧ back e = true then disarm e else e) := by
  generalize hd : (if e.state = .armed ∧ back e = true then disarm e else e) = d
  have hstart : d.start = e.start := by
    rw [← hd]
    split <;> rfl
  have hmoved : s.moved back e = if d.state = .pending
      ∧ e.start * 1000 ≤ s.trv.front + s.cfg.items.armDistance * 1000 ∧ s.trv.direction = .normal ∧ s.seq.mode = .inService
      then s.staged { d with state := .armed } else d := by
    rw [← hd]
    rfl
  rw [hmoved, armEntry]
  simp only [arms_iff, hstart, stage_eq_staged]

/-- An evaluation for arming (R104). -/
theorem armWhere_eq (f : Entry → Bool) (s : State) : ∃ action, armWhere f s = { s with
    map := { s.map with entries := s.map.entries.map fun e => if f e then armEntry s e else e, action := action }
    lnk := raiseAll (if ∃ e ∈ s.map.entries, f e = true ∧ s.arms e = true then [.entry] else []) s.lnk } := by
  unfold armWhere
  by_cases hany : ∃ e ∈ s.map.entries, f e = true ∧ s.arms e = true
  · rw [if_pos (by simpa using hany), if_pos hany, notice_eq]
    unfold refreshAction
    split <;> exact ⟨_, rfl⟩
  · rw [if_neg (by simpa using hany), if_neg hany, raiseAll_nil]
    refine ⟨s.map.action, ?_⟩
    have hsame : s.map.entries.map (fun e => if f e then armEntry s e else e) = s.map.entries := by
      rw [List.map_congr_left (g := id), List.map_id]
      intro e he
      split
      · next hf =>
        have harms : ¬ s.arms e = true := fun h => hany ⟨e, he, hf, h⟩
        rw [armEntry, if_neg harms]
        rfl
      · rfl
    rw [hsame]

/-- A return of ARMED entries (R105). -/
theorem returnWhere_eq (f : Entry → Bool) (s : State) : ∃ action, returnWhere f s = { s with
    map := { s.map with
      entries := s.map.entries.map fun e => if e.state = .armed ∧ f e = true then disarm e else e, action := action }
    lnk := raiseAll (if ∃ e ∈ s.map.entries, e.state = .armed ∧ f e = true then [.entry] else []) s.lnk } := by
  unfold returnWhere
  dsimp only
  have hmap : s.map.entries.map (fun e => if (decide (e.state = .armed) && f e) = true then disarm e else e)
      = s.map.entries.map fun e => if e.state = .armed ∧ f e = true then disarm e else e :=
    List.map_congr_left fun e _ => by simp
  by_cases hany : ∃ e ∈ s.map.entries, e.state = .armed ∧ f e = true
  · rw [if_pos (by simpa using hany), if_pos hany, notice_eq]
    simp only [← hmap]
    unfold refreshAction
    split <;> exact ⟨_, rfl⟩
  · rw [if_neg (by simpa using hany), if_neg hany, raiseAll_nil]
    refine ⟨s.map.action, ?_⟩
    have hsame : s.map.entries.map (fun e => if e.state = .armed ∧ f e = true then disarm e else e) = s.map.entries := by
      rw [List.map_congr_left (g := id), List.map_id]
      intro e he
      rw [if_neg fun h => hany ⟨e, he, h⟩]
      rfl
    rw [hsame]

theorem stage_state (s : State) (e : Entry) : (stage s e).state = e.state := by
  unfold stage
  split <;> rfl

/-- An evaluation for arming leaves an entry ARMED exactly where it arms it, or found it so (R104). -/
theorem armEntry_armed (s : State) (e : Entry) : (armEntry s e).state = .armed ↔ e.state = .armed ∨ s.arms e = true := by
  unfold armEntry
  split
  · next h => simp [stage_state, h]
  · next h => simp [h]

/-- An evaluation for arming and a staging change the state and the target alone (R104, R106). -/
theorem armEntry_fields (s : State) (e : Entry) : (armEntry s e).id = e.id ∧ (armEntry s e).sect = e.sect
    ∧ (armEntry s e).start = e.start ∧ (armEntry s e).length = e.length ∧ (armEntry s e).source = e.source
    ∧ (armEntry s e).late = e.late := by
  unfold armEntry stage
  split
  · split <;> exact ⟨rfl, rfl, rfl, rfl, rfl, rfl⟩
  · exact ⟨rfl, rfl, rfl, rfl, rfl, rfl⟩

theorem State.Raises.trans (h : s.Raises t cs) (k : t.Raises u ds) : s.Raises u fun l => cs l ++ ds l := fun l => by
  rw [k l, h l, causeBits_append, BitVec.or_assoc]

end MapForms

section Insert

variable {s t u : State} {l : Link} {sect : Section} {start length : Nat}

/-- What a taken insertion does (R99, R101, R104). -/
theorem insertEntry_eq (l : Link) (sect : Section) (start length : Nat) (s : State) (hroom : s.map.entries.length ≤ 64) :
    ∃ before after action, s.map.entries = before ++ after
      ∧ (∀ d ∈ before, d.start ≤ start) ∧ (∀ d ∈ after.head?, start < d.start)
      ∧ insertEntry l sect start length s = { s with
          map := { s.map with
            entries := before ++ armEntry s ⟨s.offeredId, sect, start, length, l, .pending, none, false, false⟩ :: after
            nextId := nextId s.offeredId, action := action }
          lnk := (insertEntry l sect start length s).lnk, iceEval := true }
      ∧ s.Raises (insertEntry l sect start length s) fun k => (if k = l then [] else [.map])
          ++ if s.arms ⟨s.offeredId, sect, start, length, l, .pending, none, false, false⟩ then [.entry] else [] := by
  generalize he : (⟨s.offeredId, sect, start, length, l, .pending, none, false, false⟩ : Entry) = e
  obtain ⟨before, after, hsplit, hplace, hbefore, hafter⟩ := placeEntry_split e s.map.entries
  have hfree := offeredId_free hroom
  have hid : e.id = s.offeredId := by rw [← he]
  have hstart : e.start = start := by rw [← he]
  obtain ⟨t, ht⟩ : ∃ t, t = noticeOthers l .map (s.modMap fun m => { m with
      entries := placeEntry e m.entries, nextId := nextId s.offeredId }) := ⟨_, rfl⟩
  have hins : insertEntry l sect start length s = (armWhere (fun d => d.id = s.offeredId) t).setIceEval true := by
    rw [ht, ← he]
    rfl
  have hentries : t.map.entries = before ++ e :: after := by
    rw [ht, noticeOthers_eq, ← hplace]
    rfl
  have harms : ∀ d, t.arms d = s.arms d := fun d => by rw [ht, noticeOthers_eq]; rfl
  have harm : armEntry t e = armEntry s e := by rw [ht, noticeOthers_eq]; rfl
  have hothers : ∀ d ∈ before ++ after, d.id ≠ s.offeredId := fun d hd => hfree d (hsplit ▸ hd)
  have hmap : (t.map.entries.map fun d => if decide (d.id = s.offeredId) then armEntry t d else d)
      = before ++ armEntry s e :: after := by
    have hsame : ∀ ds : List Entry, (∀ d ∈ ds, d.id ≠ s.offeredId) →
        ds.map (fun d => if decide (d.id = s.offeredId) then armEntry t d else d) = ds := fun ds hds => by
      rw [List.map_congr_left (g := id), List.map_id]
      exact fun d hd => if_neg (by simpa using hds d hd)
    rw [hentries, List.map_append, List.map_cons, hsame before fun d hd => hothers d (List.mem_append_left _ hd),
      hsame after fun d hd => hothers d (List.mem_append_right _ hd), if_pos (by simpa using hid), harm]
  have hany : (∃ d ∈ t.map.entries, decide (d.id = s.offeredId) = true ∧ t.arms d = true) ↔ s.arms e = true := by
    rw [hentries]
    constructor
    · rintro ⟨d, hd, hdid, hdarms⟩
      rcases List.mem_append.1 hd with hd | hd
      · exact absurd (by simpa using hdid) (hothers d (List.mem_append_left _ hd))
      · rcases List.mem_cons.1 hd with rfl | hd
        · rwa [harms] at hdarms
        · exact absurd (by simpa using hdid) (hothers d (List.mem_append_right _ hd))
    · exact fun h => ⟨e, by simp, by simpa using hid, by rwa [harms]⟩
  obtain ⟨action, harmed⟩ := armWhere_eq (fun d => d.id = s.offeredId) t
  rw [hmap] at harmed
  have hraises : s.Raises (insertEntry l sect start length s) fun k =>
      (if k = l then [] else [.map]) ++ if s.arms e = true then [.entry] else [] := by
    have hmapped : s.Raises t fun k => if k = l then [] else [.map] := by
      rw [ht]
      exact noticeOthers_raises l .map (s.modMap _)
    rw [hins, harmed]
    simp only [hany]
    exact hmapped.trans (raises_of_lnk rfl)
  refine ⟨before, after, action, hsplit, hstart ▸ hbefore, hstart ▸ hafter, ?_, hraises⟩
  rw [hins, harmed, ht, noticeOthers_eq]
  rfl

end Insert

/-- Settles O28: the placed entry splits the map, and the evaluation for arming tests it alone. -/
theorem mapInsertPlacesAnEntry : Obligations.MapInsertPlacesAnEntry := by
  intro l tag kind start length after swap limit sect s hfree hroom hmode hstart hlo hhi hsect hrefuse
  obtain ⟨x, hx⟩ := superviseFrame_eq l s
  have hins : insertSection kind start length after swap limit = some sect := by
    rw [insertSection, if_pos ⟨hstart, hlo, hhi⟩, hsect]
  have hrun : runCmd l tag (.mapInsert kind start length after swap limit) (superviseFrame l s)
      = query (insertEntry l sect start length (superviseFrame l s)) (be 2 s.offeredId) := by
    simp only [runCmd, cmdMapInsert, superviseFrame_seq, if_neg hmode, hins, superviseFrame_insertRefusal, hrefuse]
    rw [hx]
    rfl
  have hexec := exec_roof_ok (r := .mapInsert l tag kind start length after swap limit) rfl rfl hfree hrun
  obtain ⟨before, behind, action, hsplit, hbefore, hbehind, hinsert, hraises⟩ :=
    insertEntry_eq l sect start length (superviseFrame l s) (by simpa)
  rw [raises_superviseFrame] at hraises
  have hentry : s.moved (fun _ => false) ⟨s.offeredId, sect, start, length, l, .pending, none, false, false⟩
      = armEntry s ⟨s.offeredId, sect, start, length, l, .pending, none, false, false⟩ := by
    rw [moved_eq, if_neg (fun h => nomatch h.2)]
  rw [hentry]
  have hx' : ∀ e, armEntry (superviseFrame l s) e = armEntry s e := fun e => by rw [hx]; rfl
  have harms : ∀ e, (superviseFrame l s).arms e = s.arms e := fun e => by rw [hx]; rfl
  have hid : (superviseFrame l s).offeredId = s.offeredId := by rw [hx]; rfl
  rw [hx', hid] at hinsert
  simp only [harms, hid] at hraises
  rw [superviseFrame_map] at hsplit
  generalize insertEntry l sect start length (superviseFrame l s) = v at *
  generalize he : (⟨s.offeredId, sect, start, length, l, .pending, none, false, false⟩ : Entry) = e at *
  obtain ⟨eid, esect, estart, elength, esource, elate⟩ := armEntry_fields s e
  have hmap : v.map.entries = before ++ armEntry s e :: behind := congrArg (·.map.entries) hinsert
  have hpending : e.state ≠ .armed := by rw [← he]; exact fun h => nomatch h
  have hbits : (if (armEntry s e).state = .armed then [Notice.entry] else []) = if s.arms e = true then [.entry] else [] :=
    if_congr ((armEntry_armed s e).trans (or_iff_right hpending)) rfl rfl
  refine ⟨_, hexec, ⟨armEntry s e, ?_, rfl, ?_, ?_, ?_, ?_, ?_, ?_, ?_⟩, offeredId_free hroom,
    ⟨before, behind, hsplit, hmap, hbefore, hbehind⟩, fun y => ?_, ?_, ?_, ?_⟩
  · exact hmap ▸ List.mem_append_right _ (.head _)
  · rw [eid, ← he]
  · rw [esect, ← he]
  · rw [estart, ← he]
  · rw [elength, ← he]
  · rw [esource, ← he]
  · rw [elate, ← he]
  · rw [hbits]
    exact hraises.answered
  · have hspan : ((armEntry s e).id, (armEntry s e).start, (armEntry s e).length) = (s.offeredId, start, length) := by
      rw [eid, estart, elength, ← he]
    have hspans : (v.answered l tag (Cmd.mapInsert kind start length after swap limit).code .ok (be 2 s.offeredId)).spans
        = v.map.entries.map fun e => (e.id, e.start, e.length) := rfl
    rw [hspans, hmap, State.spans, hsplit, List.map_append, List.map_append, List.map_cons, hspan]
    simp only [List.mem_append, List.mem_cons]
    tauto
  · exact (congrArg (·.map.nextId) hinsert).trans rfl
  · exact (congrArg (·.map.lastRemoval) hinsert).trans (by rw [superviseFrame_map])
  · have hrest : { v with map := s.map, lnk := s.lnk, iceEval := s.iceEval } = superviseFrame l s := by
      rw [hinsert, hx]
    exact hrest

end Sys2Proof.Machine

/-! ### Configuration: CONFIG_WRITE, CONFIG_COMMIT, CONFIG_REOPEN (R14, R193 to R196) -/

namespace Sys2Proof.Machine

section Commit

variable {s : State} {it : Items} {tables : PerClass (List Nat)} {r : CommitReport} {l : Link} {tag : Byte} {item x v : Nat}

theorem forall_pan {P : Pan → Prop} : (∀ q, P q) ↔ P .p1 ∧ P .p2 ∧ P .p3 ∧ P .p4 :=
  ⟨fun h => ⟨h _, h _, h _, h _⟩, fun ⟨h1, h2, h3, h4⟩ q => by cases q <;> assumption⟩

theorem forall_sys {P : LineSys → Prop} : (∀ y, P y) ↔ P .ac25 ∧ P .ac15 ∧ P .dc30 ∧ P .dc15 :=
  ⟨fun h => ⟨h _, h _, h _, h _⟩, fun ⟨h1, h2, h3, h4⟩ y => by cases y <;> assumption⟩

/-- The first pantograph that a test finds is the one of the lowest number. -/
theorem find_pan_eq_some {f : Pan → Bool} {p : Pan} :
    Pan.all.find? f = some p ↔ f p = true ∧ ∀ q, q.num < p.num → f q = false := by
  rw [forall_pan]
  cases p <;> cases h1 : f .p1 <;> cases h2 : f .p2 <;> cases h3 : f .p3 <;> cases h4 : f .p4 <;>
    simp [Pan.all, List.find?, Pan.num, h1, h2, h3, h4]

theorem find_sys_eq_some {f : LineSys → Bool} {y : LineSys} :
    LineSys.every.find? f = some y ↔ f y = true ∧ ∀ z, LineSys.num z < LineSys.num y → f z = false := by
  rw [forall_sys]
  cases y <;> cases h1 : f .ac25 <;> cases h2 : f .ac15 <;> cases h3 : f .dc30 <;> cases h4 : f .dc15 <;>
    simp [LineSys.every, List.find?, LineSys.num, h1, h2, h3, h4]

theorem validForce_iff {f : Nat} : validForce f = true ↔ 40 ≤ f ∧ f ≤ 200 := by
  rw [validForce, Bool.and_eq_true]
  exact decide_eq_true_iff.and decide_eq_true_iff

theorem pointsPass_iff : (tables.ac.all validForce && tables.dc.all validForce) = true ↔ PointsPass tables := by
  simp only [Bool.and_eq_true, List.all_eq_true, validForce_iff, PointsPass]
  exact ⟨fun h f hf => hf.elim (h.1 f) (h.2 f), fun h => ⟨fun f hf => h f (.inl hf), fun f hf => h f (.inr hf)⟩⟩

theorem targetsValid_iff (y : LineSys) : targetsValid it y = true ↔ TargetsPass it y := by
  unfold targetsValid TargetsPass
  rw [Bool.and_eq_true, Option.all_eq_true, Option.all_eq_true]
  simp only [decide_eq_true_eq]
  exact ⟨fun h p hp => hp.elim (h.1 p) (h.2 p), fun h => ⟨fun p hp => h p (.inl hp), fun p hp => h p (.inr hp)⟩⟩

/-- The first pantograph that check 2 finds (R195). -/
theorem findPosition_iff {p : Pan} : Pan.all.find? (fun p => decide (it.carLength < it.panPosition.get p)) = some p
    ↔ ¬ PositionPasses it p ∧ ∀ q : Pan, q.num < p.num → PositionPasses it q := by
  simp [find_pan_eq_some, PositionPasses]

theorem findPosition_none : Pan.all.find? (fun p => decide (it.carLength < it.panPosition.get p)) = none
    ↔ ∀ p, PositionPasses it p := by
  have hall : ∀ p : Pan, p ∈ Pan.all := fun p => by cases p <;> decide
  simp [List.find?_eq_none, PositionPasses, hall]

/-- The first line system that check 3 finds (R195). -/
theorem findTarget_iff {y : LineSys} : LineSys.every.find? (fun y => !targetsValid it y) = some y
    ↔ ¬ TargetsPass it y ∧ ∀ z, LineSys.num z < LineSys.num y → TargetsPass it z := by
  simp only [find_sys_eq_some, Bool.not_eq_true', Bool.not_eq_false', ← targetsValid_iff, Bool.not_eq_true]

theorem findTarget_none : LineSys.every.find? (fun y => !targetsValid it y) = none ↔ ∀ y, TargetsPass it y := by
  have hall : ∀ y : LineSys, y ∈ LineSys.every := fun y => by cases y <;> decide
  simp only [List.find?_eq_none, hall, true_imp_iff, Bool.not_eq_true', Bool.not_eq_false, ← targetsValid_iff]

/-- What the checks of CONFIG_COMMIT report (R195). -/
theorem commitCheck_eq_some : commitCheck it tables = some r ↔ FirstFailed it tables r := by
  unfold commitCheck
  by_cases hpoints : PointsPass tables
  · rw [if_neg (by simp only [pointsPass_iff.2 hpoints]; decide)]
    cases hfind : Pan.all.find? fun p => it.carLength < it.panPosition.get p with
    | some p =>
      have hbad := (findPosition_iff.1 hfind).1
      cases r with
      | success | points => simp [FirstFailed, hpoints]
      | position q => simp only [FirstFailed, hpoints, true_and, ← findPosition_iff, hfind, Option.some.injEq,
          CommitReport.position.injEq]
      | target y => simp only [FirstFailed, reduceCtorEq, Option.some.injEq, false_iff]; exact fun h => hbad (h.2.1 p)
    | none =>
      have hgood := findPosition_none.1 hfind
      cases r with
      | success | points => simp [FirstFailed, hpoints]
      | position q => simp [FirstFailed, hgood]
      | target y => simp [FirstFailed, hpoints, hgood, ← findTarget_iff]
  · rw [if_pos (by simpa only [Bool.not_eq_true', ← Bool.not_eq_true, pointsPass_iff] using hpoints)]
    cases r <;> simp [FirstFailed, hpoints]

theorem commitCheck_eq_none : commitCheck it tables = none ↔ ChecksPass it tables := by
  unfold commitCheck ChecksPass
  by_cases hpoints : PointsPass tables
  · rw [if_neg (by simp only [pointsPass_iff.2 hpoints]; decide), ← findPosition_none, ← findTarget_none]
    cases hfind : Pan.all.find? fun p => it.carLength < it.panPosition.get p <;> simp [hpoints]
  · rw [if_pos (by simpa only [Bool.not_eq_true', ← Bool.not_eq_true, pointsPass_iff] using hpoints)]
    simp [hpoints]

theorem commitCheck_isSome : (commitCheck it tables).isSome = true ↔ ¬ ChecksPass it tables := by
  rw [← commitCheck_eq_none, Option.isSome_iff_ne_none]

theorem configMode_iff (s : State) : s.configMode = true ↔ s.Configures := by
  simp [State.configMode, State.Configures]

theorem arcsCross_iff : arcsCross it = true ↔ it.arcSet ≤ it.arcClear := decide_eq_true_iff

/-- What a taken CONFIG_WRITE does (R14, R194). -/
theorem writeItem_eq (item : Nat) (it : Items) (s : State) : writeItem item it s = { s with
    cfg := { s.cfg with items := it }
    trv := { s.trv with offsets :=
      if item = 3 ∨ item = 4 then ({ s with cfg := { s.cfg with items := it } } : State).offsetsNow else s.trv.offsets } } := by
  unfold writeItem
  dsimp only
  split <;> rfl

/-- The offsets of settings, one by one (R12). -/
theorem offsetsNow_get (s : State) (p : Pan) : s.offsetsNow.get p = match s.auth.leading with
    | .endA => s.trv.fA + s.cfg.items.panPosition.get p
    | .endB => s.trv.fB + (s.cfg.items.carLength - s.cfg.items.panPosition.get p) := by
  cases p <;> rfl

end Commit

section ConfigWrite

variable {s : State} {l : Link} {tag : Byte} {item x v : Nat} {slot : Slot} {st : Status}

theorem exec_configWrite_refused (hfree : s.free l)
    (hrun : fromM l (configWrite item x v (superviseFrame l s)) (superviseFrame l s) = refuse (superviseFrame l s) st)
    (heff : st.effective = false) (hst : st ≠ .illegalSequence) :
    exec (.configWrite l tag item x v) s = .next ((superviseFrame l s).answered l tag 0x28 st []) :=
  exec_roof_refused (x := .configWrite item x v) rfl rfl hfree hrun heff hst

theorem fromM_of_other (hl : l ≠ .m) (r : State × Status) : fromM l r s = refuse s .authNotHeld := if_pos hl

theorem fromM_of_m (hl : l = .m) (r : State × Status) : fromM l r s = bare r := if_neg (not_not.2 hl)

theorem configWrite_notQuiescent (hno : ¬ s.Configures) : configWrite item x v s = (s, .notQuiescent) := by
  unfold configWrite
  rw [Bool.eq_false_iff.2 (mt (configMode_iff s).1 hno)]
  rfl

theorem configWrite_noItem (hcfg : s.Configures) (hno : ¬ ItemExists item x) : configWrite item x v s = (s, .badOperand) := by
  have hslot : slotOf item x = none := by
    cases h : slotOf item x with
    | none => rfl
    | some slot => exact absurd (slotOf_fits h).exist hno
  unfold configWrite
  rw [(configMode_iff s).2 hcfg, hslot]
  rfl

/-- CONFIG_WRITE of an item, by its tests in their order (R193, R194). -/
theorem configWrite_slot (hcfg : s.Configures) (hslot : slotOf item x = some slot) : configWrite item x v s =
    if v < slot.lo ∨ slot.hi < v then (s, .badOperand)
    else if (slot.write v s.cfg.items).arcSet ≤ (slot.write v s.cfg.items).arcClear then (s, .badOperand)
    else if s.seq.mode = .inService ∧ (commitCheck (slot.write v s.cfg.items) s.cfg.tables).isSome = true then (s, .configInvalid)
    else (writeItem item (slot.write v s.cfg.items) s, .ok) := by
  unfold configWrite
  rw [(configMode_iff s).2 hcfg, hslot]
  simp only [Bool.not_true, Bool.or_eq_true, decide_eq_true_eq, arcsCross_iff]
  rfl

end ConfigWrite

/-- Settles O37: the slot of an item has the range of Table 11-1, and the tests come in their order. -/
theorem configWriteWritesTheItem : Obligations.ConfigWriteWritesTheItem := by
  intro l tag item x v s hfree
  obtain ⟨y, hy⟩ := superviseFrame_eq l s
  refine ⟨fun hl => ?other, fun hl hmode hquiet => ?mode, fun hl hcfg => ⟨slotOf_isSome, fun hno => ?noItem, fun slot hslot => ?item⟩⟩
  case other => exact exec_configWrite_refused hfree (fromM_of_other hl _) rfl (fun h => nomatch h)
  case mode =>
    have hno : ¬ (superviseFrame l s).Configures := by
      rw [hy]
      rintro (h | h)
      · exact hmode h
      · exact absurd (hquiet.symm.trans h) (fun h => nomatch h)
    exact exec_configWrite_refused hfree ((fromM_of_m hl _).trans (congrArg bare (configWrite_notQuiescent hno))) rfl
      (fun h => nomatch h)
  case noItem =>
    exact exec_configWrite_refused hfree ((fromM_of_m hl _).trans (congrArg bare
      (configWrite_noItem (by rw [hy]; exact hcfg) hno))) rfl (fun h => nomatch h)
  case item =>
    have hfits := slotOf_fits hslot
    have hwrite := configWrite_slot (s := superviseFrame l s) (v := v) (by rw [hy]; exact hcfg) hslot
    simp only [superviseFrame_cfg, superviseFrame_seq] at hwrite
    refine ⟨hfits.range, fun hbad => ?_, fun hlo hhi harcs hset hclear => ⟨fun hmode hfail => ?_, fun hpass => ?_⟩⟩
    · have hrun : configWrite item x v (superviseFrame l s) = (superviseFrame l s, .badOperand) := ?_
      · exact exec_configWrite_refused hfree ((fromM_of_m hl _).trans (congrArg bare hrun)) rfl (fun h => nomatch h)
      rw [hwrite]
      by_cases hrange : v < slot.lo ∨ slot.hi < v
      · rw [if_pos hrange]
      · rw [if_neg hrange, if_pos]
        rw [hfits.arcSet, hfits.arcClear]
        rcases hbad with h | h | ⟨rfl, h⟩ | ⟨rfl, h⟩
        · exact absurd (.inl h) hrange
        · exact absurd (.inr h) hrange
        · simpa using h
        · simpa using h
    all_goals
      have hrange : ¬ (v < slot.lo ∨ slot.hi < v) := by omega
      have hcross : ¬ (slot.write v s.cfg.items).arcSet ≤ (slot.write v s.cfg.items).arcClear := by
        rw [hfits.arcSet, hfits.arcClear]
        split <;> split <;> omega
      rw [if_neg hrange, if_neg hcross] at hwrite
    · rw [if_pos ⟨hmode, commitCheck_isSome.2 hfail⟩] at hwrite
      exact exec_configWrite_refused hfree ((fromM_of_m hl _).trans (congrArg bare hwrite)) rfl (fun h => nomatch h)
    · rw [if_neg (fun h => hpass.elim (fun hp => by rw [hp] at h; cases h.1) (commitCheck_isSome.1 h.2)), writeItem_eq] at hwrite
      have hexec := exec_roof_acts (i := .configWrite l tag item x v) rfl rfl hfree
        ((fromM_of_m hl _).trans (congrArg bare hwrite)) rfl
      rw [hy] at hexec ⊢
      refine ⟨_, hexec, answers_of_lnk (raiseAll_nil _).symm, rfl, hfits.readBack v _ hlo hhi, rfl, fun h34 q => ?_,
        fun h3 h4 => ?_, rfl⟩
      · exact (congrArg (PerPan.get · q) (if_pos h34)).trans (offsetsNow_get _ q)
      · exact congrArg (fun o => { s.trv with offsets := o }) (if_neg (not_or.2 ⟨h3, h4⟩))

end Sys2Proof.Machine

/-! ### CONFIG_COMMIT, CONFIG_REOPEN and the configuration of pantographs and force points (R62, R66, R67, R193 to R196) -/

namespace Sys2Proof.Machine

section Commit

variable {s u : State} {l : Link} {tag : Byte} {st : Status} {i : Instr} {c : Cmd}

theorem mem_pan_all (p : Pan) : p ∈ Pan.all := by cases p <;> decide

theorem quiescent_iff (s : State) : s.quiescent = true ↔ s.seq.mode = .inService
    ∧ (∀ p, (s.ch p).state = .lowered ∨ (s.ch p).state = .isolated)
    ∧ s.bsc.breaker = .opened ∧ s.trv.speed = 0 ∧ ∀ e ∈ s.map.entries, e.state ≠ .active := by
  have hlocked : (!s.entryActive) = true ↔ ∀ e ∈ s.map.entries, e.state ≠ .active := by
    rw [Bool.not_eq_true', ← Bool.not_eq_true, entryActive_iff, not_not]
  simp [State.quiescent, mem_pan_all, hlocked, State.standstill, and_assoc]

/-- An evaluation for arming changes an entry exactly where it arms it (R104). -/
theorem armEntry_eq_self (s : State) (e : Entry) : armEntry s e = e ↔ ¬ s.arms e = true := by
  constructor
  · intro h harms
    have hstate := (armEntry_armed s e).2 (.inr harms)
    rw [h] at hstate
    exact absurd (hstate.symm.trans ((arms_iff s e).1 harms).1) (fun h => nomatch h)
  · exact fun h => if_neg h

/-- An evaluation of every PENDING entry (R104). -/
theorem armAll_eq (s : State) : ∃ action, armAll s = { s with
    map := { s.map with entries := s.map.entries.map (armEntry s), action := action }
    lnk := raiseAll (if s.map.entries.map (armEntry s) = s.map.entries then [] else [.entry]) s.lnk } := by
  obtain ⟨action, h⟩ := armWhere_eq (fun _ => true) s
  refine ⟨action, ?_⟩
  have hsame : s.map.entries.map (armEntry s) = s.map.entries ↔ ¬ ∃ e ∈ s.map.entries, True ∧ s.arms e = true := by
    have hself : s.map.entries.map (armEntry s) = s.map.entries.map id ↔ ∀ e ∈ s.map.entries, armEntry s e = id e :=
      List.map_inj_left
    rw [List.map_id] at hself
    simp [hself, armEntry_eq_self]
  rw [armAll, h]
  simp only [hsame, if_true, ite_not]

theorem armEntry_span' (s : State) (e : Entry) : ((armEntry s e).id, (armEntry s e).start, (armEntry s e).length)
    = (e.id, e.start, e.length) := by
  obtain ⟨hid, -, hstart, hlength, -⟩ := armEntry_fields s e
  rw [hid, hstart, hlength]

/-- What the removal of several entries does (R103). -/
theorem removeAll_eq (es : List Entry) (r : RemovalReason) (s : State) : ∃ action eval, removeAll es r s = { s with
    map := { s.map with
      entries := s.map.entries.filter fun d => es.all fun e => decide (d.id ≠ e.id)
      action := action
      lastRemoval := match es.getLast? with
        | some e => some ⟨e.id, e.sect, r, s.clk.time, s.trv.front / 1000⟩
        | none => s.map.lastRemoval }
    iceEval := eval } := by
  induction es generalizing s with
  | nil => exact ⟨s.map.action, s.iceEval, by simp [removeAll]⟩
  | cons e es ih =>
    obtain ⟨action, heq⟩ := removeEntry_eq e r s
    obtain ⟨action', eval, hrest⟩ := ih (removeEntry e r s)
    refine ⟨action', eval, ?_⟩
    have hcons : removeAll (e :: es) r s = removeAll es r (removeEntry e r s) := rfl
    have hentries : (s.map.entries.filter fun d => d.id ≠ e.id).filter (fun d => es.all fun e => decide (d.id ≠ e.id))
        = s.map.entries.filter fun d => (e :: es).all fun e => decide (d.id ≠ e.id) := by
      rw [List.filter_filter]
      exact List.filter_congr fun d _ => by rw [List.all_cons, Bool.and_comm]
    rw [hcons, hrest, heq, ← hentries, List.getLast?_cons]
    cases es.getLast? <;> rfl

/-- The map is emptied (R115). -/
theorem clearMap_eq (s : State) : ∃ action eval, clearMap s = { s with
    map := { s.map with
      entries := [], action := action
      lastRemoval := match s.map.entries.getLast? with
        | some e => some ⟨e.id, e.sect, .cancelled, s.clk.time, s.trv.front / 1000⟩
        | none => s.map.lastRemoval }
    lnk := raiseAll [.map] s.lnk, iceEval := eval } := by
  obtain ⟨action, eval, h⟩ := removeAll_eq s.map.entries .cancelled s
  have hnone : s.map.entries.filter (fun d => s.map.entries.all fun e => decide (d.id ≠ e.id)) = [] := by
    rw [List.filter_eq_nil_iff]
    intro d hd hall
    have := List.all_eq_true.1 hall d hd
    simp at this
  refine ⟨action, eval, ?_⟩
  rw [clearMap, h, hnone, notice_eq]

/-! CONFIG_COMMIT and CONFIG_REOPEN, case by case (R195, R196). -/

theorem configMode_of_quiescent (h : s.quiescent = true) : s.configMode = true := (configMode_iff s).2 (.inr h)

theorem configCommit_commits (hmode : s.seq.mode = .configPending) (hpass : ChecksPass s.cfg.items s.cfg.tables) :
    ∃ entries action, configCommit s = ({ s with
        cfg := { s.cfg with committed := true, report := some .success }, seq := { s.seq with mode := .inService }
        map := { s.map with entries := entries, action := action }
        lnk := raiseAll ([.config] ++ if entries = s.map.entries then [] else [.entry]) s.lnk, iceEval := true }, .ok)
      ∧ entries.map (fun e => (e.id, e.start, e.length)) = s.spans := by
  obtain ⟨t, ht⟩ : ∃ t : State, t = { s with
      cfg := { s.cfg with committed := true, report := some .success }, seq := { s.seq with mode := .inService }
      lnk := raiseAll [.config] s.lnk } := ⟨_, rfl⟩
  obtain ⟨action, harm⟩ := armAll_eq t
  have hservice : ¬ s.seq.mode = .inService := by rw [hmode]; exact fun h => nomatch h
  have hcommit : configCommit s = ((armAll t).setIceEval true, .ok) := by
    unfold configCommit
    rw [(configMode_iff s).2 (.inl hmode), if_neg (fun h => nomatch h), if_neg hservice, commitCheck_eq_none.2 hpass, ht]
    dsimp only
    rw [notice_eq]
    rfl
  have hentries : t.map.entries = s.map.entries := by rw [ht]
  refine ⟨t.map.entries.map (armEntry t), action, ?_, ?_⟩
  · rw [hcommit, harm, ← raiseAll_raiseAll, hentries, ht]
    rfl
  · rw [hentries, List.map_map]
    exact List.map_congr_left fun e _ => armEntry_span' t e

theorem configCommit_fails {r : CommitReport} (hmode : s.seq.mode = .configPending)
    (hfail : FirstFailed s.cfg.items s.cfg.tables r) :
    configCommit s = ({ s with cfg := { s.cfg with report := some r } }, .configInvalid) := by
  have hservice : ¬ s.seq.mode = .inService := by rw [hmode]; exact fun h => nomatch h
  unfold configCommit
  rw [(configMode_iff s).2 (.inl hmode), if_neg (fun h => nomatch h), if_neg hservice, commitCheck_eq_some.2 hfail]
  rfl

theorem configCommit_inService (hquiet : s.quiescent = true) : configCommit s = (s, .ok) := by
  unfold configCommit
  rw [configMode_of_quiescent hquiet, if_neg (fun h => nomatch h), if_pos ((quiescent_iff s).1 hquiet).1]

theorem configCommit_refused (hmode : s.seq.mode ≠ .configPending) (hbusy : s.quiescent = false) :
    configCommit s = (s, .notQuiescent) := by
  have hno : s.configMode = false := by simp [State.configMode, hmode, hbusy]
  unfold configCommit
  rw [hno]
  rfl

theorem configReopen_reopens (hquiet : s.quiescent = true) : ∃ action, configReopen s = ({ s with
    cfg := { s.cfg with committed := false }, seq := { s.seq with mode := .configPending }
    map := { s.map with
      entries := [], action := action
      lastRemoval := match s.map.entries.getLast? with
        | some e => some ⟨e.id, e.sect, .cancelled, s.clk.time, s.trv.front / 1000⟩
        | none => s.map.lastRemoval }
    lnk := raiseAll ([.map] ++ [.config]) s.lnk, iceEval := true }, .ok) := by
  obtain ⟨action, eval, hclear⟩ := clearMap_eq s
  refine ⟨action, ?_⟩
  unfold configReopen
  rw [hquiet, if_neg (fun h => nomatch h), hclear]
  dsimp only
  rw [notice_eq, ← raiseAll_raiseAll]
  rfl

theorem configReopen_refused (hbusy : s.quiescent = false) : configReopen s = (s, .notQuiescent) := by
  unfold configReopen
  rw [hbusy]
  rfl

end Commit

/-- Settles O38. -/
theorem commitAndReopen : Obligations.CommitAndReopen := by
  intro l tag s hfree
  obtain ⟨x, hx⟩ := superviseFrame_eq l s
  have hquiescent : (superviseFrame l s).quiescent = s.quiescent := by rw [hx]; rfl
  refine ⟨quiescent_iff s, fun hl => ⟨?_, ?_⟩, fun hl => ⟨fun hmode hpass => ?commits, fun r hmode hfail => ?fails,
    fun hquiet => ?stays, fun hmode hbusy => ?busy, fun hquiet => ?reopens, fun hbusy => ?inUse⟩⟩
  · exact exec_roof_refused (x := .configCommit) rfl rfl hfree (fromM_of_other hl _) rfl (fun h => nomatch h)
  · exact exec_roof_refused (x := .configReopen) rfl rfl hfree (fromM_of_other hl _) rfl (fun h => nomatch h)
  case commits =>
    obtain ⟨entries, action, hrun, hspans⟩ := configCommit_commits (s := superviseFrame l s) (by simpa) (by simpa)
    have hexec := exec_roof_acts (i := .configCommit l tag) rfl rfl hfree ((fromM_of_m hl _).trans (congrArg bare hrun)) rfl
    rw [hx] at hexec hspans ⊢
    exact ⟨_, hexec, answers_of_lnk rfl, rfl, rfl, hspans, rfl⟩
  case fails =>
    have hrun := configCommit_fails (s := superviseFrame l s) (r := r) (by simpa) (by simpa)
    rw [superviseFrame_cfg] at hrun
    exact exec_roof_refused (x := .configCommit) rfl rfl hfree ((fromM_of_m hl _).trans (congrArg bare hrun)) rfl
      (fun h => nomatch h)
  case stays =>
    exact exec_roof_acts (c := .configCommit) rfl rfl hfree
      ((fromM_of_m hl _).trans (congrArg bare (configCommit_inService (hquiescent.trans hquiet)))) rfl
  case busy =>
    exact exec_roof_refused (x := .configCommit) rfl rfl hfree ((fromM_of_m hl _).trans (congrArg bare
      (configCommit_refused (by simpa) (hquiescent.trans hbusy)))) rfl (fun h => nomatch h)
  case reopens =>
    obtain ⟨action, hrun⟩ := configReopen_reopens (hquiescent.trans hquiet)
    have hexec := exec_roof_acts (i := .configReopen l tag) rfl rfl hfree ((fromM_of_m hl _).trans (congrArg bare hrun)) rfl
    rw [hx] at hexec ⊢
    exact ⟨_, hexec, answers_of_bits rfl (by decide), rfl, rfl, rfl, rfl, rfl, rfl⟩
  case inUse =>
    exact exec_roof_refused (x := .configReopen) rfl rfl hfree ((fromM_of_m hl _).trans (congrArg bare
      (configReopen_refused (hquiescent.trans hbusy)))) rfl (fun h => nomatch h)

end Sys2Proof.Machine

/-! ### ISOLATE, RESTORE and the writes of force points (R62, R66, R67, R185) -/

namespace Sys2Proof.Machine

section Acts

variable {s u : State} {l : Link} {tag : Byte} {st : Status} {i f k n : Nat} {p : Pan} {c : PClass} {x : Cmd} {r : Instr}

/-- A command that acts on the roof, out of sequence (R185). -/
theorem exec_roof_outOfSequence (ho : r.offered = some (l, tag, x)) (hroof : followUp x = .roof)
    (hfree : s.free l) (hrun : runCmd l tag x (superviseFrame l s) = refuse u .illegalSequence) :
    exec r s = .next (u.answeredOutOfSequence l tag x.code) := by
  rw [exec_free ho hfree, takeCmd_outOfSequence hrun]
  simp only [follow, hroof, Status.effective]
  rfl

/-! The class and the mode (R171, R193). -/

theorem configRefusal_of_other (hl : l ≠ .m) : s.configRefusal l = some .authNotHeld := if_pos hl

theorem configRefusal_of_mode (hl : l = .m) (hno : ¬ s.Configures) : s.configRefusal l = some .notQuiescent := by
  unfold State.configRefusal
  rw [if_neg (not_not.2 hl), Bool.eq_false_iff.2 (mt (configMode_iff s).1 hno)]
  rfl

theorem configRefusal_of_configures (hl : l = .m) (hcfg : s.Configures) : s.configRefusal l = none := by
  unfold State.configRefusal
  rw [if_neg (not_not.2 hl), (configMode_iff s).2 hcfg]
  rfl

theorem configClass_refused (href : s.configRefusal l = some st) (n k i f : Nat) : cmdIsolate l n s = refuse s st
    ∧ cmdRestore l n s = refuse s st ∧ cmdForceTableWrite l k i f s = refuse s st
    ∧ cmdForceTableWriteNext l f s = refuse s st := by
  simp [cmdIsolate, cmdRestore, cmdForceTableWrite, cmdForceTableWriteNext, href]

/-! ISOLATE and RESTORE (R62). -/

theorem configClass_badNumber (href : s.configRefusal l = none) (hn : n = 0 ∨ 5 ≤ n) :
    cmdIsolate l n s = refuse s .badOperand ∧ cmdRestore l n s = refuse s .badOperand := by
  simp [cmdIsolate, cmdRestore, href, pan_ofNum_eq_none.2 hn]

theorem cmdIsolate_pan (href : s.configRefusal l = none) : cmdIsolate l p.num s =
    if (s.ch p).state = .lowered ∧ (s.ch p).job = none then query (isolatePan p s) [] else refuse s .panUnavailable := by
  simp [cmdIsolate, href, pan_ofNum_num]

theorem cmdRestore_pan (href : s.configRefusal l = none) : cmdRestore l p.num s =
    if (s.ch p).state = .isolated then query (restorePan p s) [] else refuse s .panUnavailable := by
  simp [cmdRestore, href, pan_ofNum_num]

theorem isolatePan_eq (p : Pan) (s : State) : isolatePan p s = { s with
    pch := s.pch.set p { s.ch p with state := .isolated }
    ice := { s.ice with heaters := s.ice.heaters.set p (s.ice.heaters.get p).cease }
    lnk := raiseAll [.pan] s.lnk, iceEval := true } := by
  rw [isolatePan, movePan_eq]
  rfl

/-- A heater switched off is not ON (R62). -/
theorem cease_not_on (h : Heater) (t : Time) : h.cease.out ≠ .on t := by
  obtain ⟨out, manual⟩ := h
  cases out <;> exact fun h => nomatch h

/-! The force points (R66, R67). -/

theorem cmdForceTableWrite_badPoint (href : s.configRefusal l = none) (hbad : classOf k = none ∨ 9 ≤ i) :
    cmdForceTableWrite l k i f s = refuse (setCursor l .none s) .badOperand := by
  unfold cmdForceTableWrite
  rw [href]
  dsimp only
  split
  · rfl
  · next hc => rw [if_pos (by rcases hbad with h | h; exacts [absurd (h.symm.trans hc) (fun h => nomatch h), h])]

theorem cmdForceTableWrite_badForce (href : s.configRefusal l = none) (hc : classOf k = some c) (hi : i ≤ 8)
    (hf : f < 40 ∨ 200 < f) : cmdForceTableWrite l k i f s =
      refuse (setCursor l (if i = 0 then .none else .tableWrite c (i - 1)) s) .badOperand := by
  have hforce : validForce f = false := by rw [← Bool.not_eq_true, validForce_iff]; omega
  unfold cmdForceTableWrite
  rw [href, hc]
  dsimp only
  rw [if_neg (by omega), hforce]
  rfl

theorem cmdForceTableWrite_writes (href : s.configRefusal l = none) (hc : classOf k = some c) (hi : i ≤ 8)
    (hlo : 40 ≤ f) (hhi : f ≤ 200) : cmdForceTableWrite l k i f s =
      query (setPoint c i f (setCursor l (.tableWrite c i) s)) [] := by
  have hforce : validForce f = true := validForce_iff.2 ⟨hlo, hhi⟩
  unfold cmdForceTableWrite
  rw [href, hc]
  dsimp only
  rw [if_neg (by omega), hforce]
  rfl

/-- The continuation by its tests in their order (R67, R185). -/
theorem cmdForceTableWriteNext_cursor (href : s.configRefusal l = none) (hcur : (s.lnk.get l).cursor = .tableWrite c i) :
    cmdForceTableWriteNext l f s =
      if ¬ ((s.lnk.get l).lastTaken = some 0x0F ∨ (s.lnk.get l).lastTaken = some 0x10 ∨ (s.lnk.get l).lastTaken = some 0x01)
        then refuse s .illegalSequence
      else if 8 ≤ i then refuse (setCursor l .none s) .badOperand
      else if ¬ (40 ≤ f ∧ f ≤ 200) then refuse s .badOperand
      else query (setPoint c (i + 1) f (setCursor l (.tableWrite c (i + 1)) s)) [] := by
  have hcont := continues_iff (s := s) (l := l) (opening := (Cmd.forceTableWrite 0 0 0).code)
    (next := (Cmd.forceTableWriteNext 0).code)
  unfold cmdForceTableWriteNext
  rw [href]
  dsimp only
  rw [hcur]
  simp only [Bool.not_eq_true', ← Bool.not_eq_true, hcont, validForce_iff]
  rfl

theorem cmdForceTableWriteNext_noCursor (href : s.configRefusal l = none) (hcur : ∀ c i, (s.lnk.get l).cursor ≠ .tableWrite c i) :
    cmdForceTableWriteNext l f s = refuse s .illegalSequence := by
  unfold cmdForceTableWriteNext
  rw [href]
  dsimp only
  split
  · next h => exact absurd h (hcur _ _)
  all_goals rfl

end Acts

/-- Settles O39: the class and the mode first, then each command by its tests. -/
theorem configurationActs : Obligations.ConfigurationActs := by
  intro l tag s hfree
  obtain ⟨y, hy⟩ := superviseFrame_eq l s
  have allRefused : ∀ (st : Status), (superviseFrame l s).configRefusal l = some st → st.effective = false →
      st ≠ .illegalSequence → ∀ n k i f : Nat,
        exec (.isolate l tag n) s = .next ((superviseFrame l s).answered l tag 0x0C st [])
        ∧ exec (.restore l tag n) s = .next ((superviseFrame l s).answered l tag 0x0D st [])
        ∧ exec (.forceTableWrite l tag k i f) s = .next ((superviseFrame l s).answered l tag 0x0F st [])
        ∧ exec (.forceTableWriteNext l tag f) s = .next ((superviseFrame l s).answered l tag 0x10 st []) :=
    fun st href heff hst n k i f => by
      obtain ⟨hisolate, hrestore, hwrite, hnext⟩ := configClass_refused href n k i f
      exact ⟨exec_roof_refused (x := .isolate n) rfl rfl hfree hisolate heff hst,
        exec_roof_refused (x := .restore n) rfl rfl hfree hrestore heff hst,
        exec_roof_refused (x := .forceTableWrite k i f) rfl rfl hfree hwrite heff hst,
        exec_roof_refused (x := .forceTableWriteNext f) rfl rfl hfree hnext heff hst⟩
  refine ⟨fun n k i f hl => allRefused _ (configRefusal_of_other hl) rfl (fun h => nomatch h) n k i f,
    fun n k i f hl hmode hbusy => allRefused _ (configRefusal_of_mode hl ?notConfigures) rfl (fun h => nomatch h) n k i f,
    fun hl hcfg => ?taken⟩
  case notConfigures =>
    rw [hy]
    exact fun h => h.elim hmode fun h => Bool.noConfusion (hbusy.symm.trans h)
  case taken =>
    have href : (superviseFrame l s).configRefusal l = none := configRefusal_of_configures hl (by rw [hy]; exact hcfg)
    have hport : (superviseFrame l s).lnk.get l = s.lnk.get l := by rw [superviseFrame_lnk]
    refine ⟨fun n hn => ?badNumber, fun p hno => ?notIsolated, fun p hlow hjob => ?isolates, fun p hno => ?notRestored,
      fun p hiso => ?restores, fun k i f hbad => ?badPoint, fun c k i f hc hi hf => ?badForce,
      fun c k i f hc hi hlo hhi => ?writes, fun f hno => ?outOfSequence, fun c i f hcur htaken => ⟨fun hi => ?past,
      fun hi hf => ?nextBadForce, fun hi hlo hhi => ?nextWrites⟩⟩
    case badNumber =>
      obtain ⟨hisolate, hrestore⟩ := configClass_badNumber href hn
      exact ⟨exec_roof_refused (x := .isolate n) rfl rfl hfree hisolate rfl (fun h => nomatch h),
        exec_roof_refused (x := .restore n) rfl rfl hfree hrestore rfl (fun h => nomatch h)⟩
    case notIsolated =>
      have hrun := cmdIsolate_pan (p := p) href
      rw [if_neg (by simpa [imp_iff_not_or] using hno)] at hrun
      exact exec_roof_refused (x := .isolate p.num) rfl rfl hfree hrun rfl (fun h => nomatch h)
    case isolates =>
      have hrun := cmdIsolate_pan (p := p) href
      rw [if_pos (by simpa using ⟨hlow, hjob⟩), isolatePan_eq] at hrun
      have hexec := exec_roof_ok (r := .isolate l tag p.num) rfl rfl hfree hrun
      rw [hy] at hexec ⊢
      refine ⟨_, hexec, answers_of_lnk rfl, PerPan.get_set_same .., fun q hq => PerPan.get_set_ne _ _ hq, ?_, fun h => ?_,
        fun q hq => PerPan.get_set_ne _ _ hq, rfl⟩
      · exact (congrArg Heater.manual (PerPan.get_set_same s.ice.heaters p _)).trans rfl
      · exact fun hon => cease_not_on _ h ((congrArg Heater.out (PerPan.get_set_same s.ice.heaters p _)).symm.trans hon)
    case notRestored =>
      have hrun := cmdRestore_pan (p := p) href
      rw [if_neg (by simpa using hno)] at hrun
      exact exec_roof_refused (x := .restore p.num) rfl rfl hfree hrun rfl (fun h => nomatch h)
    case restores =>
      have hrun := cmdRestore_pan (p := p) href
      rw [if_pos (by simpa using hiso), restorePan] at hrun
      cases hlow : s.lines.lowered.get p with
      | true =>
        rw [superviseFrame_lines, if_pos hlow, movePan_eq] at hrun
        have hexec := exec_roof_ok (r := .restore l tag p.num) rfl rfl hfree hrun
        rw [hy] at hexec ⊢
        exact ⟨_, hexec, answers_of_lnk rfl, othersStand_of_ch rfl rfl, fun _ => ⟨PerPan.get_set_same .., rfl, rfl⟩,
          (fun h => nomatch h), rfl⟩
      | false =>
        rw [superviseFrame_lines, hlow, if_neg (fun h => nomatch h), enterLowering_up (by simpa)] at hrun
        have hexec := exec_roof_ok (r := .restore l tag p.num) rfl rfl hfree hrun
        rw [hy] at hexec ⊢
        exact ⟨_, hexec, answers_of_lnk rfl, othersStand_of_set rfl rfl, (fun h => nomatch h),
          fun _ => ⟨PerPan.get_set_same .., PerPan.get_set_same ..⟩, rfl⟩
    case badPoint =>
      exact exec_roof_refused (x := .forceTableWrite k i f) rfl rfl hfree (cmdForceTableWrite_badPoint href hbad) rfl
        (fun h => nomatch h)
    case badForce =>
      exact exec_roof_refused (x := .forceTableWrite k i f) rfl rfl hfree (cmdForceTableWrite_badForce href hc hi hf) rfl
        (fun h => nomatch h)
    case writes =>
      have hexec := exec_roof_ok (r := .forceTableWrite l tag k i f) rfl rfl hfree (cmdForceTableWrite_writes href hc hi hlo hhi)
      rw [hy] at hexec ⊢
      exact ⟨_, hexec, answers_of_lnk (raiseAll_nil _).symm, rfl, rfl⟩
    case outOfSequence =>
      refine exec_roof_outOfSequence (x := .forceTableWriteNext f) rfl rfl hfree ?_
      by_cases hcur : ∀ c i, (s.lnk.get l).cursor ≠ .tableWrite c i
      · exact cmdForceTableWriteNext_noCursor href (by rw [hport]; exact hcur)
      · simp only [not_forall, not_not] at hcur
        obtain ⟨c, i, hcur⟩ := hcur
        refine (cmdForceTableWriteNext_cursor href (by rw [hport]; exact hcur)).trans (if_pos ?_)
        rw [hport]
        obtain ⟨h1, h2, h3⟩ := hno.resolve_left fun h => h c i hcur
        exact fun h => h.elim h1 fun h => h.elim h2 h3
    all_goals
      have hrun := cmdForceTableWriteNext_cursor (f := f) (c := c) (i := i) href (by rw [hport]; exact hcur)
      rw [hport, if_neg (not_not.2 htaken)] at hrun
    case past =>
      rw [if_pos hi] at hrun
      exact exec_roof_refused (x := .forceTableWriteNext f) rfl rfl hfree hrun rfl (fun h => nomatch h)
    case nextBadForce =>
      rw [if_neg (by omega), if_pos (by omega)] at hrun
      exact exec_roof_refused (x := .forceTableWriteNext f) rfl rfl hfree hrun rfl (fun h => nomatch h)
    case nextWrites =>
      rw [if_neg (by omega), if_neg (by omega)] at hrun
      have hexec := exec_roof_ok (r := .forceTableWriteNext l tag f) rfl rfl hfree hrun
      rw [hy] at hexec ⊢
      exact ⟨_, hexec, answers_of_lnk (raiseAll_nil _).symm, rfl, rfl⟩

end Sys2Proof.Machine

/-! ### LOWER_ALL: protective lowerings, the end of a sequence (R61, R103, R134, R172) -/

namespace Sys2Proof.Machine

section Protective

variable {s : State} {p : Pan}

/-- A channel whose operation in place, where there is one, ended with an outcome (R57). -/
def Channel.endedWith (c : Channel) (out : OpOutcome) : Channel :=
  match c.job with
  | none => c
  | some j => c.ended j out

/-- The notice of the end of an operation in place (R57). -/
def Channel.endCauses (c : Channel) : List Notice := if c.job = none then [] else [.pan]

/-- The reports of the end of an operation in place (R57). -/
def Channel.endReports (c : Channel) (p : Pan) (out : OpOutcome) : List Report :=
  match c.job with
  | none => []
  | some j => outcomeReports p j out

/-- The end of whatever operation is in place (R57, R186). -/
theorem endJob_form (p : Pan) (out : OpOutcome) (s : State) : endJob p out s = { s with
    pch := s.pch.set p ((s.ch p).endedWith out), longOps := s.longFreed p
    lnk := raiseAll (s.ch p).endCauses s.lnk, reports := s.reports ++ (s.ch p).endReports p out } := by
  unfold Channel.endedWith Channel.endCauses Channel.endReports
  cases hj : (s.ch p).job with
  | none =>
    have hall : s.longFreed p = s.longOps := by rw [longFreed_eq, hj]; exact List.filter_true _
    have hset : s.pch.set p (s.ch p) = s.pch := PerPan.set_get ..
    rw [endJob_none hj, hall, if_pos rfl, raiseAll_nil]
    simp only [hset, List.append_nil]
  | some j =>
    rw [endJob_eq hj, if_neg (fun h => nomatch h)]

theorem endedWith_job (c : Channel) (out : OpOutcome) : (c.endedWith out).job = none := by
  unfold Channel.endedWith
  split
  · assumption
  · rfl

theorem endedWith_state (c : Channel) (out : OpOutcome) : (c.endedWith out).state = c.state := by
  unfold Channel.endedWith
  split <;> rfl

/-- The channel changes exactly where an operation was in place. -/
theorem endedWith_eq_self {c : Channel} {out : OpOutcome} : c.endedWith out = c ↔ c.job = none := by
  constructor
  · intro h
    rw [← h, endedWith_job]
  · intro h
    unfold Channel.endedWith
    rw [h]

/-- An entry into LOWERING with no operation in place (R45, R75). -/
theorem enterLowering_free (hj : (s.ch p).job = none) : ∃ arcs, enterLowering p s = { s with
    pch := s.pch.set p (if s.lines.lowered.get p then { s.lowering (s.ch p) with state := .lowered, role := none }
      else s.lowering (s.ch p))
    freg := s.freg.set p (s.freg.get p).stopped, ice := { s.ice with arcs := arcs }
    lnk := raiseAll [.pan] s.lnk, iceEval := true, longOps := unjoined p s.longOps } := by
  cases hdown : s.lines.lowered.get p with
  | true =>
    have hpan : raiseAll ([.pan] ++ [.pan]) s.lnk = raiseAll [.pan] s.lnk := raiseAll_congr (by decide) _
    refine ⟨s.ice.arcs.set p .empty, ?_⟩
    rw [enterLowering_down hdown (fun src h => by rw [hj] at h; cases h), hpan, if_pos rfl]
  | false =>
    refine ⟨s.ice.arcs, ?_⟩
    rw [enterLowering_up hdown, State.goesDown, if_neg fun h => nomatch h]

/-- A pantograph goes down once its operation has ended (R43, R61). -/
theorem lowerEnded_eq (p : Pan) (out : OpOutcome) (s : State) : ∃ arcs, enterLowering p (endJob p out s) = { s with
    pch := s.pch.set p (if s.lines.lowered.get p
      then { s.lowering ((s.ch p).endedWith out) with state := .lowered, role := none }
      else s.lowering ((s.ch p).endedWith out))
    freg := s.freg.set p (s.freg.get p).stopped, ice := { s.ice with arcs := arcs }
    lnk := raiseAll [.pan] s.lnk, iceEval := true, longOps := unjoined p (s.longFreed p)
    reports := s.reports ++ (s.ch p).endReports p out } := by
  have hch : (endJob p out s).ch p = (s.ch p).endedWith out := by
    rw [endJob_form]
    exact PerPan.get_set_same ..
  obtain ⟨arcs, heq⟩ := enterLowering_free (s := endJob p out s) (p := p) (by rw [hch, endedWith_job])
  have hpan : raiseAll ((s.ch p).endCauses ++ [.pan]) s.lnk = raiseAll [.pan] s.lnk := by
    unfold Channel.endCauses
    split
    · rfl
    · exact raiseAll_congr (by decide) _
  refine ⟨arcs, ?_⟩
  rw [heq, hch, endJob_form, ← hpan]
  simp only [PerPan.set_set, raiseAll_raiseAll]
  rfl

/-- A channel that a protective lowering has met (R58, R61). -/
def State.protected (s : State) (p : Pan) : Channel :=
  match (s.ch p).state with
  | .isolated => s.ch p
  | .raising | .settling | .raised =>
    if s.lines.lowered.get p then
      { s.lowering ((s.ch p).endedWith .aborted) with state := .lowered, role := none }
    else s.lowering ((s.ch p).endedWith .aborted)
  | .lowering | .lowered | .dropped => (s.ch p).endedWith .aborted

theorem protected_of_isolated (h : (s.ch p).state = .isolated) : s.protected p = s.ch p := by
  unfold State.protected
  rw [h]

theorem protected_of_raised (h : (s.ch p).state.isRaised = true) : s.protected p = if s.lines.lowered.get p
    then { s.lowering ((s.ch p).endedWith .aborted) with state := .lowered, role := none }
    else s.lowering ((s.ch p).endedWith .aborted) := by
  unfold State.protected
  cases hst : (s.ch p).state with
  | raising | settling | raised => rfl
  | dropped | isolated | lowered | lowering => rw [hst] at h; cases h

theorem protected_of_down (h : (s.ch p).state.isRaised = false) (hiso : (s.ch p).state ≠ .isolated) :
    s.protected p = (s.ch p).endedWith .aborted := by
  unfold State.protected
  cases hst : (s.ch p).state with
  | raising | settling | raised => rw [hst] at h; cases h
  | isolated => exact absurd hst hiso
  | dropped | lowered | lowering => rfl

/-- A pantograph met by a protective lowering is down, without an operation, unless it is ISOLATED (R58, R61). -/
theorem protected_fields (s : State) (p : Pan) :
    (s.protected p).state = (if (s.ch p).state.isRaised then (if s.lines.lowered.get p then .lowered else .lowering)
        else (s.ch p).state)
      ∧ ((s.ch p).state ≠ .isolated → (s.protected p).job = none)
      ∧ ((s.ch p).state = .isolated → s.protected p = s.ch p) := by
  refine ⟨?_, fun hiso => ?_, protected_of_isolated⟩
  · by_cases hraised : (s.ch p).state.isRaised = true
    · rw [protected_of_raised hraised, if_pos hraised]
      split <;> rfl
    · rw [if_neg hraised]
      by_cases hiso : (s.ch p).state = .isolated
      · rw [protected_of_isolated hiso]
      · rw [protected_of_down (Bool.eq_false_iff.2 hraised) hiso, endedWith_state]
  · by_cases hraised : (s.ch p).state.isRaised = true
    · rw [protected_of_raised hraised]
      split <;> exact endedWith_job ..
    · rw [protected_of_down (Bool.eq_false_iff.2 hraised) hiso, endedWith_job]

/-- A protective lowering of one pantograph (R58, R61). -/
theorem protectiveLower_eq (p : Pan) (s : State) : ∃ force arcs keep reports eval, protectiveLower p s = { s with
    pch := s.pch.set p (s.protected p), freg := s.freg.set p force, ice := { s.ice with arcs := arcs }
    lnk := raiseAll (if s.protected p = s.ch p then [] else [.pan]) s.lnk
    longOps := s.longOps.filter keep, reports := reports, iceEval := eval } := by
  by_cases hiso : (s.ch p).state = .isolated
  · refine ⟨s.freg.get p, s.ice.arcs, fun _ => true, s.reports, s.iceEval, ?_⟩
    have hsame : protectiveLower p s = s := by
      unfold protectiveLower
      rw [hiso]
    have hset : s.pch.set p (s.ch p) = s.pch := PerPan.set_get ..
    rw [hsame, protected_of_isolated hiso, if_pos rfl, raiseAll_nil, hset, PerPan.set_get, List.filter_true]
  · by_cases hraised : (s.ch p).state.isRaised = true
    · obtain ⟨arcs, heq⟩ := lowerEnded_eq p .aborted s
      have hlower : protectiveLower p s = enterLowering p (endJob p .aborted s) := by
        unfold protectiveLower
        cases hst : (s.ch p).state with
        | raising | settling | raised => rfl
        | dropped | isolated | lowered | lowering => rw [hst] at hraised; cases hraised
      have hmoves : s.protected p ≠ s.ch p := fun h => by
        have hstate := (protected_fields s p).1
        rw [h, if_pos hraised] at hstate
        rw [hstate] at hraised
        split at hraised <;> cases hraised
      rw [← hlower, ← protected_of_raised hraised, unjoined, longFreed_eq, freeLong, List.filter_filter] at heq
      rw [if_neg hmoves]
      exact ⟨_, _, _, _, _, heq⟩
    · have hdown := Bool.eq_false_iff.2 hraised
      have hlower : protectiveLower p s = endJob p .aborted s := by
        unfold protectiveLower
        cases hst : (s.ch p).state with
        | raising | settling | raised => rw [hst] at hdown; cases hdown
        | isolated => exact absurd hst hiso
        | dropped | lowered | lowering => rfl
      have heq := endJob_form p .aborted s
      rw [← hlower, longFreed_eq, freeLong, ← protected_of_down hdown hiso] at heq
      have hcauses : (s.ch p).endCauses = if s.protected p = s.ch p then [] else [.pan] := by
        rw [protected_of_down hdown hiso]
        simp only [endedWith_eq_self, Channel.endCauses]
      have hforce : s.freg.set p (s.freg.get p) = s.freg := PerPan.set_get ..
      rw [← hcauses]
      exact ⟨s.freg.get p, s.ice.arcs, _, _, s.iceEval, by rw [hforce]; exact heq⟩

/-- The channels that a protective lowering of the roof has met (R58, R61). -/
def State.allProtected (s : State) : PerPan Channel :=
  ⟨s.protected .p1, s.protected .p2, s.protected .p3, s.protected .p4⟩

theorem allProtected_get (s : State) (p : Pan) : s.allProtected.get p = s.protected p := by cases p <;> rfl

/-- A channel set to a value, in a vector that agrees with another there. -/
theorem set_eq_iff {α : Type} {v w : PerPan α} {p : Pan} {x : α} (hp : v.get p = w.get p) :
    v.set p x = w ↔ v = w ∧ x = w.get p := by
  constructor
  · rintro rfl
    rw [PerPan.get_set_same] at hp
    refine ⟨PerPan.ext_get fun q => ?_, (PerPan.get_set_same ..).symm⟩
    by_cases hq : q = p
    · rw [hq, hp, PerPan.get_set_same]
    · rw [PerPan.get_set_ne _ _ hq]
  · rintro ⟨rfl, rfl⟩
    exact PerPan.set_get ..

/-- PAN once for two changes. -/
theorem panOnce (P Q : Prop) [Decidable P] [Decidable Q] [Decidable (P ∧ Q)] (v : PerLink Port) :
    raiseAll ((if P then [] else [.pan]) ++ (if Q then [] else [.pan])) v = raiseAll (if P ∧ Q then [] else [.pan]) v := by
  by_cases hp : P <;> by_cases hq : Q <;> simp only [hp, hq, if_true, if_false, and_self, and_true, and_false]
  · rfl
  · rfl
  · rfl
  · exact raiseAll_congr (by decide) _

/-- Protective lowerings that have left the channels in certain states (R58, R61). -/
def Protects (s t : State) (v : PerPan Channel) : Prop := ∃ freg arcs keep reports eval, t = { s with
  pch := v, freg := freg, ice := { s.ice with arcs := arcs }
  lnk := raiseAll (if v = s.pch then [] else [.pan]) s.lnk
  longOps := s.longOps.filter keep, reports := reports, iceEval := eval }

theorem protects_refl (s : State) : Protects s s s.pch :=
  ⟨s.freg, s.ice.arcs, fun _ => true, s.reports, s.iceEval, by rw [if_pos rfl, raiseAll_nil, List.filter_true]⟩

theorem Protects.lower {t : State} {v : PerPan Channel} (h : Protects s t v) (hp : v.get p = s.ch p) :
    Protects s (protectiveLower p t) (v.set p (s.protected p)) := by
  obtain ⟨freg, arcs, keep, reports, eval, rfl⟩ := h
  generalize ht : ({ s with
    pch := v, freg := freg, ice := { s.ice with arcs := arcs }
    lnk := raiseAll (if v = s.pch then [] else [.pan]) s.lnk
    longOps := s.longOps.filter keep, reports := reports, iceEval := eval } : State) = t
  have hch : t.ch p = s.ch p := by rw [← ht]; exact hp
  have hprot : t.protected p = s.protected p := by
    unfold State.protected State.lowering
    rw [hch, ← ht]
  obtain ⟨force, arcs', keep', reports', eval', heq⟩ := protectiveLower_eq p t
  refine ⟨freg.set p force, arcs', fun o => keep' o && keep o, reports', eval', ?_⟩
  rw [heq, hprot, hch, ← ht]
  simp only [raiseAll_raiseAll, panOnce, List.filter_filter, set_eq_iff (w := s.pch) hp]
  rfl

/-- A protective lowering of the roof (R58, R61). -/
theorem protectAll_eq (s : State) : Protects s (forPans protectiveLower s) s.allProtected :=
  ((((protects_refl s).lower (p := .p1) rfl).lower (p := .p2) rfl).lower (p := .p3) rfl).lower (p := .p4) rfl

end Protective

section LowerAll

variable {s : State} {l : Link} {tag : Byte} {c : SeqCtx}

/-- A sequence ends: its context is released, its entry leaves the map, and the result is kept (R103, R141). -/
theorem endSequence_eq (hc : s.seq.ctx = some c) (reason : RemovalReason) (result : SeqResult) : ∃ action,
    endSequence reason result s = { s with
      map := ⟨s.map.entries.filter fun d => d.id ≠ c.entry.id, s.map.nextId, action,
        some ⟨c.entry.id, c.entry.sect, reason, s.clk.time, s.trv.front / 1000⟩⟩
      seq := { s.seq with ctx := none, last := some (c.toLast result s.clk.time) }
      lnk := raiseAll [.entry] s.lnk, iceEval := true } := by
  obtain ⟨action, heq⟩ := removeEntry_eq c.entry reason s
  refine ⟨action, ?_⟩
  unfold endSequence
  rw [hc]
  dsimp only
  rw [heq, notice_eq]
  rfl

theorem endSequence_none (hc : s.seq.ctx = none) (reason : RemovalReason) (result : SeqResult) :
    endSequence reason result s = s := by
  unfold endSequence
  rw [hc]

/-- What a cancelled sequence leaves in the map and the last result (R103, R134, R138, R140). -/
def CancelledWith (cause : CancelCause) (s : State) (map : RouteMap) (last : Option LastSeq) : Prop :=
  map.entries = s.map.entries.filter (fun e => s.seq.ctx.all fun c => decide (e.id ≠ c.entry.id))
    ∧ map.nextId = s.map.nextId
    ∧ (∀ c, s.seq.ctx = some c →
        map.lastRemoval = some ⟨c.entry.id, c.entry.sect, .cancelled, s.clk.time, s.trv.front / 1000⟩
        ∧ ∃ x, last = some x ∧ x.id = c.entry.id ∧ x.result = .cancelled cause ∧ x.time = s.clk.time
          ∧ (∀ f, c.failure = some f → x.reason = some f.reason ∧ x.stage = some f.stage ∧ x.pan = f.pan)
          ∧ (c.failure = none → x.reason = none ∧ x.stage = some c.stage ∧ x.pan = none))
    ∧ (s.seq.ctx = none → last = s.seq.last ∧ map.lastRemoval = s.map.lastRemoval)

/-- A sequence, where there is one, is cancelled (R134, R138, R140). -/
theorem cancelSequence_eq (cause : CancelCause) (s : State) : ∃ map last eval, cancelSequence cause s = { s with
    map := map, seq := { s.seq with ctx := none, last := last }
    lnk := raiseAll (if s.seq.ctx.isSome then [.entry] else []) s.lnk, iceEval := eval }
    ∧ CancelledWith cause s map last := by
  cases hc : s.seq.ctx with
  | none =>
    refine ⟨s.map, s.seq.last, s.iceEval, ?_, ?_⟩
    · have hseq : ({ s.seq with ctx := none } : Sequencer) = s.seq := by rw [← hc]
      rw [cancelSequence, endSequence_none hc, if_neg (fun h => nomatch h), raiseAll_nil, hseq]
    · unfold CancelledWith
      rw [hc]
      exact ⟨(List.filter_true _).symm, rfl, fun c h => (nomatch h), fun _ => ⟨rfl, rfl⟩⟩
  | some c =>
    obtain ⟨action, heq⟩ := endSequence_eq hc .cancelled (.cancelled cause)
    refine ⟨_, _, _, heq, ?_⟩
    unfold CancelledWith
    rw [hc]
    refine ⟨rfl, rfl, fun d hd => ?_, fun h => nomatch h⟩
    cases hd
    refine ⟨rfl, _, rfl, ?_⟩
    unfold SeqCtx.toLast
    cases c.failure with
    | none => exact ⟨rfl, rfl, rfl, fun f h => (nomatch h), fun _ => ⟨rfl, rfl, rfl⟩⟩
    | some f => exact ⟨rfl, rfl, rfl, fun g h => (by cases h; exact ⟨rfl, rfl, rfl⟩), fun h => nomatch h⟩

theorem roofDown_iff (s : State) : s.roofDown = true ↔ s.StandsDown := by
  simp [State.roofDown, State.StandsDown, mem_pan_all, or_assoc]

/-- The breaker that an open request leaves (R79). -/
def Breaker.requested (b : Breaker) : Breaker := if b = .closed ∨ b = .closing then .opening else b

theorem requested_eq_self {b : Breaker} : b.requested = b ↔ ¬ (b = .closed ∨ b = .closing) := by
  unfold Breaker.requested
  split
  · next h => rcases h with rfl | rfl <;> decide
  · next h => exact iff_of_true rfl h

/-- The breaker is opened with traction-wanted cleared (R79, R84). -/
theorem clearTraction_openRequest (s : State) : ∃ start, clearTraction (openRequest s) = { s with
    bsc := { s.bsc with breaker := s.bsc.breaker.requested, limitStart := start, traction := false, reclose := false }
    lnk := raiseAll (if s.bsc.breaker.requested = s.bsc.breaker ∧ s.bsc.traction = false then [] else [.breaker]) s.lnk } := by
  by_cases hb : s.bsc.breaker = .closed ∨ s.bsc.breaker = .closing
  · have hreq : s.bsc.breaker.requested = .opening := if_pos hb
    refine ⟨s.clk.time, ?_⟩
    have hmoves : ¬ (Breaker.opening = s.bsc.breaker ∧ s.bsc.traction = false) := fun h =>
      requested_eq_self.1 (hreq.trans h.1) hb
    have honce : ∀ b : Bool, raiseAll ([.breaker] ++ if b then [.breaker] else []) s.lnk = raiseAll [.breaker] s.lnk := by
      intro b
      cases b
      · rfl
      · exact raiseAll_congr (by decide) _
    rw [openRequest_opens hb, clearTraction_eq, hreq, raiseAll_raiseAll, honce, if_neg hmoves]
  · have hreq : s.bsc.breaker.requested = s.bsc.breaker := requested_eq_self.2 hb
    refine ⟨s.bsc.limitStart, ?_⟩
    rw [openRequest_stands hb, clearTraction_eq, hreq]
    cases s.bsc.traction <;> simp

/-- The effects of LOWER_ALL (R61, R134, R160, R172). -/
theorem takeLowerAll_eq (s : State) : ∃ freg start arcs keep reports map last eval, takeLowerAll s = { s with
    pch := s.allProtected, freg := freg
    bsc := { s.bsc with breaker := s.bsc.breaker.requested, limitStart := start, traction := false, reclose := false }
    map := map, seq := { s.seq with ctx := none, last := last }, ice := { s.ice with proc := .idle, arcs := arcs }
    lnk := raiseAll ((if s.allProtected = s.pch then [] else [.pan])
      ++ (if s.bsc.breaker.requested = s.bsc.breaker ∧ s.bsc.traction = false then [] else [.breaker])
      ++ (if s.seq.ctx.isSome then [.entry] else [])) s.lnk
    longOps := s.longOps.filter keep, reports := reports, iceEval := eval }
    ∧ CancelledWith .lowerAll s map last := by
  obtain ⟨freg, arcs, keep, reports, eval, hprot⟩ := protectAll_eq s
  obtain ⟨start, hopen⟩ := clearTraction_openRequest (forPans protectiveLower s)
  obtain ⟨map, last, eval', hcancel, hfacts⟩ := cancelSequence_eq .lowerAll (clearTraction (openRequest (forPans protectiveLower s)))
  refine ⟨freg, start, arcs, keep, reports, map, last, eval', ?_, ?_⟩
  · rw [takeLowerAll, hcancel, hopen, hprot]
    simp only [raiseAll_raiseAll]
    rfl
  · rw [hopen, hprot] at hfacts
    exact hfacts

theorem watchLowerAll_ends (hdown : s.StandsDown) (hwaits : ∃ o ∈ s.longOps, o.kind = .lowerAll) :
    watchLowerAll s = some { s with longOps := s.longOps.filter fun o => o.kind ≠ .lowerAll } := by
  have hany : (s.longOps.any fun o => o.kind = .lowerAll) = true := by
    obtain ⟨o, ho, hk⟩ := hwaits
    exact List.any_eq_true.2 ⟨o, ho, decide_eq_true hk⟩
  unfold watchLowerAll
  rw [(roofDown_iff s).2 hdown, hany]
  rfl

theorem watchLowerAll_waits (hnone : ¬ s.StandsDown ∨ ∀ o ∈ s.longOps, o.kind ≠ .lowerAll) : watchLowerAll s = none := by
  unfold watchLowerAll
  refine if_neg fun h => ?_
  rw [Bool.and_eq_true] at h
  obtain ⟨hdown, hany⟩ := h
  rcases hnone with hup | hall
  · exact hup ((roofDown_iff s).1 hdown)
  · obtain ⟨o, ho, hk⟩ := List.any_eq_true.1 hany
    exact hall o ho (of_decide_eq_true hk)

/-- LOWER_ALL is a long operation unless the roof is down already (R172, R186). -/
theorem cmdLowerAll_eq (l : Link) (s : State) : cmdLowerAll l s = ({ takeLowerAll s with
    longOps := (takeLowerAll s).longOps ++ if s.roofDown then [] else [⟨l, .lowerAll, false⟩] },
    some (if s.roofDown then .ok else .accepted, [])) := by
  unfold cmdLowerAll
  cases s.roofDown with
  | true => simp
  | false => rfl

/-- Settles O33. -/
theorem lowerAllLowersTheRoof : Obligations.LowerAllLowersTheRoof := by
  refine ⟨fun s => ⟨watchLowerAll_ends, watchLowerAll_waits, roofDown_iff s⟩, fun l tag s hfree => ?_⟩
  obtain ⟨x, hx⟩ := superviseFrame_eq l s
  obtain ⟨freg, start, arcs, keep, reports, map, last, eval, htake, hentries, hnext, hsome, hnone⟩ :=
    takeLowerAll_eq (superviseFrame l s)
  have hdown : (superviseFrame l s).roofDown = s.roofDown := by rw [hx]; rfl
  have hrun := cmdLowerAll_eq l (superviseFrame l s)
  rw [hdown, htake] at hrun
  have heff : (if s.roofDown then Status.ok else .accepted).effective = true := by cases s.roofDown <;> rfl
  have hexec := exec_roof_acts (i := .lowerAll l tag) rfl rfl hfree hrun heff
  rw [hx] at hexec hentries hnext hsome hnone ⊢
  refine ⟨_, hexec, fun h => ?_, fun h o ho => ?_, answers_of_lnk rfl, fun p => ?_, rfl, rfl, rfl, rfl, rfl, rfl, rfl, rfl,
    hsome, hnone, hnext, hentries, rfl⟩
  · rw [h]
    exact List.mem_append_right _ (List.mem_singleton_self _)
  · rw [h] at ho
    change o ∈ s.longOps.filter keep ++ [] at ho
    rw [List.append_nil] at ho
    exact (List.mem_filter.1 ho).1
  · have hfields := protected_fields s p
    rw [← allProtected_get] at hfields
    exact hfields

end LowerAll

end Sys2Proof.Machine

/-! ### ROOF_RESET (R51, R91, R96, R105, R140) -/

namespace Sys2Proof.Machine

section ResetChannels

variable {s : State} {p : Pan}

/-- A disconnector that ROOF_RESET has met (R51). -/
def State.discReset (s : State) (p : Pan) : Disc :=
  match (s.ch p).disc, s.lines.discFb.get p with
  | .failed, some q => .resting q
  | d, _ => d

/-- A pantograph released from DROPPED, where it was in it (R51). -/
def Channel.released (c : Channel) : Channel :=
  if c.state = .dropped then { c with state := .lowered, role := none, below := 0 } else c

/-- A channel that ROOF_RESET has met (R51). -/
def State.restored (s : State) (p : Pan) : Channel := { (s.ch p).released with disc := s.discReset p }

theorem released_disc (c : Channel) : c.released.disc = c.disc := by
  unfold Channel.released
  split <;> rfl

theorem restored_fields (s : State) (p : Pan) :
    (s.restored p).state = (if (s.ch p).state = .dropped then .lowered else (s.ch p).state)
      ∧ (s.restored p).job = (s.ch p).job ∧ (s.restored p).disc = s.discReset p := by
  unfold State.restored Channel.released
  split <;> exact ⟨rfl, rfl, rfl⟩

/-- The disconnector of a channel changes exactly where it is FAILED and its feedback reads a position (R51). -/
theorem restored_of_standing (hdisc : s.discReset p = (s.ch p).disc) : s.restored p = (s.ch p).released := by
  unfold State.restored
  rw [hdisc, ← released_disc (s.ch p)]

/-- A released pantograph stands DROPPED no longer (R51). -/
theorem released_eq_self (c : Channel) : c.released = c ↔ c.state ≠ .dropped := by
  unfold Channel.released
  split
  · next h => exact iff_of_false (fun k => nomatch (congrArg Channel.state k).trans h) (fun k => k h)
  · next h => exact iff_of_true rfl h

/-- The release of one channel from DROPPED (R51, R158). -/
theorem released_eq (hlow : (s.ch p).state = .dropped → s.lines.lowered.get p = true) : ∃ arcs block eval,
    (if (s.ch p).state = .dropped && s.lines.lowered.get p then resetDropped p s else s) = { s with
      pch := s.pch.set p (s.ch p).released, ice := { s.ice with arcs := arcs, block := block }
      lnk := raiseAll (if (s.ch p).released = s.ch p then [] else [.pan]) s.lnk, iceEval := eval } := by
  by_cases hdrop : (s.ch p).state = .dropped
  · have hreleased : (s.ch p).released ≠ s.ch p := fun h => (released_eq_self _).1 h hdrop
    have heq := resetDropped_eq p s
    have hform : (s.ch p).released = { s.ch p with state := .lowered, role := none, below := 0 } := if_pos hdrop
    rw [← hform] at heq
    rw [if_pos (by rw [hlow hdrop, decide_eq_true hdrop]; rfl), if_neg hreleased]
    exact ⟨_, _, _, heq⟩
  · have hset : s.pch.set p (s.ch p) = s.pch := PerPan.set_get ..
    refine ⟨s.ice.arcs, s.ice.block, s.iceEval, ?_⟩
    rw [if_neg (by rw [decide_eq_false hdrop]; exact fun h => nomatch h), if_pos ((released_eq_self _).2 hdrop),
      (released_eq_self _).2 hdrop, hset, raiseAll_nil]

/-- ROOF_RESET on one channel (R51, R158). -/
theorem resetChannel_eq (hlow : (s.ch p).state = .dropped → s.lines.lowered.get p = true) : ∃ arcs block eval,
    resetChannel p s = { s with
      pch := s.pch.set p (s.restored p), ice := { s.ice with arcs := arcs, block := block }
      lnk := raiseAll (if s.restored p = s.ch p then [] else [.pan]) s.lnk, iceEval := eval } := by
  obtain ⟨arcs, block, eval, hrel⟩ := released_eq hlow
  refine ⟨arcs, block, eval, ?_⟩
  unfold resetChannel
  rw [hrel]
  have hch : ({ s with
      pch := s.pch.set p (s.ch p).released, ice := { s.ice with arcs := arcs, block := block }
      lnk := raiseAll (if (s.ch p).released = s.ch p then [] else [.pan]) s.lnk, iceEval := eval } : State).ch p
      = (s.ch p).released := PerPan.get_set_same ..
  dsimp only
  rw [hch, released_disc]
  split
  · next q hfail hfb =>
    have hdisc : s.discReset p = .resting q := by unfold State.discReset; rw [hfail, hfb]
    have hmoves : s.restored p ≠ s.ch p := fun h => by
      have hd := (restored_fields s p).2.2
      rw [h, hfail, hdisc] at hd
      cases hd
    have honce : raiseAll ((if (s.ch p).released = s.ch p then [] else [.pan]) ++ [.pan]) s.lnk = raiseAll [.pan] s.lnk := by
      split
      · rfl
      · exact raiseAll_congr (by decide) _
    rw [changePan_eq, if_neg hmoves, ← honce, hch]
    simp only [State.restored, hdisc, PerPan.set_set, raiseAll_raiseAll]
  · next hfail hfb =>
    rw [restored_of_standing (by unfold State.discReset; rw [hfail, hfb])]
  · next hrest =>
    rw [restored_of_standing (by unfold State.discReset; rw [hrest])]
  · next hmove =>
    rw [restored_of_standing (by unfold State.discReset; rw [hmove])]

/-- The channels that ROOF_RESET has met (R51). -/
def State.allRestored (s : State) : PerPan Channel :=
  ⟨s.restored .p1, s.restored .p2, s.restored .p3, s.restored .p4⟩

theorem allRestored_get (s : State) (p : Pan) : s.allRestored.get p = s.restored p := by cases p <;> rfl

/-- Resets of channels that have left them in certain states (R51, R158). -/
def Restores (s t : State) (v : PerPan Channel) : Prop := ∃ arcs block eval, t = { s with
  pch := v, ice := { s.ice with arcs := arcs, block := block }
  lnk := raiseAll (if v = s.pch then [] else [.pan]) s.lnk, iceEval := eval }

theorem restores_refl (s : State) : Restores s s s.pch :=
  ⟨s.ice.arcs, s.ice.block, s.iceEval, by rw [if_pos rfl, raiseAll_nil]⟩

theorem Restores.reset {t : State} {v : PerPan Channel} (h : Restores s t v) (hp : v.get p = s.ch p)
    (hlow : (s.ch p).state = .dropped → s.lines.lowered.get p = true) :
    Restores s (resetChannel p t) (v.set p (s.restored p)) := by
  obtain ⟨arcs, block, eval, rfl⟩ := h
  generalize ht : ({ s with
    pch := v, ice := { s.ice with arcs := arcs, block := block }
    lnk := raiseAll (if v = s.pch then [] else [.pan]) s.lnk, iceEval := eval } : State) = t
  have hch : t.ch p = s.ch p := by rw [← ht]; exact hp
  have hlines : t.lines = s.lines := by rw [← ht]
  have hres : t.restored p = s.restored p := by
    unfold State.restored State.discReset
    rw [hch, hlines]
  obtain ⟨arcs', block', eval', heq⟩ := resetChannel_eq (s := t) (p := p) (by rwa [hch, hlines])
  refine ⟨arcs', block', eval', ?_⟩
  rw [heq, hres, hch, ← ht]
  simp only [raiseAll_raiseAll, panOnce, set_eq_iff (w := s.pch) hp]
  rfl

/-- ROOF_RESET on the channels of a roof that is down (R51, R158). -/
theorem resetChannels_eq (hdown : s.StandsDown) : Restores s (forPans resetChannel s) s.allRestored := by
  have hlow : ∀ p, (s.ch p).state = .dropped → s.lines.lowered.get p = true := fun p hdrop => by
    rcases hdown p with h | h | ⟨-, h⟩
    · rw [hdrop] at h; cases h
    · rw [hdrop] at h; cases h
    · exact h
  exact ((((restores_refl s).reset (p := .p1) rfl (hlow _)).reset (p := .p2) rfl (hlow _)).reset (p := .p3) rfl
    (hlow _)).reset (p := .p4) rfl (hlow _)

end ResetChannels

section RoofReset

variable {s : State} {l : Link} {tag : Byte}

/-- The breaker that ROOF_RESET leaves (R96). -/
def State.breakerReset (s : State) : Breaker :=
  if s.bsc.breaker = .failed then (if s.lines.breakerFb = .opened then .opened else .opening) else s.bsc.breaker

/-- The selector that ROOF_RESET leaves (R96). -/
def State.selectorReset (s : State) : Selector :=
  match s.bsc.selector, s.lines.selectorFb with
  | .failed _, some p => .rest p
  | d, _ => d

/-- ROOF_RESET on a breaker (R96). -/
theorem resetBreaker_eq (s : State) : ∃ reclose start result keep, resetBreaker s = { s with
    bsc := { s.bsc with breaker := s.breakerReset, reclose := reclose, limitStart := start, breakerResult := result }
    lnk := raiseAll (if s.breakerReset = s.bsc.breaker then [] else [.breaker]) s.lnk
    longOps := s.longOps.filter keep } := by
  unfold resetBreaker State.breakerReset
  by_cases hfail : s.bsc.breaker = .failed
  · rw [if_pos hfail, if_pos hfail, hfail]
    by_cases hopen : s.lines.breakerFb = .opened
    · have heq := setBreaker_eq (s := s) (b := .opened) (by rw [hfail]; exact fun h => nomatch h)
      rw [if_neg (fun h => nomatch h : ¬ Breaker.opened = .failed), List.append_nil] at heq
      rw [if_pos hopen, if_pos hopen, if_neg (fun h => nomatch h : ¬ Breaker.opened = .failed)]
      exact ⟨_, _, _, _, heq⟩
    · rw [if_neg hopen, if_neg hopen, startOpening_eq (by rw [hfail]; exact fun h => nomatch h),
        if_neg (fun h => nomatch h : ¬ Breaker.opening = .failed)]
      exact ⟨s.bsc.reclose, s.clk.time, s.bsc.breakerResult, fun _ => true, by rw [List.filter_true]⟩
  · rw [if_neg hfail, if_neg hfail, if_pos rfl, raiseAll_nil]
    exact ⟨s.bsc.reclose, s.bsc.limitStart, s.bsc.breakerResult, fun _ => true, by rw [List.filter_true]⟩

/-- ROOF_RESET on a selector (R96). -/
theorem resetSelector_eq (s : State) : resetSelector s = { s with bsc := { s.bsc with selector := s.selectorReset } } := by
  have hstands : s.selectorReset = s.bsc.selector → { s with bsc := { s.bsc with selector := s.selectorReset } } = s :=
    fun h => by rw [h]
  unfold resetSelector
  split
  · next hsel hfb =>
    unfold State.selectorReset
    rw [hsel, hfb]
    rfl
  · next hsel hfb => exact (hstands (by unfold State.selectorReset; rw [hsel, hfb])).symm
  · next hsel => exact (hstands (by unfold State.selectorReset; rw [hsel])).symm
  · next hsel => exact (hstands (by unfold State.selectorReset; rw [hsel])).symm

/-- The mode that ROOF_RESET leaves (R140). -/
def State.modeReset (s : State) : Mode :=
  if s.seq.mode = .roofSafe then (if s.cfg.committed then .inService else .configPending) else s.seq.mode

/-- The entries that ROOF_RESET leaves, evaluated for arming out of ROOF_SAFE alone (R104, R140). -/
theorem resetMode_eq (s : State) : ∃ action, resetMode s = { s with
    seq := { s.seq with mode := s.modeReset }
    map := { s.map with
      entries := s.map.entries.map fun e =>
        if s.seq.mode = .roofSafe then armEntry { s with seq := { s.seq with mode := s.modeReset } } e else e
      action := action }
    lnk := raiseAll ((if s.seq.mode = .roofSafe then [.roofSafe] else [])
      ++ if ∃ e ∈ s.map.entries, s.seq.mode = .roofSafe
          ∧ ({ s with seq := { s.seq with mode := s.modeReset } } : State).arms e = true
        then [.entry] else []) s.lnk } := by
  unfold resetMode
  by_cases hsafe : s.seq.mode = .roofSafe
  · have hmode : s.modeReset = if s.cfg.committed then .inService else .configPending := if_pos hsafe
    obtain ⟨action, heq⟩ := armWhere_eq (fun _ => true)
      { s with seq := { s.seq with mode := s.modeReset }, lnk := raiseAll [.roofSafe] s.lnk }
    refine ⟨action, ?_⟩
    rw [if_pos hsafe, notice_eq]
    dsimp only [State.modSeq]
    rw [← hmode]
    refine heq.trans ?_
    simp only [hsafe, raiseAll_raiseAll, if_true, true_and]
    rfl
  · have hmode : s.modeReset = s.seq.mode := if_neg hsafe
    refine ⟨s.map.action, ?_⟩
    rw [if_neg hsafe]
    simp only [hmode, hsafe, if_false, false_and, and_false, exists_false, List.append_nil, raiseAll_nil, List.map_id']

/-- An entry that the return at ROOF_RESET has met (R105, R140). -/
def Entry.returned (e : Entry) : Entry := if e.state = .armed then disarm e else e

theorem returned_state (e : Entry) : e.returned.state ≠ .armed := by
  unfold Entry.returned
  split
  · exact fun h => nomatch h
  · assumption

/-- The entries of the map without that of the sequence (R103). -/
def State.uncancelled (s : State) : List Entry :=
  s.map.entries.filter fun e => s.seq.ctx.all fun c => decide (e.id ≠ c.entry.id)

/-- The sequence cancelled and every ARMED entry back in PENDING (R103, R105, R140). -/
theorem returnCancelled_eq (s : State) : ∃ action last eval removal, returnAll (cancelSequence .roofReset s) = { s with
    map := ⟨s.uncancelled.map Entry.returned, s.map.nextId, action, removal⟩
    seq := { s.seq with ctx := none, last := last }
    lnk := raiseAll ((if s.seq.ctx.isSome then [.entry] else [])
      ++ if ∃ e ∈ s.uncancelled, e.state = .armed then [.entry] else []) s.lnk
    iceEval := eval }
    ∧ CancelledWith .roofReset s ⟨s.uncancelled, s.map.nextId, action, removal⟩ last := by
  obtain ⟨m, last, eval, hcancel, hentries, hnext, hrest⟩ := cancelSequence_eq .roofReset s
  obtain ⟨action, hreturn⟩ := returnWhere_eq (fun _ => true) (cancelSequence .roofReset s)
  refine ⟨action, last, eval, m.lastRemoval, hreturn.trans ?_, rfl, rfl, hrest⟩
  rw [hcancel]
  simp only [hentries, hnext, raiseAll_raiseAll, and_true]
  rfl

/-- What ROOF_RESET does (R51, R96, R105, R140). -/
theorem takeRoofReset_eq (hdown : s.StandsDown) :
    ∃ t reclose start result action removal last arcs block keep, takeRoofReset s = { s with
    pch := s.allRestored
    bsc := { s.bsc with
      breaker := s.breakerReset, selector := s.selectorReset, reclose := reclose, limitStart := start, breakerResult := result }
    map := ⟨(s.uncancelled.map Entry.returned).map fun e => if s.seq.mode = .roofSafe then armEntry t e else e,
      s.map.nextId, action, removal⟩
    seq := { s.seq with ctx := none, mode := s.modeReset, last := last }
    ice := { s.ice with arcs := arcs, block := block }
    lnk := raiseAll ((if s.seq.ctx.isSome then [.entry] else [])
      ++ (if ∃ e ∈ s.uncancelled, e.state = .armed then [.entry] else [])
      ++ (if s.allRestored = s.pch then [] else [.pan]) ++ (if s.breakerReset = s.bsc.breaker then [] else [.breaker])
      ++ ((if s.seq.mode = .roofSafe then [.roofSafe] else [])
      ++ (if ∃ e ∈ s.uncancelled.map Entry.returned, s.seq.mode = .roofSafe ∧ t.arms e = true then [.entry] else []))) s.lnk
    longOps := s.longOps.filter keep, iceEval := true }
    ∧ CancelledWith .roofReset s ⟨s.uncancelled, s.map.nextId, action, removal⟩ last
    ∧ t.cfg = s.cfg ∧ t.trv = s.trv ∧ t.seq.mode = s.modeReset ∧ t.pch = s.allRestored := by
  obtain ⟨action, last, eval, removal, hreturn, hfacts⟩ := returnCancelled_eq s
  generalize hr : returnAll (cancelSequence .roofReset s) = r at hreturn
  obtain ⟨arcs, block, eval', hchans⟩ := resetChannels_eq (s := r) (by rw [hreturn]; exact hdown)
  obtain ⟨reclose, start, result, keep, hbreaker⟩ := resetBreaker_eq (forPans resetChannel r)
  have hselector := resetSelector_eq (resetBreaker (forPans resetChannel r))
  obtain ⟨action', hmode⟩ := resetMode_eq (resetSelector (resetBreaker (forPans resetChannel r)))
  have htake : takeRoofReset s
      = (resetMode (resetSelector (resetBreaker (forPans resetChannel r)))).setIceEval true := by
    rw [← hr]
    rfl
  have hform := htake.trans (congrArg (State.setIceEval true) hmode)
  generalize hw : resetSelector (resetBreaker (forPans resetChannel r)) = w at hform
  rw [hselector, hbreaker, hchans, hreturn] at hw
  refine ⟨{ w with seq := { w.seq with mode := w.modeReset } }, reclose, start, result, action', removal, last, arcs, block,
    keep, hform.trans ?_, hfacts, ?_⟩ <;> rw [← hw]
  · simp only [raiseAll_raiseAll]
    rfl
  · exact ⟨rfl, rfl, rfl, rfl⟩

/-- An evaluation for arming reads the configuration, the travel, the mode and the channels alone (R104, R106). -/
theorem armEntry_congr {t u : State} (hcfg : t.cfg = u.cfg) (htrv : t.trv = u.trv) (hmode : t.seq.mode = u.seq.mode)
    (hpch : t.pch = u.pch) (e : Entry) : armEntry t e = armEntry u e := by
  have heligible : t.eligible = u.eligible := by
    funext y p
    unfold State.eligible State.ch
    rw [hcfg, hpch]
  have hstage : stage t = stage u := by
    funext e
    unfold stage State.stagedTarget
    rw [heligible, hcfg]
  have harms : t.arms e = u.arms e := by
    simp only [State.arms, State.withinArm, hcfg, htrv, hmode]
  unfold armEntry
  rw [harms, hstage]

/-- An entry out of the return at ROOF_RESET is moved by the evaluation alone (R104, R105). -/
theorem moved_all (s : State) (e : Entry) : s.moved (fun _ => true) e = armEntry s e.returned := by
  rw [moved_eq, Entry.returned]
  simp only [and_true]

/-- ENTRY once for several changes of the map. -/
theorem entryBits_once {A B C D : Prop} [Decidable A] [Decidable B] [Decidable C] [Decidable D] (hD : A ∨ B ∨ C ↔ D)
    (xs ys zs : List Notice) :
    causeBits ((if A then [.entry] else []) ++ (if B then [.entry] else []) ++ xs ++ ys
        ++ (zs ++ if C then [.entry] else []))
      = causeBits ((if D then [.entry] else []) ++ xs ++ ys ++ zs) := by
  have honce : causeBits (if D then [.entry] else []) = causeBits (if A then [.entry] else [])
      ||| causeBits (if B then [.entry] else []) ||| causeBits (if C then [.entry] else []) := by
    rw [← if_congr hD rfl rfl]
    by_cases hA : A <;> by_cases hB : B <;> by_cases hC : C <;> simp only [hA, hB, hC, if_true, if_false, or_self, or_true,
      or_false] <;> decide
  simp only [causeBits_append, honce]
  ac_rfl

/-- ENTRY is raised by ROOF_RESET where a sequence ends, an entry returns or one arms (R103, R105, R106). -/
theorem entryBits_reset {t : State} {entries : List Entry} (hentries : entries = (s.uncancelled.map Entry.returned).map fun e =>
      if s.seq.mode = .roofSafe then armEntry t e else e) :
    (s.seq.ctx.isSome = true ∨ (∃ e ∈ s.map.entries, e.state = .armed) ∨ ∃ e ∈ entries, e.state = .armed)
      ↔ s.seq.ctx.isSome = true ∨ (∃ e ∈ s.uncancelled, e.state = .armed)
        ∨ ∃ e ∈ s.uncancelled.map Entry.returned, s.seq.mode = .roofSafe ∧ t.arms e = true := by
  have harmed : (∃ e ∈ entries, e.state = .armed)
      ↔ ∃ e ∈ s.uncancelled.map Entry.returned, s.seq.mode = .roofSafe ∧ t.arms e = true := by
    rw [hentries]
    simp only [List.mem_map (l := s.uncancelled.map Entry.returned), exists_exists_and_eq_and]
    refine exists_congr fun e => and_congr_right fun he => ?_
    obtain ⟨d, -, rfl⟩ := List.mem_map.1 he
    split
    · next hsafe => rw [armEntry_armed, or_iff_right (returned_state d), and_iff_right hsafe]
    · next hsafe => exact iff_of_false (returned_state d) fun h => hsafe h.1
  rw [harmed]
  cases hctx : s.seq.ctx with
  | some c => simp
  | none =>
    have hall : s.uncancelled = s.map.entries := by
      unfold State.uncancelled
      rw [hctx]
      exact List.filter_true _
    rw [hall]

/-- Settles O31. -/
theorem roofResetRestoresTheRoof : Obligations.RoofResetRestoresTheRoof := by
  intro l tag s hfree
  obtain ⟨x, hx⟩ := superviseFrame_eq l s
  have hheld : s.holderOrM l = true ↔ s.auth.holder = some l ∨ l = .m := by simp [State.holderOrM, or_comm]
  refine ⟨fun st hfirst => ?_, fun hlink hpermit hdown => ?_⟩
  · have hall := FirstUnmet.refuses hfirst (by simp [Status.effective])
    have hrun : ∀ t : State, t.holderOrM l = s.holderOrM l → t.seq = s.seq → t.earthed = s.earthed → t.bsc = s.bsc →
        t.roofDown = s.roofDown → runCmd l tag .roofReset t = (t, some (st, [])) := fun t h1 h2 h3 h4 h5 => by
      have hspec : FirstUnmet [(s.auth.holder = some l ∨ l = .m, .authNotHeld),
          (¬ (s.seq.mode = .roofSafe ∧ s.lines.earthed = true ∧ s.bsc.permit = false), .interlock),
          (s.StandsDown, .notQuiescent)]
          (if ¬ s.holderOrM l = true then some .authNotHeld
            else if s.seq.mode = .roofSafe ∧ s.earthed ∧ !s.bsc.permit then some .interlock
            else if ¬ s.roofDown = true then some .notQuiescent else none) :=
        firstUnmet_ite (not_congr hheld) (firstUnmet_ite (by simp [State.earthed])
          (firstUnmet_ite (not_congr (roofDown_iff s)) firstUnmet_nil))
      have hst := hspec.unique hfirst
      change cmdRoofReset l t = _
      unfold cmdRoofReset
      rw [h1, h2, h3, h4, h5]
      split at hst
      · next h => rw [if_pos (by simpa using h)]; cases hst; rfl
      · next h =>
        rw [if_neg (by simpa using h)]
        split at hst
        · next h => rw [if_pos h]; cases hst; rfl
        · next h =>
          rw [if_neg h]
          split at hst
          · next h => rw [if_pos (by simpa using h)]; cases hst; rfl
          · cases hst
    exact exec_roof_refused (x := .roofReset) rfl rfl hfree
      (hrun _ (superviseFrame_holderOrM ..) (superviseFrame_seq ..) (superviseFrame_earthed ..) (superviseFrame_bsc ..)
        (by rw [hx]; rfl)) hall.1 hall.2
  · obtain ⟨t, reclose, start, result, action, removal, last, arcs, block, keep, htake, hfacts, hcfg, htrv, hmode, hpch⟩ :=
      takeRoofReset_eq (s := superviseFrame l s) (by rw [hx]; exact hdown)
    have hrun : runCmd l tag .roofReset (superviseFrame l s) = query (takeRoofReset (superviseFrame l s)) [] := by
      change cmdRoofReset l _ = _
      unfold cmdRoofReset
      rw [superviseFrame_holderOrM, hheld.2 hlink, superviseFrame_seq, superviseFrame_earthed, superviseFrame_bsc,
        show (superviseFrame l s).roofDown = true by rw [hx]; exact (roofDown_iff s).2 hdown, if_neg (by decide),
        if_neg (by simpa [State.earthed] using hpermit), if_neg (by decide)]
    rw [htake] at hrun
    have hexec := exec_roof_ok (r := .roofReset l tag) rfl rfl hfree hrun
    rw [hx] at hexec hfacts hcfg htrv hmode hpch ⊢
    obtain ⟨hentries, hnext, hsome, hnone⟩ := hfacts
    refine ⟨_, hexec, answers_of_bits rfl ?_, rfl, rfl, fun p => ?_, rfl, rfl, rfl, rfl, hsome, hnone, rfl, ?_, rfl⟩
    · exact entryBits_once (entryBits_reset (s := s) (t := t) rfl).symm ..
    · have hfields := restored_fields s p
      rw [← allRestored_get] at hfields
      exact hfields
    · refine List.map_map.trans (List.map_congr_left fun e _ => ?_)
      rw [moved_all]
      change (if s.seq.mode = .roofSafe then armEntry t e.returned else e.returned) = _
      refine if_congr Iff.rfl (armEntry_congr ?_ ?_ ?_ ?_ _) rfl
      · exact hcfg
      · exact htrv
      · exact hmode
      · exact hpch

end RoofReset

end Sys2Proof.Machine

/-! ### Requests for the roof authority and the change of the leading end (R9, R16, R115, R157, R162, R166, R168) -/

namespace Sys2Proof.Machine

section ScrapeStop

variable {s u : State} {p : Pan} {src : Source}

/-- A lower request, or the stop of a scrape, has acted on a roof and raised causes (R47, R157). -/
structure LowerEffect (s u : State) (stop : List Notice) : Prop where
  form : ∃ pch freg breaker start proc arcs longOps reports eval, u = { s with
    pch := pch, freg := freg, bsc := { s.bsc with breaker := breaker, limitStart := start }
    ice := { s.ice with proc := proc, arcs := arcs }
    lnk := raiseAll stop s.lnk, longOps := longOps, reports := reports, iceEval := eval }
  causes : ∀ c ∈ stop, c = .pan ∨ c = .breaker
  states : ∀ p, (u.ch p).state ≠ (s.ch p).state → .pan ∈ stop
  breaker : u.bsc.breaker ≠ s.bsc.breaker → .breaker ∈ stop

theorem LowerEffect.refl (s : State) : LowerEffect s s [] where
  form := ⟨s.pch, s.freg, s.bsc.breaker, s.bsc.limitStart, s.ice.proc, s.ice.arcs, s.longOps, s.reports, s.iceEval,
    by rw [raiseAll_nil]⟩
  causes := fun _ h => nomatch h
  states := fun _ h => absurd rfl h
  breaker := fun h => absurd rfl h

theorem LowerEffect.setProc {stop : List Notice} (h : LowerEffect s u stop) (x : Scrape) : LowerEffect s (setProc x u) stop := by
  obtain ⟨⟨pch, freg, breaker, start, proc, arcs, longOps, reports, eval, rfl⟩, hcauses, hstates, hbreaker⟩ := h
  exact ⟨⟨pch, freg, breaker, start, x, arcs, longOps, reports, eval, rfl⟩, hcauses, hstates, hbreaker⟩

/-- Only the channel that is set changes its state. -/
theorem state_of_set {c : Channel} (hch : u.pch = s.pch.set p c) (q : Pan) :
    (u.ch q).state = if q = p then c.state else (s.ch q).state := by
  unfold State.ch
  rw [hch, PerPan.get_set]
  split <;> rfl

theorem mem_preemptedBy {c : Channel} {x : Notice} (hx : x ∈ c.preemptedBy src) : x = .pan := by
  unfold Channel.preemptedBy at hx
  split at hx
  · cases hx
  · split at hx
    · cases hx
    · exact List.mem_singleton.1 hx

theorem freedFor_state (c : Channel) (src : Source) : (c.freedFor src).state = c.state := by
  unfold Channel.freedFor
  split <;> rfl

/-- A channel that a lower request takes without moving its pantograph (R56). -/
theorem LowerEffect.of_taken {c : Channel} {longOps : List LongOp} {reports : List Report}
    {stop : List Notice} (hform : u = { s with
      pch := s.pch.set p c, longOps := longOps, lnk := raiseAll stop s.lnk, reports := reports })
    (hstate : c.state = (s.ch p).state) (hstop : ∀ x ∈ stop, x = .pan) : LowerEffect s u stop where
  form := ⟨s.pch.set p c, s.freg, s.bsc.breaker, s.bsc.limitStart, s.ice.proc, s.ice.arcs, longOps, reports, s.iceEval, hform⟩
  causes := fun x hx => .inl (hstop x hx)
  states := fun q hq => by
    have hq' := state_of_set (s := s) (u := u) (p := p) (c := c) (by rw [hform]) q
    split at hq'
    · next h => exact absurd (hq'.trans (hstate.trans (by rw [h]))) hq
    · exact absurd hq' hq
  breaker := fun h => by
    rw [hform] at h
    exact absurd rfl h

/-- The breaker opened for a lower that waits (R47, R79). -/
theorem LowerEffect.openRequest {stop : List Notice} (h : LowerEffect s u stop) :
    ∃ stop', LowerEffect s (openRequest u) stop' := by
  by_cases hb : u.bsc.breaker = .closed ∨ u.bsc.breaker = .closing
  · obtain ⟨⟨pch, freg, breaker, start, proc, arcs, longOps, reports, eval, rfl⟩, hcauses, hstates, -⟩ := h
    rw [openRequest_opens hb]
    refine ⟨stop ++ [.breaker], ⟨pch, freg, .opening, s.clk.time, proc, arcs, longOps, reports, eval, ?_⟩, fun c hc => ?_,
      fun q hq => ?_, fun _ => ?_⟩
    · rw [raiseAll_raiseAll]
    · rcases List.mem_append.1 hc with hc | hc
      · exact hcauses c hc
      · exact .inr (List.mem_singleton.1 hc)
    · exact List.mem_append_left _ (hstates q hq)
    · exact List.mem_append_right _ (List.mem_singleton_self _)
  · rw [openRequest_stands hb]
    exact ⟨stop, h⟩

/-- A lower request raises PAN where it moves a pantograph, and BREAKER where it opens the breaker (R47, R56). -/
theorem requestLower_effect (p : Pan) (src : Source) (s : State) : ∃ stop, LowerEffect s (requestLower p src s).1 stop := by
  by_cases hadm : s.admits p src = true
  · cases hst : (s.ch p).state with
    | dropped | isolated =>
      rw [requestLower_unavailable hadm (by simp [hst])]
      exact ⟨[], .refl s⟩
    | lowered =>
      rw [requestLower_lowered hadm hst]
      refine ⟨_, .of_taken (endTaken_eq p src .lower .done s) rfl fun x hx => ?_⟩
      rcases List.mem_append.1 hx with hx | hx
      · exact mem_preemptedBy hx
      · exact List.mem_singleton.1 hx
    | lowering =>
      rw [requestLower_lowering hadm hst]
      exact ⟨_, .of_taken (takeOver_eq p src .lower s) (freedFor_state ..) fun x hx => mem_preemptedBy hx⟩
    | raising | settling | raised =>
      rw [requestLower_raised hadm (by rw [hst]; rfl)]
      split
      · have heq := lowerTaken_eq p src s
        refine ⟨_, ⟨_, _, _, _, _, _, _, _, _, heq⟩, fun c hc => ?_, fun q hq => ?_, fun h => ?_⟩
        · rcases List.mem_append.1 hc with hc | hc
          · exact .inl (mem_preemptedBy hc)
          · exact .inl (List.mem_singleton.1 hc)
        · exact List.mem_append_right _ (List.mem_singleton_self _)
        · rw [heq] at h
          exact absurd rfl h
      · exact LowerEffect.openRequest (.of_taken (markTaken_eq p src .lower (fun c => { c with lowerReq := true }) s)
          (freedFor_state ..) fun x hx => mem_preemptedBy hx)
  · rw [requestLower_busy (Bool.eq_false_iff.2 hadm)]
    exact ⟨[], .refl s⟩

/-- ICE stops scraping: by a lower request where its pantograph is or will be raised (R157). -/
theorem scrapeStop_effect (s : State) : ∃ stop, LowerEffect s (scrapeStop s) stop
    ∧ ((∀ p b, s.ice.proc ≠ .raise p b ∧ s.ice.proc ≠ .on p) →
        stop = [] ∧ (scrapeStop s).pch = s.pch ∧ (scrapeStop s).bsc = s.bsc) := by
  have hlower : ∀ p, ∃ stop, LowerEffect s (match requestLower p .ice s with
      | (t, .busy) | (t, .unavailable) => setProc .idle t
      | (t, .done) | (t, .taken) => setProc (.lower p) t) stop := fun p => by
    obtain ⟨stop, h⟩ := requestLower_effect p .ice s
    refine ⟨stop, ?_⟩
    generalize requestLower p .ice s = r at h ⊢
    obtain ⟨t, a⟩ := r
    cases a <;> exact h.setProc _
  unfold scrapeStop
  cases hproc : s.ice.proc with
  | idle | lower q => exact ⟨[], .refl s, fun _ => ⟨rfl, rfl, rfl⟩⟩
  | disconnect q b => exact ⟨[], (LowerEffect.refl s).setProc _, fun _ => ⟨rfl, rfl, rfl⟩⟩
  | raise q b =>
    obtain ⟨stop, h⟩ := hlower q
    exact ⟨stop, h, fun hno => absurd rfl (hno q b).1⟩
  | on q =>
    obtain ⟨stop, h⟩ := hlower q
    exact ⟨stop, h, fun hno => absurd rfl (hno q true).2⟩

end ScrapeStop

section LeadingEnd

variable {s : State} {l : Link}

/-- The leading end behind a grant to a link (R168). -/
def leadingOf (l : Link) (e : End) : End :=
  match l with
  | .a => .endA
  | .b => .endB
  | .m => e

theorem endChanges_iff (s : State) (l : Link) :
    s.endChanges l = true ↔ l = .a ∧ s.auth.leading = .endB ∨ l = .b ∧ s.auth.leading = .endA := by
  unfold State.endChanges
  cases l <;> cases s.auth.leading <;> decide

theorem endChanges_eq_false (h : s.endChanges l = false) : leadingOf l s.auth.leading = s.auth.leading := by
  unfold State.endChanges at h
  revert h
  cases l <;> cases s.auth.leading <;> decide

theorem leadingEndChange_same (h : s.endChanges l = false) : leadingEndChange l s = s := by
  unfold leadingEndChange
  unfold State.endChanges at h
  cases he : endOf l with
  | none => rfl
  | some e =>
    rw [he] at h
    exact if_pos (by simpa using h)

/-- A change of the leading end clears the runs and recomputes the offsets (R9, R16). -/
theorem travelLeadingEnd_eq (s : State) : travelLeadingEnd s = { s with
    trv := { s.trv with revRun := 0, fwdRun := 0, direction := .normal, offsets := s.offsetsNow }
    lnk := raiseAll (if s.trv.direction = .reversing then [.map] else []) s.lnk } := by
  unfold travelLeadingEnd
  dsimp only
  split
  · rw [notice_eq]
    rfl
  · rw [raiseAll_nil]
    rfl

/-- The offsets behind a change of the leading end (R14). -/
def State.offsetsFor (s : State) (l : Link) : PerPan Nat :=
  ({ s with auth := { s.auth with leading := leadingOf l s.auth.leading } } : State).offsetsNow

/-- The offsets of a new leading end, by the two formulas of R14. -/
theorem offsetsFor_get (h : s.endChanges l = true) (p : Pan) : (s.offsetsFor l).get p =
    if l = .a then s.trv.fA + s.cfg.items.panPosition.get p
    else s.trv.fB + (s.cfg.items.carLength - s.cfg.items.panPosition.get p) := by
  unfold State.offsetsFor
  rw [offsetsNow_get]
  rcases (endChanges_iff s l).1 h with ⟨rfl, -⟩ | ⟨rfl, -⟩ <;> rfl

/-- A change of the leading end empties the map and stops a scrape (R9, R16, R115, R157, R168). -/
theorem leadingEndChange_moves (h : s.endChanges l = true) : ∃ stop pch freg breaker start ice longOps reports map,
    leadingEndChange l s = { s with
      auth := { s.auth with leading := leadingOf l s.auth.leading }
      trv := { s.trv with revRun := 0, fwdRun := 0, direction := .normal, offsets := s.offsetsFor l }
      map := map, pch := pch, freg := freg, bsc := { s.bsc with breaker := breaker, limitStart := start }
      ice := ice, lnk := raiseAll (.map :: stop) s.lnk, longOps := longOps, reports := reports, iceEval := true }
    ∧ map.entries = [] ∧ map.nextId = s.map.nextId
    ∧ (∀ c ∈ stop, c = .pan ∨ c = .breaker)
    ∧ ((∀ p b, s.ice.proc ≠ .raise p b ∧ s.ice.proc ≠ .on p) → stop = [] ∧ pch = s.pch ∧ breaker = s.bsc.breaker
        ∧ start = s.bsc.limitStart)
    ∧ ((∃ p, (pch.get p).state ≠ (s.ch p).state) → .pan ∈ stop)
    ∧ (breaker ≠ s.bsc.breaker → .breaker ∈ stop) := by
  obtain ⟨e, he, hmove⟩ : ∃ e, leadingOf l s.auth.leading = e ∧ leadingEndChange l s
      = (scrapeStop (clearMap (travelLeadingEnd (s.modAuth fun a => { a with leading := e })))).setIceEval true := by
    unfold State.endChanges at h
    unfold leadingEndChange
    cases l with
    | m => cases h
    | a => exact ⟨_, rfl, if_neg (of_decide_eq_true h)⟩
    | b => exact ⟨_, rfl, if_neg (of_decide_eq_true h)⟩
  obtain ⟨action, eval, hclear⟩ := clearMap_eq (travelLeadingEnd (s.modAuth fun a => { a with leading := e }))
  have htravel := travelLeadingEnd_eq (s.modAuth fun a => { a with leading := e })
  generalize htm : clearMap (travelLeadingEnd (s.modAuth fun a => { a with leading := e })) = t at *
  rw [htravel] at hclear
  obtain ⟨stop, ⟨⟨pch, freg, breaker, start, proc, arcs, longOps, reports, eval', hform⟩, hcauses, hstates, hbreaker⟩, hnone⟩ :=
    scrapeStop_effect t
  have hlnk : t.lnk = raiseAll [.map] s.lnk := by
    rw [hclear]
    dsimp only
    rw [raiseAll_raiseAll]
    refine raiseAll_congr ?_ _
    split <;> decide
  refine ⟨stop, pch, freg, breaker, start, { s.ice with proc := proc, arcs := arcs }, longOps, reports, t.map, ?_, ?_, ?_,
    hcauses, fun hproc => ?_, fun ⟨p, hp⟩ => hstates p ?_, fun hb => hbreaker ?_⟩
  · rw [hmove, hform, hlnk, raiseAll_raiseAll, State.offsetsFor, he, hclear]
    rfl
  · rw [hclear]
  · rw [hclear]
    rfl
  · obtain ⟨hstop, hpch, hbsc⟩ := hnone (by rw [hclear]; exact hproc)
    rw [hform] at hpch hbsc
    rw [hclear] at hpch hbsc
    exact ⟨hstop, hpch, congrArg (·.breaker) hbsc, congrArg (·.limitStart) hbsc⟩
  · rw [hform, hclear]
    exact hp
  · rw [hform, hclear]
    exact hb

/-- A cause raised twice counts once. -/
theorem causeBits_cons_cons (c : Notice) (cs : List Notice) : causeBits (c :: c :: cs) = causeBits (c :: cs) := by
  simp only [causeBits, List.foldr, ← BitVec.or_assoc, BitVec.or_self]

/-- A cause that is raised is pending on every link. -/
theorem noticed_of_raised {u : State} {cs : List Notice} {c : Notice} {v : PerLink Port} (hlnk : u.lnk = raiseAll cs v)
    (hc : c ∈ cs) : u.Noticed c := by
  intro k
  rw [hlnk, raiseAll_get]
  obtain ⟨xs, ys, rfl⟩ := List.append_of_mem hc
  have hcons : xs ++ c :: ys = xs ++ ([c] ++ ys) := rfl
  rw [hcons, causeBits_append, causeBits_append]
  have hone : causeBits [c] = c.bit := by simp [causeBits]
  rw [hone]
  ext i
  simp only [BitVec.getElem_and, BitVec.getElem_or]
  cases c.bit[i] <;> simp

theorem State.Noticed.answered {u : State} {c : Notice} (h : u.Noticed c) (l : Link) (tag code : Byte) (st : Status)
    (bytes : List Byte) : (u.answered l tag code st bytes).Noticed c := by
  intro k
  unfold State.answered
  rw [State.modPort_lnk, PerLink.get_set]
  split
  · next hk =>
    subst hk
    exact h _
  · exact h k

/-- What a change of holder to a link does: the record, and the change of the leading end (R166, R168). -/
structure GrantEffect (l : Link) (cause : ChangeCause) (s u : State) (stop : List Notice) : Prop where
  auth : u.auth = { s.auth.change cause s.clk.time s.cfg.items.authSupervision with leading := leadingOf l s.auth.leading }
  lnk : u.lnk = raiseAll (.auth :: if s.endChanges l = true then .map :: stop else []) s.lnk
  turned : s.endChanges l = true → u.map.entries = [] ∧ u.map.nextId = s.map.nextId
    ∧ u.trv = { s.trv with revRun := 0, fwdRun := 0, direction := .normal, offsets := s.offsetsFor l }
  stands : s.endChanges l = false → u.map = s.map ∧ u.trv = s.trv ∧ u.pch = s.pch ∧ u.bsc = s.bsc
  causes : ∀ c ∈ stop, c = .pan ∨ c = .breaker
  idle : (∀ p b, s.ice.proc ≠ .raise p b ∧ s.ice.proc ≠ .on p) → stop = [] ∧ u.pch = s.pch ∧ u.bsc = s.bsc
  states : (∃ p, (u.ch p).state ≠ (s.ch p).state) → s.endChanges l = true ∧ .pan ∈ stop
  breaker : u.bsc.breaker ≠ s.bsc.breaker → s.endChanges l = true ∧ .breaker ∈ stop
  traction : u.bsc.traction = s.bsc.traction
  cfg : u.cfg = s.cfg
  front : u.trv.front = s.trv.front

theorem makeChange_grants (hreq : s.auth.requester = some l) (cause : ChangeCause) :
    ∃ stop, GrantEffect l cause s (makeChange cause s) stop := by
  have hrec : changeAuth (·.change cause s.now s.cfg.items.authSupervision) s = { s with
      auth := s.auth.change cause s.clk.time s.cfg.items.authSupervision, lnk := raiseAll [.auth] s.lnk } := notice_eq ..
  have hmake : makeChange cause s = leadingEndChange l { s with
      auth := s.auth.change cause s.clk.time s.cfg.items.authSupervision, lnk := raiseAll [.auth] s.lnk } := by
    unfold makeChange
    rw [hrec, hreq]
  rw [hmake]
  cases hend : s.endChanges l with
  | false =>
    rw [leadingEndChange_same (s := { s with
      auth := s.auth.change cause s.clk.time s.cfg.items.authSupervision, lnk := raiseAll [.auth] s.lnk }) hend]
    refine ⟨[], ?_, ?_, fun h => ?_, fun _ => ⟨rfl, rfl, rfl, rfl⟩, fun _ h => (nomatch h), fun _ => ⟨rfl, rfl, rfl⟩,
      fun ⟨p, hp⟩ => absurd rfl hp, fun h => absurd rfl h, rfl, rfl, rfl⟩
    · rw [endChanges_eq_false hend]
      rfl
    · rw [hend]
      rfl
    · rw [hend] at h
      cases h
  | true =>
    obtain ⟨stop, pch, freg, breaker, start, ice, longOps, reports, map, hform, hentries, hid, hcauses, hidle, hstates,
      hbreaker⟩ := leadingEndChange_moves (s := { s with
        auth := s.auth.change cause s.clk.time s.cfg.items.authSupervision, lnk := raiseAll [.auth] s.lnk }) hend
    rw [hform]
    refine ⟨stop, rfl, ?_, fun _ => ⟨hentries, hid, rfl⟩, fun h => ?_, hcauses, fun hproc => ?_, fun h => ⟨hend, hstates h⟩,
      fun h => ⟨hend, hbreaker h⟩, rfl, rfl, rfl⟩
    · rw [hend, if_pos rfl]
      exact raiseAll_raiseAll ..
    · rw [hend] at h
      cases h
    · obtain ⟨hstop, hpch, hbr, hst⟩ := hidle hproc
      refine ⟨hstop, hpch, ?_⟩
      rw [hbr, hst]

end LeadingEnd

section AuthRequest

variable {s : State} {l : Link} {tag : Byte}

/-- The state in which a request is granted at once (R162, R166). -/
def State.requested (s : State) (l : Link) : State :=
  { s with auth := { s.auth with requester := some l }, lnk := raiseAll [.auth] s.lnk }

theorem changeAuth_requested (l : Link) (s : State) :
    changeAuth (fun a => { a with requester := some l }) s = s.requested l := notice_eq ..

/-- A request granted at once (R162, R166). -/
theorem authRequest_grants (hfree : s.free l) (hholder : s.auth.holder = none) (hreq : s.auth.requester = none)
    (hdefer : s.deferred (some l) = false) : ∃ u stop,
      exec (.authRequest l tag) s = .next (settle (u.answered l tag 0x24 .ok []))
        ∧ GrantEffect l .grantFree (s.requested l) u stop := by
  obtain ⟨stop, heff⟩ := makeChange_grants (s := s.requested l) (l := l) rfl .grantFree
  have hrun : runCmd l tag .authRequest (superviseFrame l s) = (makeChange .grantFree (s.requested l), some (.ok, [])) := by
    rw [superviseFrame_of_other (by rw [hholder]; exact fun h => nomatch h)]
    change bare (authRequest l s) = _
    unfold authRequest
    dsimp only
    rw [hholder, hreq, hdefer, if_neg (fun h => nomatch h), if_neg (fun h => nomatch h), if_neg (fun h => nomatch h),
      if_pos ⟨rfl, rfl⟩, changeAuth_requested]
    rfl
  have hexec := exec_roof_acts (i := .authRequest l tag) rfl rfl hfree hrun rfl
  exact ⟨makeChange .grantFree (s.requested l), stop, hexec, heff⟩

/-- Settles O34. -/
theorem authRequestGrantsOrWaits : Obligations.AuthRequestGrantsOrWaits := by
  intro l tag s hfree
  refine ⟨fun hheld => ?held, fun hother hreq => ?pending, fun k hother hreq hk => ?busy, fun hreq hwait => ?waits,
    fun hholder hreq hdefer => ?granted⟩
  case held =>
    have hrun : runCmd l tag .authRequest (superviseFrame l s) = (superviseFrame l s, some (.ok, [])) := by
      change bare (authRequest l _) = _
      unfold authRequest
      dsimp only
      rw [if_pos (by rw [superviseFrame_holder, hheld])]
      rfl
    have hexec := exec_roof_acts (i := .authRequest l tag) rfl rfl hfree hrun rfl
    exact hexec
  case pending =>
    have hrun : runCmd l tag .authRequest (superviseFrame l s) = (s, some (.pending, [])) := by
      rw [superviseFrame_of_other hother]
      change bare (authRequest l s) = _
      unfold authRequest
      dsimp only
      rw [if_neg hother, if_pos hreq]
      rfl
    have hexec := exec_roof_acts (i := .authRequest l tag) rfl rfl hfree hrun rfl
    exact hexec
  case busy =>
    have hrun : runCmd l tag .authRequest (superviseFrame l s) = (superviseFrame l s, some (.authBusy, [])) := by
      rw [superviseFrame_of_other hother]
      change bare (authRequest l s) = _
      unfold authRequest
      dsimp only
      rw [if_neg hother, if_neg (by rw [hreq]; exact fun h => hk (Option.some.inj h)), if_pos (by rw [hreq]; rfl)]
      rfl
    have hexec := exec_roof_refused (x := .authRequest) (r := .authRequest l tag) (st := .authBusy) rfl rfl hfree hrun rfl
      (fun h => nomatch h)
    rwa [superviseFrame_of_other hother] at hexec
  case waits =>
    have hother : s.auth.holder ≠ some l := by
      rcases hwait with ⟨hnone, -⟩ | ⟨k, hk, hne⟩
      · rw [hnone]; exact fun h => nomatch h
      · rw [hk]; exact fun h => hne (Option.some.inj h)
    have hrun : runCmd l tag .authRequest (superviseFrame l s) = (s.requested l, some (.pending, [])) := by
      rw [superviseFrame_of_other hother]
      change bare (authRequest l s) = _
      unfold authRequest
      dsimp only
      rw [if_neg hother, if_neg (by rw [hreq]; exact fun h => nomatch h), if_neg (by rw [hreq]; exact fun h => nomatch h),
        changeAuth_requested, if_neg]
      · rfl
      · rintro ⟨hnone, hdefer⟩
        rcases hwait with ⟨-, h⟩ | ⟨k, hk, -⟩
        · rw [h] at hdefer; cases hdefer
        · rw [hnone] at hk; cases hk
    have hexec := exec_roof_acts (i := .authRequest l tag) rfl rfl hfree hrun rfl
    exact ⟨_, hexec, answers_of_lnk rfl, rfl, rfl⟩
  case granted =>
    obtain ⟨u, stop, hexec, heff⟩ := authRequest_grants (tag := tag) hfree hholder hreq hdefer
    refine ⟨_, stop, hexec, answers_of_lnk ?_, heff.causes, heff.idle, heff.states, heff.breaker, ?_, heff.traction, heff.cfg,
      heff.front⟩
    · rw [heff.lnk]
      exact (raiseAll_raiseAll ..).trans (raiseAll_congr (causeBits_cons_cons ..) _)
    · refine heff.auth.trans ?_
      simp only [Authority.change, State.requested, Option.map_some, hholder]
      cases l <;> rfl

/-- Settles O35. -/
theorem leadingEndChangeClearsTheMap : Obligations.LeadingEndChangeClearsTheMap := by
  intro l tag s hfree hholder hreq hdefer
  obtain ⟨u, stop, hexec, heff⟩ := authRequest_grants (tag := tag) hfree hholder hreq hdefer
  refine ⟨fun hend => ?_, fun hend => ?_⟩
  · obtain ⟨hentries, hid, htrv⟩ := heff.turned hend
    have hraised : u.Noticed .map := noticed_of_raised heff.lnk (by
      rw [show (s.requested l).endChanges l = true from hend]
      exact .tail _ (.head _))
    exact ⟨_, hexec, hentries, hid, congrArg (·.fwdRun) htrv, congrArg (·.revRun) htrv, congrArg (·.direction) htrv,
      hraised.answered l tag _ _ _, fun p => (congrArg (·.offsets.get p) htrv).trans (offsetsFor_get hend p)⟩
  · obtain ⟨hmap, htrv, hpch, hbsc⟩ := heff.stands hend
    exact ⟨_, hexec, hmap, htrv, hpch, hbsc⟩

end AuthRequest

end Sys2Proof.Machine

/-! ### What the reactions of PCH, BSC, ICE and SEQ leave of the authority, of TRV and of an empty map (R166, R168) -/

namespace Sys2Proof.Machine

section Stays

variable {s t u : State}

/-- The authority record, TRV and the frames handed to the transmitters stand, an empty map stays empty, and pending notices stay
pending. -/
structure Stays (s t : State) : Prop where
  auth : t.auth = s.auth
  trv : t.trv = s.trv
  map : s.map.entries = [] → t.map.entries = []
  notices : ∀ c, s.Noticed c → t.Noticed c
  tx : ∀ l, (t.lnk.get l).tx = (s.lnk.get l).tx

@[simp] theorem Stays.refl (s : State) : Stays s s := ⟨rfl, rfl, id, fun _ => id, fun _ => rfl⟩

theorem Stays.trans (h : Stays s t) (k : Stays t u) : Stays s u :=
  ⟨k.auth.trans h.auth, k.trv.trans h.trv, k.map ∘ h.map, fun c => k.notices c ∘ h.notices c,
    fun l => (k.tx l).trans (h.tx l)⟩

theorem Stays.of_eq (h : Stays s t) (hauth : u.auth = t.auth) (htrv : u.trv = t.trv) (hmap : u.map = t.map)
    (hlnk : u.lnk = t.lnk) : Stays s u :=
  h.trans ⟨hauth, htrv, fun k => by rw [hmap]; exact k, fun c k => by unfold State.Noticed; rw [hlnk]; exact k,
    fun _ => by rw [hlnk]⟩

/-! Updates of the blocks. -/

@[simp] theorem Stays.modPan (h : Stays s t) (p : Pan) (f : Channel → Channel) : Stays s (t.modPan p f) :=
  h.of_eq rfl rfl rfl rfl

@[simp] theorem Stays.modForce (h : Stays s t) (p : Pan) (f : Force → Force) : Stays s (t.modForce p f) :=
  h.of_eq rfl rfl rfl rfl

@[simp] theorem Stays.modBsc (h : Stays s t) (f : Power → Power) : Stays s (t.modBsc f) := h.of_eq rfl rfl rfl rfl

@[simp] theorem Stays.modSeq (h : Stays s t) (f : Sequencer → Sequencer) : Stays s (t.modSeq f) := h.of_eq rfl rfl rfl rfl

@[simp] theorem Stays.modIce (h : Stays s t) (f : Ice → Ice) : Stays s (t.modIce f) := h.of_eq rfl rfl rfl rfl

@[simp] theorem Stays.setLongOps (h : Stays s t) (v : List LongOp) : Stays s (t.setLongOps v) := h.of_eq rfl rfl rfl rfl

@[simp] theorem Stays.setFault (h : Stays s t) (v : Option FaultRecord) : Stays s (t.setFault v) := h.of_eq rfl rfl rfl rfl

@[simp] theorem Stays.setReports (h : Stays s t) (v : List Report) : Stays s (t.setReports v) := h.of_eq rfl rfl rfl rfl

@[simp] theorem Stays.setIceEval (h : Stays s t) (v : Bool) : Stays s (t.setIceEval v) := h.of_eq rfl rfl rfl rfl

theorem Stays.modMap (h : Stays s t) (f : RouteMap → RouteMap) (hf : t.map.entries = [] → (f t.map).entries = []) :
    Stays s (t.modMap f) := h.trans ⟨rfl, rfl, hf, fun _ => id, fun _ => rfl⟩

@[simp] theorem Stays.notice (h : Stays s t) (c : Notice) : Stays s (notice c t) := by
  refine h.trans ⟨?_, ?_, ?_, fun d k l => ?_, fun l => ?_⟩ <;> rw [notice_eq]
  · exact id
  · rw [raiseAll_get]
    have hd := k l
    ext i hi
    have hbit := congrArg (·[i]) hd
    simp only [BitVec.getElem_and, BitVec.getElem_or] at hbit ⊢
    revert hbit
    cases d.bit[i] <;> cases (t.lnk.get l).pend[i] <;> simp
  · rw [raiseAll_get]

@[simp] theorem Stays.report (h : Stays s t) (r : Report) : Stays s (report r t) := h.setReports _

theorem Stays.forPans {f : Pan → State → State} (h : Stays s t) (k : ∀ p u, Stays u (f p u)) : Stays s (forPans f t) :=
  (((h.trans (k _ _)).trans (k _ _)).trans (k _ _)).trans (k _ _)

@[simp] theorem Stays.startLong (h : Stays s t) (l : Link) (k : LongKind) : Stays s (startLong l k t) := h.setLongOps _

@[simp] theorem Stays.endLong (h : Stays s t) (k : LongKind) : Stays s (endLong k t) := h.setLongOps _

/-! The breaker. -/

@[simp] theorem Stays.reportFault (h : Stays s t) (k : FaultKind) (p : Option Pan) (e : Option Nat) : Stays s (reportFault k p e t) := by
  unfold Machine.reportFault
  simp (maxDischargeDepth := 40) [h]

@[simp] theorem Stays.endBreakerOps (h : Stays s t) (b : Breaker) : Stays s (endBreakerOps b t) := by
  unfold Machine.endBreakerOps
  simp (maxDischargeDepth := 40) [h]

@[simp] theorem Stays.setBreaker (h : Stays s t) (b : Breaker) : Stays s (setBreaker b t) := by
  unfold Machine.setBreaker
  dsimp only
  repeat' split
  all_goals simp (maxDischargeDepth := 40) [h]

@[simp] theorem Stays.startOpening (h : Stays s t) : Stays s (startOpening t) := by
  unfold Machine.startOpening
  simp (maxDischargeDepth := 40) [h]

@[simp] theorem Stays.openRequest (h : Stays s t) : Stays s (openRequest t) := by
  unfold Machine.openRequest
  repeat' split
  all_goals simp (maxDischargeDepth := 40) [h]

@[simp] theorem Stays.clearTraction (h : Stays s t) : Stays s (clearTraction t) := by
  unfold Machine.clearTraction
  dsimp only
  repeat' split
  all_goals simp (maxDischargeDepth := 40) [h]

/-! The pantographs. -/

@[simp] theorem Stays.computeForce (h : Stays s t) (p : Pan) : Stays s (computeForce p t) := by
  unfold Machine.computeForce
  simp (maxDischargeDepth := 40) [h]

@[simp] theorem Stays.startForce (h : Stays s t) (p : Pan) : Stays s (startForce p t) := by
  unfold Machine.startForce
  simp (maxDischargeDepth := 40) [h]

@[simp] theorem Stays.stopForce (h : Stays s t) (p : Pan) : Stays s (stopForce p t) := by
  unfold Machine.stopForce
  simp (maxDischargeDepth := 40) [h]

@[simp] theorem Stays.endOpLong (h : Stays s t) (p : Pan) (op : Op) : Stays s (endOpLong p op t) := by
  unfold Machine.endOpLong
  repeat' split
  all_goals simp (maxDischargeDepth := 40) [h]

@[simp] theorem Stays.changePan (h : Stays s t) (p : Pan) (f : Channel → Channel) : Stays s (changePan p f t) := by
  unfold Machine.changePan
  simp (maxDischargeDepth := 40) [h]

@[simp] theorem Stays.movePan (h : Stays s t) (p : Pan) (f : Channel → Channel) : Stays s (movePan p f t) := by
  unfold Machine.movePan
  simp (maxDischargeDepth := 40) [h]

@[simp] theorem Stays.reportOutcome (h : Stays s t) (p : Pan) (src : Source) (op : Op) (out : OpOutcome) : Stays s (reportOutcome p src op out t) := by
  unfold Machine.reportOutcome
  repeat' split
  all_goals simp (maxDischargeDepth := 40) [h]

@[simp] theorem Stays.recordOutcome (h : Stays s t) (p : Pan) (src : Source) (op : Op) (out : OpOutcome) : Stays s (recordOutcome p src op out t) := by
  unfold Machine.recordOutcome
  simp (maxDischargeDepth := 40) [h]

@[simp] theorem Stays.dropJob (h : Stays s t) (p : Pan) : Stays s (dropJob p t) := by
  unfold Machine.dropJob
  repeat' split
  all_goals simp (maxDischargeDepth := 40) [h]

@[simp] theorem Stays.endJob (h : Stays s t) (p : Pan) (out : OpOutcome) : Stays s (endJob p out t) := by
  unfold Machine.endJob
  repeat' split
  all_goals simp (maxDischargeDepth := 40) [h]

@[simp] theorem Stays.placeJob (h : Stays s t) (p : Pan) (src : Source) (op : Op) : Stays s (placeJob p src op t) := by
  unfold Machine.placeJob
  dsimp only
  repeat' split
  all_goals simp (maxDischargeDepth := 40) [h]

@[simp] theorem Stays.takeOver (h : Stays s t) (p : Pan) (src : Source) (op : Op) : Stays s (takeOver p src op t) := by
  unfold Machine.takeOver
  repeat' split
  all_goals simp (maxDischargeDepth := 40) [h]

@[simp] theorem Stays.reachLowered (h : Stays s t) (p : Pan) : Stays s (reachLowered p t) := by
  unfold Machine.reachLowered
  dsimp only
  repeat' split
  all_goals simp (maxDischargeDepth := 40) [h]

@[simp] theorem Stays.enterLowering (h : Stays s t) (p : Pan) : Stays s (enterLowering p t) := by
  unfold Machine.enterLowering
  dsimp only
  repeat' split
  all_goals simp (maxDischargeDepth := 40) [h]

@[simp] theorem Stays.requestLower (h : Stays s t) (p : Pan) (src : Source) : Stays s (requestLower p src t).1 := by
  unfold Machine.requestLower
  repeat' split
  all_goals simp (maxDischargeDepth := 40) [h]

@[simp] theorem Stays.protectiveLower (h : Stays s t) (p : Pan) : Stays s (protectiveLower p t) := by
  unfold Machine.protectiveLower
  repeat' split
  all_goals simp (maxDischargeDepth := 40) [h]

@[simp] theorem Stays.startDisc (h : Stays s t) (p : Pan) (q : DiscPos) : Stays s (startDisc p q t) := by
  unfold Machine.startDisc
  simp (maxDischargeDepth := 40) [h]

@[simp] theorem Stays.requestDisc (h : Stays s t) (p : Pan) (q : DiscPos) (src : Source) : Stays s (requestDisc p q src t).1 := by
  unfold Machine.requestDisc
  dsimp only
  repeat' split
  all_goals simp (maxDischargeDepth := 40) [h]

@[simp] theorem Stays.markRaised (h : Stays s t) (p : Pan) : Stays s (markRaised p t) := by
  unfold Machine.markRaised
  simp (maxDischargeDepth := 40) [h]

@[simp] theorem Stays.grantRaise (h : Stays s t) (p : Pan) (d : Duty) : Stays s (grantRaise p d t) := by
  unfold Machine.grantRaise
  dsimp only
  repeat' split
  all_goals simp (maxDischargeDepth := 40) [h]

@[simp] theorem Stays.raiseRaised (h : Stays s t) (p : Pan) (d : Duty) (src : Source) : Stays s (raiseRaised p d src t).1 := by
  unfold Machine.raiseRaised
  repeat' split
  all_goals simp (maxDischargeDepth := 40) [h]

@[simp] theorem Stays.requestRaise (h : Stays s t) (p : Pan) (d : Duty) (src : Source) : Stays s (requestRaise p d src t).1 := by
  unfold Machine.requestRaise
  repeat' split
  all_goals simp (maxDischargeDepth := 40) [h]

/-! The map and the sequence. -/

@[simp] theorem Stays.computeAction (h : Stays s t) : Stays s (computeAction t) := h.modMap _ id

@[simp] theorem Stays.refreshAction (h : Stays s t) : Stays s (refreshAction t) := by
  unfold Machine.refreshAction
  repeat' split
  all_goals simp (maxDischargeDepth := 40) [h]

@[simp] theorem Stays.returnAll (h : Stays s t) : Stays s (returnAll t) := by
  unfold Machine.returnAll Machine.returnWhere
  dsimp only
  split
  · exact ((h.modMap _ fun k => by rw [k]; rfl).notice _).refreshAction
  · exact h

@[simp] theorem Stays.removeEntry (h : Stays s t) (e : Entry) (r : RemovalReason) : Stays s (removeEntry e r t) := by
  have hremove := (h.modMap (fun m => { m with
    entries := m.entries.filter fun d => d.id ≠ e.id
    lastRemoval := some ⟨e.id, e.sect, r, t.now, t.trv.front / 1000⟩ }) fun k => by rw [k]; rfl).setIceEval true
  unfold Machine.removeEntry
  dsimp only
  split
  · exact hremove.computeAction
  · exact hremove.refreshAction

@[simp] theorem Stays.modCtx (h : Stays s t) (f : SeqCtx → SeqCtx) : Stays s (modCtx f t) := by
  unfold Machine.modCtx
  simp (maxDischargeDepth := 40) [h]

@[simp] theorem Stays.endSequence (h : Stays s t) (r : RemovalReason) (x : SeqResult) : Stays s (endSequence r x t) := by
  unfold Machine.endSequence
  repeat' split
  all_goals simp (maxDischargeDepth := 40) [h]

@[simp] theorem Stays.cancelSequence (h : Stays s t) (c : CancelCause) : Stays s (cancelSequence c t) := by
  unfold Machine.cancelSequence
  simp (maxDischargeDepth := 40) [h]

@[simp] theorem Stays.reportMismatch (h : Stays s t) (r : Reason) (e : Nat) : Stays s (reportMismatch r e t) := by
  unfold Machine.reportMismatch
  repeat' split
  all_goals simp (maxDischargeDepth := 40) [h]

@[simp] theorem Stays.lowerSeqRaised (h : Stays s t) (r : PerPan Bool) (p : Pan) : Stays s (lowerSeqRaised r p t) := by
  unfold Machine.lowerSeqRaised
  repeat' split
  all_goals simp (maxDischargeDepth := 40) [h]

@[simp] theorem Stays.failStage (h : Stays s t) (r : Reason) (p : Option Pan) : Stays s (failStage r p t) := by
  unfold Machine.failStage
  split
  · refine Stays.forPans ?_ fun q u => (Stays.refl u).lowerSeqRaised _ q
    simp (maxDischargeDepth := 40) [h]
  · exact h

@[simp] theorem Stays.markStage (h : Stays s t) (x : Stage) : Stays s (markStage x t) := by
  unfold Machine.markStage
  simp (maxDischargeDepth := 40) [h]

@[simp] theorem Stays.enterClearing (h : Stays s t) : Stays s (enterClearing t) := by
  unfold Machine.enterClearing
  simp (maxDischargeDepth := 40) [h]

@[simp] theorem Stays.candidateFails (h : Stays s t) (r : Reason) (p : Pan) : Stays s (candidateFails r p t) := by
  unfold Machine.candidateFails
  dsimp only
  repeat' split
  all_goals simp (maxDischargeDepth := 40) [h]

@[simp] theorem Stays.iceRoofSafe (h : Stays s t) : Stays s (iceRoofSafe t) := by
  unfold Machine.iceRoofSafe
  simp (maxDischargeDepth := 40) [h]

@[simp] theorem Stays.roofSafe (h : Stays s t) : Stays s (roofSafe t) := by
  unfold Machine.roofSafe
  dsimp only
  split
  · exact h
  · refine Stays.setIceEval (Stays.returnAll (Stays.cancelSequence (Stays.iceRoofSafe ?_) _)) _
    refine Stays.forPans ?_ fun p u => (Stays.refl u).protectiveLower p
    simp (maxDischargeDepth := 40) [h]

@[simp] theorem Stays.seqOpEnded (h : Stays s t) (p : Pan) (op : Op) (out : OpOutcome) : Stays s (seqOpEnded p op out t) := by
  unfold Machine.seqOpEnded
  repeat' split
  all_goals simp (maxDischargeDepth := 40) [h]

@[simp] theorem Stays.seqPanFault (h : Stays s t) (k : FaultKind) (p : Pan) : Stays s (seqPanFault k p t) := by
  unfold Machine.seqPanFault
  repeat' split
  all_goals simp (maxDischargeDepth := 40) [h]

@[simp] theorem Stays.seqLowerTimeout (h : Stays s t) (p : Pan) (r : Option Duty) (b : Bool) : Stays s (seqLowerTimeout p r b t) := by
  unfold Machine.seqLowerTimeout
  repeat' split
  all_goals simp (maxDischargeDepth := 40) [h]

@[simp] theorem Stays.seqSelectorFailed (h : Stays s t) : Stays s (seqSelectorFailed t) := by
  unfold Machine.seqSelectorFailed
  repeat' split
  all_goals simp (maxDischargeDepth := 40) [h]

@[simp] theorem Stays.seqCloseFailed (h : Stays s t) : Stays s (seqCloseFailed t) := by
  unfold Machine.seqCloseFailed
  simp (maxDischargeDepth := 40) [h]

@[simp] theorem Stays.seqRaiseTimeout (h : Stays s t) (p : Pan) : Stays s (seqRaiseTimeout p t) := by
  unfold Machine.seqRaiseTimeout
  repeat' split
  all_goals simp (maxDischargeDepth := 40) [h]

@[simp] theorem Stays.seqFault (h : Stays s t) (k : FaultKind) (p : Option Pan) : Stays s (seqFault k p t) := by
  unfold Machine.seqFault
  repeat' split
  all_goals simp (maxDischargeDepth := 40) [h]

@[simp] theorem Stays.seqReport (h : Stays s t) (r : Report) : Stays s (seqReport r t) := by
  unfold Machine.seqReport
  repeat' split
  all_goals simp (maxDischargeDepth := 40) [h]

/-! The ice monitor. -/

@[simp] theorem Stays.iceNotice (h : Stays s t) (x y : IceState) (r : SuspectResponse) : Stays s (iceNotice x y r t) := by
  unfold Machine.iceNotice
  repeat' split
  all_goals simp (maxDischargeDepth := 40) [h]

@[simp] theorem Stays.setIceState (h : Stays s t) (y : IceState) : Stays s (setIceState y t) := by
  unfold Machine.setIceState
  repeat' split
  all_goals simp (maxDischargeDepth := 40) [h]

@[simp] theorem Stays.setHeater (h : Stays s t) (p : Pan) (x : HeaterOut) : Stays s (setHeater p x t) := by
  unfold Machine.setHeater
  simp (maxDischargeDepth := 40) [h]

@[simp] theorem Stays.setProc (h : Stays s t) (x : Scrape) : Stays s (setProc x t) := by
  unfold Machine.setProc
  simp (maxDischargeDepth := 40) [h]

@[simp] theorem Stays.scrapeRaise (h : Stays s t) (p : Pan) : Stays s (scrapeRaise p t) := by
  unfold Machine.scrapeRaise
  have k := h.requestRaise p .scrape .ice
  generalize Machine.requestRaise p .scrape .ice t = r at k ⊢
  obtain ⟨u, a⟩ := r
  cases a <;> exact k.setProc _

@[simp] theorem Stays.scrapeDisconnect (h : Stays s t) (p : Pan) : Stays s (scrapeDisconnect p t) := by
  unfold Machine.scrapeDisconnect
  have k := h.requestDisc p .disconnected .ice
  generalize Machine.requestDisc p .disconnected .ice t = r at k ⊢
  obtain ⟨u, a⟩ := r
  cases a with
  | done => exact k.scrapeRaise _
  | busy | unavailable | taken => exact k.setProc _

@[simp] theorem Stays.scrapeStart (h : Stays s t) (p : Pan) : Stays s (scrapeStart p t) := by
  unfold Machine.scrapeStart
  repeat' split
  all_goals simp (maxDischargeDepth := 40) [h]

@[simp] theorem Stays.scrapeEvaluate (h : Stays s t) : Stays s (scrapeEvaluate t) := by
  unfold Machine.scrapeEvaluate
  repeat' split
  all_goals simp (maxDischargeDepth := 40) [h]

@[simp] theorem Stays.scrapeStop (h : Stays s t) : Stays s (scrapeStop t) := by
  have hlower : ∀ p, Stays s (match Machine.requestLower p .ice t with
      | (u, .busy) | (u, .unavailable) => Machine.setProc .idle u
      | (u, .done) | (u, .taken) => Machine.setProc (.lower p) u) := fun p => by
    have k := h.requestLower p .ice
    generalize Machine.requestLower p .ice t = r at k ⊢
    obtain ⟨u, a⟩ := r
    cases a <;> exact k.setProc _
  unfold Machine.scrapeStop
  cases t.ice.proc with
  | idle | lower p => exact h
  | disconnect p b => exact h.setProc _
  | raise p b => exact hlower p
  | on p => exact hlower p

@[simp] theorem Stays.iceOpEnded (h : Stays s t) (p : Pan) (op : Op) (out : OpOutcome) : Stays s (iceOpEnded p op out t) := by
  unfold Machine.iceOpEnded
  repeat' split
  all_goals simp (maxDischargeDepth := 40) [h]

@[simp] theorem Stays.iceFault (h : Stays s t) (k : FaultKind) (p : Pan) : Stays s (iceFault k p t) := by
  unfold Machine.iceFault
  repeat' split
  all_goals simp (maxDischargeDepth := 40) [h]

@[simp] theorem Stays.iceReport (h : Stays s t) (r : Report) : Stays s (iceReport r t) := by
  unfold Machine.iceReport
  repeat' split
  all_goals simp (maxDischargeDepth := 40) [h]

/-! The commands of the authority class (R171). -/

@[simp] theorem Stays.setTraction (h : Stays s t) : Stays s (setTraction t) := by
  unfold Machine.setTraction
  repeat' split
  all_goals simp (maxDischargeDepth := 40) [h]

@[simp] theorem Stays.resetDropped (h : Stays s t) (p : Pan) : Stays s (resetDropped p t) := by
  unfold Machine.resetDropped
  simp (maxDischargeDepth := 40) [h]

theorem Stays.closeRequest (h : Stays s t) (k : closeRequest t = some u) : Stays s u := by
  unfold Machine.closeRequest at k
  repeat' split at k
  all_goals cases k
  all_goals simp (maxDischargeDepth := 40) [h]

@[simp] theorem Stays.requestMove (h : Stays s t) (q : SelPos) (src : Source) : Stays s (requestMove q src t).1 := by
  unfold Machine.requestMove
  repeat' split
  all_goals simp (maxDischargeDepth := 40) [h]

@[simp] theorem Stays.takeIceMode (h : Stays s t) (e : Bool) (x : SuspectResponse) (c : ConfirmedResponse) (p : Bool) : Stays s (takeIceMode e x c p t) := by
  unfold Machine.takeIceMode
  dsimp only
  repeat' split
  all_goals simp (maxDischargeDepth := 40) [h]

/-- A command of the authority class changes no record of the authority (R171). -/
theorem runAuthority_auth (l : Link) (c : Cmd) (s : State) : (runAuthority l c s).1.auth = s.auth := by
  have r := Stays.refl s
  cases c
  case setFormation a b =>
    simp only [runAuthority, cmdSetFormation]
    split_ifs <;> rfl
  case raise p d =>
    simp only [runAuthority, cmdRaise]
    split
    · rfl
    · split
      · exact (r.requestRaise _ _ _).auth
      all_goals rfl
  case lower p =>
    simp only [runAuthority, cmdLower]
    split
    · rfl
    · split
      · exact (r.requestLower _ _).auth
      · rfl
  case discSet p q =>
    simp only [runAuthority, cmdDiscSet]
    split
    · rfl
    · split
      · exact (r.requestDisc _ _ _).auth
      all_goals rfl
  case addReset p =>
    simp only [runAuthority, cmdAddReset]
    split
    · rfl
    · split
      · rfl
      · split_ifs
        · rfl
        · rfl
        · exact (r.resetDropped _).auth
  case breakerClose =>
    simp only [runAuthority, cmdBreakerClose]
    split
    · rfl
    · split
      · rfl
      · next hclose =>
        have k := (r.closeRequest hclose).setTraction
        split
        · exact k.auth
        · exact (k.startLong _ _).auth
  case breakerOpen =>
    simp only [runAuthority, cmdBreakerOpen]
    split
    · rfl
    · split
      · exact r.clearTraction.openRequest.auth
      · exact r.clearTraction.openRequest.auth
      all_goals exact (r.clearTraction.startLong _ _).openRequest.auth
  case select q =>
    simp only [runAuthority, cmdSelect]
    split
    · rfl
    · split
      · rfl
      · next q _ =>
        have k := r.requestMove q (.authority l)
        generalize requestMove q (.authority l) s = x at k ⊢
        obtain ⟨u, a⟩ := x
        cases a
        · exact k.auth
        · exact k.auth
        · exact (k.startLong _ _).auth
  case iceMode e k c w =>
    simp only [runAuthority, cmdIceMode]
    split_ifs
    · rfl
    · rfl
    · split
      · exact (r.takeIceMode _ _ _ _).auth
      · rfl
  case heat p o =>
    simp only [runAuthority, cmdHeat]
    split
    · rfl
    · split
      · split_ifs <;> rfl
      all_goals rfl
  all_goals rfl

theorem Stays.watchIceState (h : Stays s t) (k : watchIceState t = some u) : Stays s u := by
  unfold Machine.watchIceState at k
  repeat' split at k
  all_goals cases k
  all_goals simp (maxDischargeDepth := 40) [h]

theorem Stays.watchDwell (h : Stays s t) (k : watchDwell t = some u) : Stays s u := by
  unfold Machine.watchDwell at k
  repeat' split at k
  all_goals cases k
  all_goals simp (maxDischargeDepth := 40) [h]

theorem Stays.watchProc (h : Stays s t) (k : watchProc t = some u) : Stays s u := by
  unfold Machine.watchProc at k
  repeat' split at k
  all_goals cases k
  all_goals simp (maxDischargeDepth := 40) [h]

theorem Stays.watchNoPan (h : Stays s t) (k : watchNoPan t = some u) : Stays s u := by
  unfold Machine.watchNoPan at k
  repeat' split at k
  all_goals cases k
  all_goals simp (maxDischargeDepth := 40) [h]

theorem Stays.watchScrape (h : Stays s t) (k : watchScrape t = some u) : Stays s u := by
  unfold Machine.watchScrape at k
  repeat' split at k
  all_goals cases k
  all_goals simp (maxDischargeDepth := 40) [h]

theorem Stays.watchHeater (h : Stays s t) (p : Pan) (k : watchHeater p t = some u) : Stays s u := by
  unfold Machine.watchHeater at k
  repeat' split at k
  all_goals cases k
  all_goals simp (maxDischargeDepth := 40) [h]

theorem stays_iceWatcher {w : State → Option State} (hw : w ∈ iceWatchers) (k : w t = some u) : Stays t u := by
  have r := Stays.refl t
  simp only [iceWatchers, Pan.all, List.map_cons, List.map_nil, List.cons_append, List.nil_append, List.mem_cons,
    List.not_mem_nil, or_false] at hw
  rcases hw with e | e | e | e | e | e | e | e | e <;> subst e
  · exact r.watchIceState k
  · exact r.watchDwell k
  · exact r.watchProc k
  · exact r.watchNoPan k
  · exact r.watchScrape k
  all_goals exact r.watchHeater _ k

/-- The reactions of ICE at a change of holder (R166, R168). -/
theorem Stays.iceLoop (h : Stays s t) (n : Nat) : Stays s (reactLoop iceWatchers n t) := by
  induction n generalizing t with
  | zero => exact h
  | succ n ih =>
    unfold Machine.reactLoop
    split
    · next v hv =>
      refine ih ?_
      unfold reactWith at hv
      split at hv
      · cases hv
        exact (((h.setReports _).iceReport _).seqReport _)
      · obtain ⟨w, hw, hu⟩ := firstAction_mem hv
        exact h.trans (stays_iceWatcher hw hu)
    · exact h

end Stays

end Sys2Proof.Machine

/-! ### Release, lapse and the change of holder (R163 to R167, R170) -/

namespace Sys2Proof.Machine

section Concludes

variable {s u : State} {l : Link} {tag : Byte} {i : Instr} {c : Cmd} {st : Status}

/-- A status of a command taken by its own rule: it takes effect at once or with a report to come, or it is refused. -/
def Concludes (st : Status) : Prop := (st = .ok ∨ st = .accepted) ∨ st.effective = false ∧ st ≠ .illegalSequence

theorem concludes_first {xs : List (Prop × Status)} (h : FirstUnmet xs (some st))
    (hall : ∀ x ∈ xs, x.2.effective = false ∧ x.2 ≠ .illegalSequence) : Concludes st := .inr (h.refuses hall)

theorem concludes_ok : Concludes .ok := .inl (.inl rfl)

theorem concludes_accepted : Concludes .accepted := .inl (.inr rfl)

theorem concludes_service (h : s.serviceRefusal = some st) : Concludes st :=
  concludes_first (h ▸ serviceRefusal_first s) (by simp [Status.effective, State.notPending, State.notSafe, State.notLocked])

theorem concludes_roof (h : s.roofRefusal = some st) : Concludes st :=
  concludes_first (h ▸ roofRefusal_first s) (by simp [Status.effective, State.notSafe, State.notLocked])

theorem concludes_raise (p : Pan) (d : Duty) (src : Source) (s : State) : Concludes (requestRaise p d src s).2.status := by
  have hfirst : ∀ st, s.raiseRefusal p d = some st → Concludes st := fun st h =>
    concludes_first (h ▸ raiseRefusal_first p d s) (by simp [State.raiseTable, Status.effective])
  have hother : Concludes .panBusy ∧ Concludes .panUnavailable := by simp [Concludes, Status.effective]
  unfold requestRaise
  split_ifs
  · exact hother.1
  · exact hother.2
  · unfold raiseRaised
    repeat' split
    all_goals first | exact concludes_ok | exact concludes_accepted
  · exact hother.2
  · exact concludes_accepted
  · split
    · next h => exact hfirst _ h
    · exact concludes_accepted

theorem concludes_lower (a : LowerAnswer) : Concludes a.status := by
  cases a <;> simp [Concludes, LowerAnswer.status, Status.effective]

theorem concludes_disc (a : DiscAnswer) : Concludes a.status := by
  cases a <;> simp [Concludes, DiscAnswer.status, Status.effective]

theorem concludes_runAuthority (l : Link) (c : Cmd) (s : State) : Concludes (runAuthority l c s).2 := by
  have refusals : Concludes .badOperand ∧ Concludes .roofSafe ∧ Concludes .entryLocked ∧ Concludes .interlock
      ∧ Concludes .panUnavailable ∧ Concludes .notQuiescent ∧ Concludes .notConfigured := by
    simp [Concludes, Status.effective]
  obtain ⟨hoperand, hsafe, hlocked, hinterlock, hpan, hquiet, hconfig⟩ := refusals
  cases c
  case setFormation a b =>
    simp only [runAuthority, cmdSetFormation]
    split_ifs
    exacts [hlocked, hoperand, concludes_ok]
  case raise p d =>
    simp only [runAuthority, cmdRaise]
    split
    · next h => exact concludes_service h
    · split
      · exact concludes_raise ..
      all_goals exact hoperand
  case lower p =>
    simp only [runAuthority, cmdLower]
    split
    · next h => exact concludes_roof h
    · split
      · exact concludes_lower _
      · exact hoperand
  case discSet p q =>
    simp only [runAuthority, cmdDiscSet]
    split
    · next h => exact concludes_roof h
    · split
      · exact concludes_disc _
      all_goals exact hoperand
  case addReset p =>
    simp only [runAuthority, cmdAddReset]
    split
    · exact hsafe
    · split
      · exact hoperand
      · split_ifs
        exacts [hpan, hquiet, concludes_ok]
  case breakerClose =>
    simp only [runAuthority, cmdBreakerClose]
    split
    · next h => exact concludes_service h
    · split
      · exact hinterlock
      · split
        · exact concludes_ok
        · exact concludes_accepted
  case breakerOpen =>
    simp only [runAuthority, cmdBreakerOpen]
    split
    · next h => exact concludes_roof h
    · split
      · exact concludes_ok
      · exact concludes_ok
      all_goals exact concludes_accepted
  case select q =>
    simp only [runAuthority, cmdSelect]
    split
    · next h => exact concludes_service h
    · split
      · exact hoperand
      · split
        exacts [hinterlock, concludes_ok, concludes_accepted]
  case iceMode e k c w =>
    simp only [runAuthority, cmdIceMode]
    split_ifs
    · exact hconfig
    · exact hsafe
    · split
      · exact concludes_ok
      · exact hoperand
  case heat p o =>
    simp only [runAuthority, cmdHeat]
    split
    · exact hsafe
    · split
      · split_ifs
        exacts [hpan, concludes_ok]
      all_goals exact hoperand
  all_goals exact hoperand

/-- A command row of the holder is its own rule, with the reactions where it takes effect (R170, R171). -/
theorem exec_authority_concludes (hoff : i.offered = some (l, tag, c)) (hcls : isAuthority c = true) (hcmd : s.commands l)
    (hrun : runAuthority l c (superviseFrame l s) = (u, st)) :
    exec i s = .next (if st = .ok ∨ st = .accepted then settle (u.answered l tag c.code st [])
      else u.answered l tag c.code st []) := by
  have hconcl := concludes_runAuthority l c (superviseFrame l s)
  rw [hrun] at hconcl
  rcases hconcl with heff | ⟨heff, hst⟩
  · rw [if_pos heff]
    exact exec_authority_acts hoff hcls hcmd hrun (by rcases heff with rfl | rfl <;> rfl)
  · have hother : ¬ (st = .ok ∨ st = .accepted) := by rintro (rfl | rfl) <;> cases heff
    rw [if_neg hother]
    rcases actsOrStands_runAuthority l c (superviseFrame l s) with k | k
    · rw [hrun, heff] at k
      cases k
    · rw [hrun] at k
      dsimp only at k
      subst k
      exact exec_authority_refused hoff hcls hcmd hrun heff hst

end Concludes

section Change

variable {s : State} {l : Link} {tag : Byte}

theorem changePends_iff (s : State) : s.auth.changePends = true
    ↔ s.auth.owed ≠ none ∨ s.auth.holder = none ∧ s.auth.requester ≠ none := by
  unfold Authority.changePends
  cases s.auth.owed <;> cases s.auth.holder <;> cases s.auth.requester <;> simp

theorem deferred_iff (s : State) (new : Option Link) : s.deferred new = false
    ↔ (∀ e ∈ s.map.entries, e.state ≠ .active) ∧ ∀ k, new = some k → s.endChanges k = true → s.trv.speed = 0 := by
  have hactive : s.entryActive = false ↔ ∀ e ∈ s.map.entries, e.state ≠ .active := by
    rw [← Bool.not_eq_true, entryActive_iff, not_not]
  unfold State.deferred
  rw [Bool.or_eq_false_iff, hactive]
  refine and_congr_right fun _ => ?_
  cases new with
  | none => simp
  | some k => simp [State.standstill]

theorem changeDue_iff (s : State) : s.changeDue = true
    ↔ (s.auth.owed ≠ none ∨ s.auth.holder = none ∧ s.auth.requester ≠ none) ∧ (∀ e ∈ s.map.entries, e.state ≠ .active)
      ∧ ∀ k, s.auth.requester = some k → s.endChanges k = true → s.trv.speed = 0 := by
  unfold State.changeDue
  rw [Bool.and_eq_true, changePends_iff, Bool.not_eq_true', deferred_iff]

/-- The record behind a change of holder made by the reactions (R166, R168). -/
def State.authChanged (s : State) : Authority :=
  { s.auth with
    holder := s.auth.requester, requester := none, owed := none
    supervision := s.auth.requester.map fun _ => ⟨s.clk.time, s.cfg.items.authSupervision⟩
    lastChange := some ⟨s.clk.time, match s.auth.holder, s.auth.owed with
      | some _, some c => .owed c
      | some _, none | none, _ => .grantFree, s.auth.holder, s.auth.requester⟩
    leading := match s.auth.requester with
      | some .a => .endA
      | some .b => .endB
      | some .m | none => s.auth.leading }

/-- A change of holder: the record with AUTH, and the map and TRV where it changes the leading end (R166, R168). -/
theorem makeChange_record (s : State) : (makeChange s.auth.changeCause s).auth = s.authChanged
    ∧ (makeChange s.auth.changeCause s).Noticed .auth
    ∧ ∀ k, s.auth.requester = some k → s.endChanges k = true →
        (makeChange s.auth.changeCause s).map.entries = [] ∧ (makeChange s.auth.changeCause s).Noticed .map
        ∧ (makeChange s.auth.changeCause s).trv
          = { s.trv with revRun := 0, fwdRun := 0, direction := .normal, offsets := s.offsetsFor k } := by
  cases hreq : s.auth.requester with
  | none =>
    have hmake : makeChange s.auth.changeCause s
        = changeAuth (·.change s.auth.changeCause s.now s.cfg.items.authSupervision) s := by
      unfold makeChange
      rw [hreq]
    have heq := hmake.trans (notice_eq ..)
    rw [heq]
    refine ⟨?_, noticed_of_raised (cs := [.auth]) rfl (.head _), fun k h => nomatch h⟩
    change s.auth.change s.auth.changeCause s.now s.cfg.items.authSupervision = s.authChanged
    simp only [State.authChanged, Authority.change, hreq]
    rfl
  | some l =>
    obtain ⟨stop, heff⟩ := makeChange_grants hreq s.auth.changeCause
    refine ⟨heff.auth.trans ?_, noticed_of_raised heff.lnk (.head _), fun k hk hend => ?_⟩
    · simp only [State.authChanged, Authority.change, hreq]
      cases l <;> rfl
    · cases hk
      obtain ⟨hentries, -, htrv⟩ := heff.turned hend
      refine ⟨hentries, noticed_of_raised heff.lnk ?_, htrv⟩
      rw [hend]
      exact .tail _ (.head _)

/-- A change of holder that is due, with ICE's reactions to it, before the parked command (R166, R170). -/
theorem watchAuthority_changes (hdue : s.changeDue = true) : ∃ v, watchAuthority s = some (runParked v) ∧ v.Noticed .auth
    ∧ v.still = s.still ∧ v.auth = s.authChanged
    ∧ ∀ k, s.auth.requester = some k → s.endChanges k = true →
        v.map.entries = [] ∧ v.Noticed .map
        ∧ v.trv = { s.trv with revRun := 0, fwdRun := 0, direction := .normal, offsets := s.offsetsFor k } := by
  obtain ⟨hauth, hnoticed, hturned⟩ := makeChange_record s
  have hstays := (Stays.refl (makeChange s.auth.changeCause s)).iceLoop reactBound
  have hkept := iceWatchers_keep.reactLoop ((Kept.refl s).makeChange s.auth.changeCause) reactBound
  refine ⟨_, if_pos hdue, hstays.notices _ hnoticed, hkept.still, hstays.auth.trans hauth, fun k hk hend => ?_⟩
  obtain ⟨hentries, hmap, htrv⟩ := hturned k hk hend
  exact ⟨hstays.map hentries, hstays.notices _ hmap, hstays.trv.trans htrv⟩

/-- A parked command taken as from the new holder (R170). -/
theorem runParked_takes {c : Parked} {k : Link} (hp : s.auth.parked = some c) (hk : s.auth.holder = some k) :
    runParked s = changeAuth (fun a =>
        { a with parkedResult := some ⟨k, c.cmd.code, c.tag,
          .status (runAuthority k c.cmd { s with auth := { s.auth with parked := none } }).2⟩ })
      (runAuthority k c.cmd { s with auth := { s.auth with parked := none } }).1 := by
  unfold runParked
  rw [hp, hk]
  rfl

/-- AUTH_RELEASE by what the link is to the authority (R163). -/
theorem exec_authRelease {u : State} (hfree : s.free l) (hrun : authRelease l (superviseFrame l s) = (u, .ok)) :
    exec (.authRelease l tag) s = .next (settle (u.answered l tag 0x25 .ok [])) := by
  have hrun' : runCmd l tag .authRelease (superviseFrame l s) = (u, some (.ok, [])) := by
    change bare (authRelease l _) = _
    rw [hrun]
    rfl
  have hexec := exec_roof_acts (i := .authRelease l tag) rfl rfl hfree hrun' rfl
  exact hexec

theorem oweChange_eq (cause : OwedCause) (s : State) : oweChange cause s = { s with
    auth := { s.auth with owed := some cause, supervision := none }, lnk := raiseAll [.auth] s.lnk } := notice_eq ..

/-- Settles O36: a change due by its record, the parked command by its own rule, a release by the link's part in the record. -/
theorem releaseAndLapseOweAChange : Obligations.ReleaseAndLapseOweAChange := by
  refine ⟨fun s => ⟨fun hno => ?_, fun hpends hactive hstill => ?_, endChanges_iff s, fun hnone => ?_, fun c k hp hk => ?_,
    fun i k tag c hoff hcls hcmd => ⟨_, _, rfl, exec_authority_concludes hoff hcls hcmd rfl⟩⟩, fun l tag s hfree =>
    ⟨fun hheld howed => ?owes, fun hheld howed => ?stands, fun hother hreq => ?withdraws, fun hother hreq => ?denied,
      fun hlapse => ?lapses⟩⟩
  · exact if_neg fun h => hno ((changeDue_iff s).1 h)
  · obtain ⟨v, hwatch, hnoticed, hstill', hauth, hturned⟩ := watchAuthority_changes ((changeDue_iff s).2 ⟨hpends, hactive, hstill⟩)
    refine ⟨v, hwatch, hnoticed, hstill', hauth, fun k hk hend => ?_⟩
    obtain ⟨hentries, hmap, htrv⟩ := hturned k hk hend
    rw [htrv]
    exact ⟨hentries, rfl, rfl, rfl, hmap, offsetsFor_get hend⟩
  · unfold runParked
    rcases hnone with h | h
    · rw [h]
    · rw [h]
      cases s.auth.parked <;> rfl
  · have hauth := runAuthority_auth k c.cmd { s with auth := { s.auth with parked := none } }
    have htakes := runParked_takes hp hk
    generalize runAuthority k c.cmd { s with auth := { s.auth with parked := none } } = r at hauth htakes
    obtain ⟨w, st⟩ := r
    rw [changeAuth, notice_eq] at htakes
    rw [htakes]
    exact ⟨w, st, rfl, rfl, by rw [hauth], noticed_of_raised (cs := [.auth]) rfl (.head _), rfl⟩
  case owes =>
    obtain ⟨x, hx⟩ := superviseFrame_eq l s
    have hrun : authRelease l (superviseFrame l s) = ({ s with
        auth := { s.auth with owed := some .release, supervision := none }, lnk := raiseAll [.auth] s.lnk }, .ok) := by
      rw [hx]
      unfold authRelease
      dsimp only
      rw [if_pos hheld, if_pos howed, oweChange_eq]
    have hexec := exec_authRelease (tag := tag) hfree hrun
    exact ⟨_, hexec, answers_of_lnk rfl, rfl, rfl⟩
  case stands =>
    obtain ⟨x, hx⟩ := superviseFrame_eq l s
    have hrun : authRelease l (superviseFrame l s) = (superviseFrame l s, .ok) := by
      rw [hx]
      unfold authRelease
      dsimp only
      rw [if_pos hheld, if_neg howed]
    exact exec_authRelease hfree hrun
  case withdraws =>
    have hrun : authRelease l (superviseFrame l s) = ({ s with
        auth := s.authWithdrawn l, lnk := raiseAll [.auth] s.lnk }, .ok) := by
      rw [superviseFrame_of_other hother]
      unfold authRelease
      dsimp only
      rw [if_neg hother, if_pos hreq, withdraw_eq, changeAuth, notice_eq]
      rfl
    have hexec := exec_authRelease (tag := tag) hfree hrun
    have hreset : s.authReset l = s.authWithdrawn l := if_pos hreq
    obtain ⟨hcases, -⟩ := authReset_cases l s
    obtain ⟨hreq', hparked, hleading, hdiscards, hkeeps, hstands, hchanges⟩ := hcases hreq
    rw [hreset] at hreq' hparked hleading hdiscards hkeeps hstands hchanges
    have hdefer : s.deferred none = s.entryActive := Bool.or_false _
    rw [hdefer]
    exact ⟨_, hexec, answers_of_lnk rfl, hreq', hparked, hleading, hstands, hchanges, hdiscards, hkeeps, rfl⟩
  case denied =>
    have hrun : runCmd l tag .authRelease (superviseFrame l s) = (superviseFrame l s, some (.authNotHeld, [])) := by
      rw [superviseFrame_of_other hother]
      change bare (authRelease l s) = _
      unfold authRelease
      dsimp only
      rw [if_neg hother, if_neg hreq]
      rfl
    have hexec := exec_roof_refused (x := .authRelease) (r := .authRelease l tag) (st := .authNotHeld) rfl rfl hfree hrun rfl
      (fun h => nomatch h)
    rwa [superviseFrame_of_other hother] at hexec
  case lapses =>
    have hexec : exec .supervisionLapse s = .next (settle (oweChange .lapse s)) := atLimit_due hlapse _ _
    rw [oweChange_eq] at hexec
    exact ⟨_, hexec, rfl, raises_of_lnk rfl, rfl⟩

end Change

end Sys2Proof.Machine

/-! ### The lengths of results (R176, R183) -/

namespace Sys2Proof.Machine

section Lengths

variable {s : State} {l : Link} {p : Pan} {e : Entry} {i : Nat}

@[simp] theorem length_u8 (n : Nat) : (u8 n).length = 1 := be_length ..

@[simp] theorem length_be (k n : Nat) : (be k n).length = k := be_length ..

@[simp] theorem length_sbe (k : Nat) (x : Int) : (sbe k x).length = k := be_length ..

@[simp] theorem length_timeBytes (t : Time) : (timeBytes t).length = 4 := be_length ..

@[simp] theorem length_optBe (k : Nat) (x : Option Nat) : (optBe k x).length = k + 1 := by
  cases x <;> simp [optBe, Nat.add_comm]

@[simp] theorem length_optSbe (k : Nat) (x : Option Int) : (optSbe k x).length = k + 1 := by
  cases x <;> simp [optSbe, Nat.add_comm]

/-- A record of the announced length takes a byte more. -/
theorem length_optRecord {α : Type} {k : Nat} {f : α → List Byte} (hf : ∀ x, (f x).length = k) (o : Option α) :
    (optRecord k (o.map f)).length = k + 1 := by
  cases o <;> simp [optRecord, hf, Nat.add_comm]

@[simp] theorem length_sourceBytes (x : Option Source) : (sourceBytes x).length = 2 := by
  unfold sourceBytes
  split <;> simp

@[simp] theorem length_opBytes (x : Option Op) : (opBytes x).length = 2 := by
  unfold opBytes
  split <;> simp

@[simp] theorem length_outcomeBytes (x : OpOutcome) : (outcomeBytes x).length = 2 := by
  unfold outcomeBytes
  split <;> simp

@[simp] theorem length_causesBytes (w : BitVec 16) : (causesBytes w).length = 2 := rfl

@[simp] theorem length_discBytes (d : Disc) : (discBytes d).length = 2 := by
  unfold discBytes
  split <;> simp

@[simp] theorem length_selectorBytes (x : Selector) : (selectorBytes x).length = 3 := by
  unfold selectorBytes
  split <;> simp

@[simp] theorem length_sectionBytes (x : Section) : (sectionBytes x).length = 3 := by
  unfold sectionBytes
  split <;> simp

@[simp] theorem length_cursorBytes (x : Cursor) : (cursorBytes x).length = 5 := by
  unfold cursorBytes
  split <;> simp

/-! The results of the queries. -/

theorem length_travelResult (s : State) : s.travelResult.length = 33 := by simp [State.travelResult]

theorem length_lastWindowBytes (w : Option WindowRecord) : (lastWindowBytes w).length = 15 := by
  cases w <;> simp [lastWindowBytes]

theorem length_lineResult (s : State) : s.lineResult.length = 32 := by
  simp [State.lineResult, length_lastWindowBytes]

theorem length_panResult (s : State) (p : Pan) : (s.panResult p).length = 28 := by
  have hlast := length_optRecord (k := 6) (f := panResultBytes) (by simp [panResultBytes]) (s.ch p).lastResult
  simp [State.panResult, hlast]

theorem length_forceResult (s : State) (p : Pan) : (s.forceResult p).length = 14 := by simp [State.forceResult]

theorem length_tableResult (s : State) (c : PClass) (i : Nat) : (s.tableResult c i).length = 5 := by simp [State.tableResult]

theorem length_breakerResult (s : State) : s.breakerResult.length = 28 := by
  have hbreaker := length_optRecord (k := 3) (f := fun r : BreakerResult =>
    u8 (Link.num r.link) ++ [if r.close then Cmd.breakerClose.code else Cmd.breakerOpen.code] ++ u8 (pairNum r.done))
    (by simp) s.bsc.breakerResult
  have hselector := length_optRecord (k := 3) (f := fun r : SelectorResult => sourceBytes (some r.source) ++ u8 (pairNum r.done))
    (by simp) s.bsc.selectorResult
  simp only [State.breakerResult, List.length_append, hbreaker, hselector, length_u8, length_be, length_optBe,
    length_selectorBytes]

theorem length_entryResult (s : State) (i : Nat) (e : Entry) : (s.entryResult i e).length = 22 := by simp [State.entryResult]

theorem length_mapResult (s : State) : s.mapResult.length = 27 := by
  have hlast := length_optRecord (k := 11) (f := fun r : Removal =>
    be 2 r.id ++ u8 r.sect.num ++ u8 r.reason.num ++ timeBytes r.time ++ be 3 r.front) (by simp) s.map.lastRemoval
  simp only [State.mapResult, List.length_append, hlast, length_u8, length_be, length_optBe, length_optSbe]

theorem length_ctxBytes (s : State) : s.ctxBytes.length = 23 := by
  unfold State.ctxBytes
  split
  · next c _ =>
    have hfail := length_optRecord (k := 3) (f := failureBytes) (by simp [failureBytes])
      (if c.stage = .recovering then c.failure else none)
    simp [hfail]
  · simp

theorem length_seqResult (s : State) : s.seqResult.length = 39 := by
  have hlast := length_optRecord (k := 14) (f := lastSeqBytes) (by simp [lastSeqBytes]) s.seq.last
  simp [State.seqResult, hlast, length_ctxBytes]

theorem length_heaterBytes (s : State) (p : Pan) : (s.heaterBytes p).length = 5 := by
  unfold State.heaterBytes
  dsimp only
  split <;> simp

theorem length_iceResult (s : State) : s.iceResult.length = 56 := by
  unfold State.iceResult u8
  dsimp only
  simp only [List.length_append, length_be, length_optSbe, length_heaterBytes]

theorem length_authResult (s : State) (l : Link) : (s.authResult l).length = 27 := by
  have hparked := length_optRecord (k := 2) (f := fun p : Parked => [p.cmd.code, p.tag]) (fun _ => rfl) s.auth.parked
  have hlast := length_optRecord (k := 7) (f := fun c : LastChange =>
    timeBytes c.time ++ u8 c.cause.num ++ u8 (numOr0 Link.num c.before) ++ u8 (numOr0 Link.num c.after)) (by simp)
    s.auth.lastChange
  have hresult := length_optRecord (k := 4) (f := fun r : ParkedResult =>
    u8 (Link.num r.link) ++ [r.code, r.tag] ++ u8 r.outcome.num) (by simp) s.auth.parkedResult
  have hsup : s.supervisionBytes.length = 4 := by
    unfold State.supervisionBytes
    split <;> simp
  simp only [State.authResult, List.length_append, hparked, hlast, hresult, hsup, length_u8]

theorem length_linkResult (s : State) (l : Link) : (s.linkResult l).length = 11 := by
  have hsync : s.syncBytes.length = 2 := by
    unfold State.syncBytes
    split <;> simp
  simp [State.linkResult, hsync]

theorem length_configResult (s : State) (item index value : Nat) : (s.configResult item index value).length = 11 := by
  have hreport := length_optRecord (k := 2) (f := reportBytes)
    (fun r => by unfold reportBytes; split <;> simp) s.cfg.report
  simp [State.configResult, hreport]

theorem length_noticeResult (s : State) (l : Link) : (s.noticeResult l).length = 5 := by simp [State.noticeResult]

theorem length_faultResult (s : State) : s.faultResult.length = 19 := by
  have hrecord := length_optRecord (k := 18) (f := fun r : FaultRecord =>
    u8 r.kind.num ++ u8 (numOr0 Pan.num r.pan) ++ optBe 2 r.entry ++ be 3 r.front ++ be 3 r.speed ++ u8 r.detected.num
      ++ u8 r.breaker.num ++ u8 (numOr0 Link.num r.holder) ++ timeBytes r.time) (by simp) s.fault
  simp only [State.faultResult, hrecord]

end Lengths

section Answers

variable {s u : State} {l : Link} {st : Status}

/-- An answer fits a response frame (R176). -/
def Fits (r : State × Answer) : Prop := ∀ st bytes, r.2 = some (st, bytes) → bytes.length ≤ 57

theorem fits_bytes {bytes : List Byte} (h : bytes.length ≤ 57) : Fits (u, some (st, bytes)) := by
  rintro _ _ ⟨⟩
  exact h

theorem fits_empty : Fits (u, some (st, [])) := fits_bytes (Nat.zero_le _)

theorem fits_none : Fits (u, none) := fun _ _ h => nomatch h

/-- A result of a known length fits. -/
theorem fits_of_length {bytes : List Byte} {n : Nat} (h : bytes.length = n) (hn : n ≤ 57) : Fits (query u bytes) :=
  fits_bytes (h.trans_le hn)

theorem fits_mapReadNext (l : Link) (s : State) : Fits (cmdMapReadNext l s) := by
  unfold cmdMapReadNext
  split
  · split
    · exact fits_empty
    · split
      · exact fits_empty
      · split
        · exact fits_of_length (length_entryResult ..) (by decide)
        · exact fits_empty
  all_goals exact fits_empty

theorem fits_tableReadNext (l : Link) (s : State) : Fits (cmdForceTableReadNext l s) := by
  unfold cmdForceTableReadNext
  split
  · split_ifs
    · exact fits_empty
    · exact fits_empty
    · exact fits_of_length (length_tableResult ..) (by decide)
  all_goals exact fits_empty

theorem fits_runCmd (l : Link) (tag : Byte) (c : Cmd) (s : State) : Fits (runCmd l tag c s) := by
  have hauthority : ∀ c, Fits (takeAuthority l tag c s) := fun c => by
    unfold takeAuthority
    split_ifs <;> exact fits_empty
  have hM : ∀ r : State × Status, Fits (fromM l r s) := fun r => by
    unfold fromM
    split_ifs <;> exact fits_empty
  cases c
  case setFormation | raise | lower | discSet | addReset | breakerClose | breakerOpen | select | iceMode | heat =>
    exact hauthority _
  case configWrite | configCommit | configReopen => exact hM _
  case nop | authRequest | authRelease | noticeClear | noticeEnable | unknown | badLength => exact fits_empty
  case travelRead => exact fits_of_length (length_travelResult s) (by decide)
  case lineRead => exact fits_of_length (length_lineResult s) (by decide)
  case breakerRead => exact fits_of_length (length_breakerResult s) (by decide)
  case mapStatus => exact fits_of_length (length_mapResult s) (by decide)
  case seqRead => exact fits_of_length (length_seqResult s) (by decide)
  case iceRead => exact fits_of_length (length_iceResult s) (by decide)
  case authRead => exact fits_of_length (length_authResult s l) (by decide)
  case noticeRead => exact fits_of_length (length_noticeResult s l) (by decide)
  case faultRead => exact fits_of_length (length_faultResult s) (by decide)
  case linkStatus => exact fits_bytes ((length_linkResult s l).trans_le (by decide))
  case mapReadNext => exact fits_mapReadNext l s
  case forceTableReadNext => exact fits_tableReadNext l s
  case mapRead i =>
    simp only [runCmd, cmdMapRead]
    split
    · exact fits_empty
    · split
      · exact fits_of_length (length_entryResult ..) (by decide)
      · exact fits_empty
  case forceTableRead k i =>
    simp only [runCmd, cmdForceTableRead]
    split
    · split
      · exact fits_of_length (length_tableResult ..) (by decide)
      · exact fits_empty
    · exact fits_empty
  case panRead p =>
    simp only [runCmd, cmdPanRead]
    split
    · exact fits_of_length (length_panResult ..) (by decide)
    · exact fits_empty
  case forceRead p =>
    simp only [runCmd, cmdForceRead]
    split
    · exact fits_of_length (length_forceResult ..) (by decide)
    · exact fits_empty
  case configRead i x =>
    simp only [runCmd, cmdConfigRead]
    split
    · exact fits_of_length (length_configResult ..) (by decide)
    · split
      · exact fits_of_length (length_configResult ..) (by decide)
      · exact fits_empty
  case mapInsert k p n y w lim =>
    simp only [runCmd, cmdMapInsert]
    split
    · exact fits_empty
    · split
      · exact fits_empty
      · split
        · exact fits_empty
        · exact fits_of_length (length_be 2 _) (by decide)
  case sync =>
    simp only [runCmd, cmdSync]
    split
    · exact fits_empty
    · exact fits_empty
    · exact fits_none
  case positionFix m =>
    simp only [runCmd, cmdPositionFix]
    split_ifs <;> exact fits_empty
  case isolate p =>
    simp only [runCmd, cmdIsolate]
    repeat' split
    all_goals exact fits_empty
  case restore p =>
    simp only [runCmd, cmdRestore]
    repeat' split
    all_goals exact fits_empty
  case forceTableWrite k i f =>
    simp only [runCmd, cmdForceTableWrite]
    repeat' split
    all_goals exact fits_empty
  case forceTableWriteNext f =>
    simp only [runCmd, cmdForceTableWriteNext]
    repeat' split
    all_goals exact fits_empty
  case earthPermit o =>
    simp only [runCmd, cmdEarthPermit]
    repeat' split
    all_goals exact fits_empty
  case mapDelete i =>
    simp only [runCmd, cmdMapDelete]
    repeat' split
    all_goals exact fits_empty
  case roofReset =>
    simp only [runCmd, cmdRoofReset]
    split_ifs <;> exact fits_empty
  case iceWeather o =>
    simp only [runCmd, cmdIceWeather]
    repeat' split
    all_goals exact fits_empty
  case lowerAll =>
    simp only [runCmd, cmdLowerAll]
    split <;> exact fits_empty
  case faultClear =>
    simp only [runCmd, cmdFaultClear]
    split <;> exact fits_empty

/-- Settles O15. -/
theorem resultsFitTheFrame : Obligations.ResultsFitTheFrame := by
  intro l tag c s u st bytes hrun
  exact fits_runCmd l tag c s st bytes (congrArg Prod.snd hrun)

end Answers

end Sys2Proof.Machine

/-! ### The events of a pantograph (R40 to R49, R106, R107) -/

namespace Sys2Proof.Machine

section Faults

variable {s : State} {k : FaultKind} {p : Option Pan} {e : Option Nat}

/-- The capture record behind a fault (R200). -/
def State.captured (s : State) (k : FaultKind) (p : Option Pan) (e : Option Nat) : Option FaultRecord :=
  match s.fault with
  | some r => some r
  | none => some
      { kind := k, pan := p, entry := e, front := s.trv.front / 1000, speed := s.trv.speed,
        detected := s.ldet.detected, breaker := s.bsc.breaker, holder := s.auth.holder, time := s.clk.time }

/-- What a fault does (R131, R198, R200). -/
theorem reportFault_eq (k : FaultKind) (p : Option Pan) (e : Option Nat) (s : State) : reportFault k p e s = { s with
    fault := s.captured k p e, lnk := raiseAll [.fault] s.lnk, reports := s.reports ++ [.fault k p] } := by
  unfold reportFault
  dsimp only
  rw [notice_eq]
  rfl

/-- A fault fills an empty capture record (R200). -/
theorem captured_of_none (h : s.fault = none) : s.captured k p e = some
    { kind := k, pan := p, entry := e, front := s.trv.front / 1000, speed := s.trv.speed,
      detected := s.ldet.detected, breaker := s.bsc.breaker, holder := s.auth.holder, time := s.clk.time } := by
  unfold State.captured
  rw [h]

end Faults

section Inputs

variable {s : State} {p : Pan}

/-- The lower limit takes its pantograph to LOWERED (R45). -/
theorem reachLowered_form (p : Pan) (s : State) : ∃ c longOps reports, reachLowered p s = { s with
    pch := s.pch.set p c, ice := { s.ice with arcs := s.ice.arcs.set p .empty }
    lnk := raiseAll [.pan] s.lnk, iceEval := true, longOps := longOps, reports := reports }
    ∧ c.state = .lowered ∧ c.role = none := by
  by_cases hj : ∃ src, (s.ch p).job = some ⟨src, .lower⟩
  · obtain ⟨src, hj⟩ := hj
    have hpan : raiseAll ([.pan] ++ [.pan]) s.lnk = raiseAll [.pan] s.lnk := raiseAll_congr (by decide) _
    have heq := reachLowered_of_lower hj
    rw [hpan] at heq
    exact ⟨_, _, _, heq, rfl, rfl⟩
  · exact ⟨_, s.longOps, s.reports, reachLowered_of_other fun src h => hj ⟨src, h⟩, rfl, rfl⟩

/-- An entry into LOWERING, whatever operation is in place (R45, R75). -/
theorem enterLowering_form (p : Pan) (s : State) : ∃ c arcs longOps reports, enterLowering p s = { s with
    pch := s.pch.set p c, freg := s.freg.set p (s.freg.get p).stopped, ice := { s.ice with arcs := arcs }
    lnk := raiseAll [.pan] s.lnk, iceEval := true, longOps := longOps, reports := reports }
    ∧ c.state = (if s.lines.lowered.get p then .lowered else .lowering)
    ∧ (s.lines.lowered.get p = false → c = s.lowering (s.ch p))
    ∧ ((s.ch p).job = none → c.job = none ∧ c.lastResult = (s.ch p).lastResult) := by
  cases hdown : s.lines.lowered.get p with
  | false =>
    refine ⟨_, s.ice.arcs, _, s.reports, (enterLowering_up hdown).trans rfl, rfl, fun _ => rfl, fun hj => ⟨hj, rfl⟩⟩
  | true =>
    obtain ⟨c, longOps, reports, hreach, hstate, hrole⟩ := reachLowered_form p (s.goesDown p)
    have hpan : raiseAll ([.pan] ++ [.pan]) s.lnk = raiseAll [.pan] s.lnk := raiseAll_congr (by decide) _
    have heq : enterLowering p s = { s with
        pch := s.pch.set p c, freg := s.freg.set p (s.freg.get p).stopped
        ice := { s.ice with arcs := s.ice.arcs.set p .empty }
        lnk := raiseAll [.pan] s.lnk, iceEval := true, longOps := longOps, reports := reports } := by
      rw [enterLowering_eq, if_pos hdown, hreach, ← hpan]
      simp only [State.goesDown, PerPan.set_set, raiseAll_raiseAll]
    refine ⟨c, _, longOps, reports, heq, hstate, (fun h => nomatch h), fun hj => ?_⟩
    obtain ⟨arcs, hfree⟩ := enterLowering_free (p := p) hj
    rw [heq, if_pos hdown] at hfree
    have hc := congrArg (fun t => (State.pch t).get p) hfree
    simp only [PerPan.get_set_same] at hc
    rw [hc]
    exact ⟨hj, rfl⟩

/-- The contact-sense input on its own channel (R40, R43, R44). -/
def State.contacted (s : State) (p : Pan) (on : Bool) : Channel :=
  match (s.ch p).state, on with
  | .raising, true => { s.ch p with state := .settling }
  | .settling, false => { s.ch p with state := .raising, settle := none }
  | .raised, false => { s.ch p with loss := (s.ch p).loss.orElse fun _ => some s.clk.time }
  | .raised, true => { s.ch p with loss := none }
  | _, _ => s.ch p

theorem contactSense_eq (p : Pan) (s : State) : ∃ eval, contactSense p s = { s with
    pch := s.pch.set p (s.contacted p (s.lines.contact.get p))
    lnk := raiseAll (if (s.contacted p (s.lines.contact.get p)).state = (s.ch p).state then [] else [.pan]) s.lnk
    iceEval := eval } := by
  have hstays : ∀ c, s.contacted p (s.lines.contact.get p) = c → c.state = (s.ch p).state →
      contactSense p s = s.modPan p (fun _ => c) → contactSense p s = { s with
        pch := s.pch.set p (s.contacted p (s.lines.contact.get p))
        lnk := raiseAll (if (s.contacted p (s.lines.contact.get p)).state = (s.ch p).state then [] else [.pan]) s.lnk } :=
    fun c hc hstate heq => by
      rw [hc, if_pos hstate, raiseAll_nil]
      exact heq
  have hstands : s.contacted p (s.lines.contact.get p) = s.ch p → contactSense p s = s → contactSense p s = { s with
      pch := s.pch.set p (s.contacted p (s.lines.contact.get p))
      lnk := raiseAll (if (s.contacted p (s.lines.contact.get p)).state = (s.ch p).state then [] else [.pan]) s.lnk } :=
    fun hc heq => by
      have hset : s.pch.set p (s.ch p) = s.pch := PerPan.set_get ..
      rw [hc, if_pos rfl, raiseAll_nil, hset, heq]
  have hcases : ∀ st on, (s.ch p).state = st → s.lines.contact.get p = on → ∃ eval, contactSense p s = { s with
      pch := s.pch.set p (s.contacted p (s.lines.contact.get p))
      lnk := raiseAll (if (s.contacted p (s.lines.contact.get p)).state = (s.ch p).state then [] else [.pan]) s.lnk
      iceEval := eval } := by
    intro st on hst hon
    cases st <;> cases on
    case raising.true =>
      have hc : s.contacted p (s.lines.contact.get p) = { s.ch p with state := .settling } := by
        unfold State.contacted; rw [hst, hon]
      rw [hc, if_neg (by rw [hst]; exact fun h => nomatch h)]
      exact ⟨true, by unfold contactSense; rw [hst, hon]; exact movePan_eq ..⟩
    case settling.false =>
      have hc : s.contacted p (s.lines.contact.get p) = { s.ch p with state := .raising, settle := none } := by
        unfold State.contacted; rw [hst, hon]
      rw [hc, if_neg (by rw [hst]; exact fun h => nomatch h)]
      exact ⟨true, by unfold contactSense; rw [hst, hon]; exact movePan_eq ..⟩
    case raised.false =>
      exact ⟨s.iceEval, hstays { s.ch p with loss := (s.ch p).loss.orElse fun _ => some s.clk.time } (by unfold State.contacted; rw [hst, hon]) rfl
        (by unfold contactSense; rw [hst, hon]; rfl)⟩
    case raised.true =>
      exact ⟨s.iceEval, hstays { s.ch p with loss := none } (by unfold State.contacted; rw [hst, hon]) rfl
        (by unfold contactSense; rw [hst, hon]; rfl)⟩
    all_goals
      exact ⟨s.iceEval, hstands (by unfold State.contacted; rw [hst, hon]) (by unfold contactSense; rw [hst, hon])⟩
  exact hcases _ _ rfl rfl

/-- The lowered-limit input has acted on its channel (R44, R45). -/
def LimitTaken (s u : State) (p : Pan) : Prop := ∃ c freg arcs longOps reports eval, u = { s with
  pch := s.pch.set p c, freg := s.freg.set p freg, ice := { s.ice with arcs := arcs }
  lnk := raiseAll (if c.state = (s.ch p).state then [] else [.pan]) s.lnk
  iceEval := eval, longOps := longOps, reports := reports }
  ∧ ((s.ch p).state = .lowering → s.lines.lowered.get p = true → c.state = .lowered ∧ c.role = none)
  ∧ ((s.ch p).state = .lowered → s.lines.lowered.get p = false →
      c.state = .lowering ∧ c.role = (s.ch p).role ∧ c.lowerStart = s.clk.total)
  ∧ ((s.ch p).state ≠ .lowering → (s.ch p).state ≠ .lowered → c = s.ch p)

theorem limitTaken_stands (hdown : ¬ ((s.ch p).state = .lowering ∧ s.lines.lowered.get p = true))
    (hup : ¬ ((s.ch p).state = .lowered ∧ s.lines.lowered.get p = false)) : LimitTaken s s p := by
  have hset : s.pch.set p (s.ch p) = s.pch := PerPan.set_get ..
  refine ⟨s.ch p, s.freg.get p, s.ice.arcs, s.longOps, s.reports, s.iceEval, ?_, fun h1 h2 => absurd ⟨h1, h2⟩ hdown,
    fun h1 h2 => absurd ⟨h1, h2⟩ hup, fun _ _ => rfl⟩
  rw [if_pos rfl, raiseAll_nil, hset, PerPan.set_get]

/-- The lowered-limit input (R44, R45). -/
theorem loweredLimit_taken (p : Pan) (s : State) : LimitTaken s (loweredLimit p s) p := by
  unfold loweredLimit
  split
  · next hst hon =>
    obtain ⟨c, longOps, reports, hreach, hstate, hrole⟩ := reachLowered_form p s
    refine ⟨c, s.freg.get p, s.ice.arcs.set p .empty, longOps, reports, true, ?_, fun _ _ => ⟨hstate, hrole⟩, fun h => ?_,
      fun h => absurd hst h⟩
    · rw [hreach, if_neg (by rw [hstate, hst]; exact fun h => nomatch h), PerPan.set_get]
    · rw [hst] at h; cases h
  · next hst hon =>
    have heq := enterLowering_up (s := s) (p := p) hon
    refine ⟨s.lowering (s.ch p), (s.freg.get p).stopped, s.ice.arcs, unjoined p s.longOps, s.reports, true, ?_, fun h => ?_,
      fun _ _ => ⟨rfl, rfl, rfl⟩, fun _ h => absurd hst h⟩
    · rw [heq, if_neg (by rw [hst]; exact fun h => nomatch h)]
      rfl
    · rw [hst] at h; cases h
  · next hst hon => exact limitTaken_stands (by simp [hon]) (by simp [hst])
  · next hst hon => exact limitTaken_stands (by simp [hst]) (by simp [hon])
  all_goals
    next hst => exact limitTaken_stands (by simp [hst]) (by simp [hst])

/-- Staging brings each ARMED entry to the target of the moment (R106, R107). -/
theorem restage_eq_staged (s : State) (e : Entry) : restage s e = if e.state = .armed then s.staged e else e := by
  rw [restage, stage_eq_staged]

/-- Settles O45. -/
theorem inputsMoveTheirPantograph : Obligations.InputsMoveTheirPantograph := by
  refine ⟨fun s entries hentries => ?staging, fun p on s => ⟨?contact, ?limit⟩⟩
  case staging =>
    have hmap : s.map.entries.map (restage s) = entries := by
      rw [hentries]
      exact List.map_congr_left fun e _ => restage_eq_staged s e
    refine ⟨fun hne => ?_, fun heq => if_pos (hmap.trans heq)⟩
    have hwatch : watchStaging s = some { s with
        map := { s.map with entries := entries }, lnk := raiseAll [.entry] s.lnk } := by
      unfold watchStaging
      dsimp only
      rw [hmap, if_neg hne, notice_eq]
      rfl
    exact ⟨_, hwatch, rfl, raises_of_lnk rfl, rfl⟩
  case contact =>
    generalize ht : s.modLines (fun x => { x with contact := x.contact.set p on }) = t
    obtain ⟨eval, heq⟩ := contactSense_eq p t
    have hon : t.lines.contact.get p = on := by
      rw [← ht]
      exact PerPan.get_set_same ..
    have hcon : t.contacted p on = s.contacted p on := by
      rw [← ht]
      rfl
    have hexec : exec (.contactSenseChange p on) s = .next (settle (contactSense p t)) := by rw [← ht]; rfl
    rw [hon, hcon] at heq
    rw [heq, ← ht] at hexec
    have hch : ∀ {u : State}, u.pch = s.pch.set p (s.contacted p on) → u.ch p = s.contacted p on := fun hu => by
      unfold State.ch
      rw [hu, PerPan.get_set_same]
    refine ⟨_, hexec, rfl, fun hst hon => ?_, fun hst hon => ?_, fun hst hon => ?_, fun hst hon hloss => ?_, fun hst => ?_,
      fun q hq => PerPan.get_set_ne _ _ hq, ?_, rfl⟩
    · refine (hch rfl).trans ?_
      unfold State.contacted
      rw [hst, hon]
    · refine (hch rfl).trans ?_
      unfold State.contacted
      rw [hst, hon]
    · refine (hch rfl).trans ?_
      unfold State.contacted
      rw [hst, hon]
    · refine (hch rfl).trans ?_
      unfold State.contacted
      rw [hst, hon]
      dsimp only
      rw [hloss]
      rfl
    · refine (hch rfl).trans ?_
      unfold State.contacted
      cases hs : (s.ch p).state with
      | raising | settling | raised => rw [hs] at hst; cases hst
      | lowered | lowering | dropped | isolated => rfl
    · exact raises_of_lnk (congrArg (fun d : Channel => raiseAll (if d.state = (s.ch p).state then [] else [.pan]) s.lnk)
        (hch rfl).symm)
  case limit =>
    generalize ht : s.modLines (fun x => { x with lowered := x.lowered.set p on }) = t
    have hexec : exec (.loweredLimitChange p on) s = .next (settle (loweredLimit p t)) := by rw [← ht]; rfl
    obtain ⟨c, freg, arcs, longOps, reports, eval, heq, hdown, hup, hother⟩ := loweredLimit_taken p t
    have hon : t.lines.lowered.get p = on := by
      rw [← ht]
      exact PerPan.get_set_same ..
    rw [hon] at hdown hup
    rw [heq] at hexec
    rw [← ht] at hexec hdown hup hother
    have hch : ∀ {u : State}, u.pch = s.pch.set p c → u.ch p = c := fun hu => by
      unfold State.ch
      rw [hu, PerPan.get_set_same]
    refine ⟨_, hexec, rfl, fun hst hon => ?_, fun hst hon => ?_, fun h1 h2 => (hch rfl).trans (hother h1 h2),
      fun q hq => ⟨PerPan.get_set_ne _ _ hq, PerPan.get_set_ne _ _ hq⟩, ?_, rfl⟩
    · rw [hch rfl]
      exact hdown hst hon
    · rw [hch rfl]
      exact hup hst hon
    · exact raises_of_lnk (congrArg (fun d : Channel => raiseAll (if d.state = (s.ch p).state then [] else [.pan]) s.lnk)
        (hch rfl).symm)

end Inputs

end Sys2Proof.Machine

/-! ### Pressure samples and the automatic dropping device (R41, R48, R49) -/

namespace Sys2Proof.Machine

section Trip

variable {s : State} {p : Pan} {x : Int}

/-- The end of an operation leaves the rest of its channel. -/
theorem endedWith_fields (c : Channel) (out : OpOutcome) : (c.endedWith out).role = c.role
    ∧ (c.endedWith out).measured = c.measured ∧ (c.endedWith out).sampleAt = c.sampleAt := by
  unfold Channel.endedWith
  split <;> exact ⟨rfl, rfl, rfl⟩

/-- A channel that the automatic dropping device has tripped (R49). -/
def Channel.tripped (c : Channel) : Channel :=
  ({ c with state := .dropped, settle := none, loss := none, lowerReq := false } : Channel).endedWith .aborted

theorem tripped_fields (c : Channel) : c.tripped.state = .dropped ∧ c.tripped.role = c.role ∧ c.tripped.job = none
    ∧ c.tripped.measured = c.measured ∧ c.tripped.sampleAt = c.sampleAt := by
  obtain ⟨hrole, hmeasured, hsample⟩ := endedWith_fields
    { c with state := .dropped, settle := none, loss := none, lowerReq := false } .aborted
  exact ⟨endedWith_state .., hrole, endedWith_job .., hmeasured, hsample⟩

/-- The causes of an open request for a COLLECTING pantograph (R43, R49). -/
theorem openIfCollecting_eq (p : Pan) (s : State) : ∃ breaker start cs, openIfCollecting p s = { s with
    bsc := { s.bsc with breaker := breaker, limitStart := start }, lnk := raiseAll cs s.lnk }
    ∧ ((s.ch p).role = some .collecting → s.bsc.breaker = .closed → breaker = .opening) := by
  unfold openIfCollecting
  split
  · by_cases hb : s.bsc.breaker = .closed ∨ s.bsc.breaker = .closing
    · exact ⟨.opening, s.clk.time, [.breaker], openRequest_opens hb, fun _ _ => rfl⟩
    · refine ⟨s.bsc.breaker, s.bsc.limitStart, [], ?_, fun _ h => absurd (.inl h) hb⟩
      rw [openRequest_stands hb, raiseAll_nil]
  · next h => exact ⟨s.bsc.breaker, s.bsc.limitStart, [], by rw [raiseAll_nil], fun k => absurd k h⟩

/-- A tripped pantograph before its operation ends (R49). -/
theorem tripReported_eq (p : Pan) (s : State) : reportFault .addTrip (some p) none (endLong (.joined p) (stopForce p (movePan p
      (fun c => { c with state := .dropped, settle := none, loss := none, lowerReq := false }) s))) = { s with
    pch := s.pch.set p { s.ch p with state := .dropped, settle := none, loss := none, lowerReq := false }
    freg := s.freg.set p (s.freg.get p).stopped, fault := s.captured .addTrip (some p) none
    lnk := raiseAll [.pan, .fault] s.lnk, longOps := unjoined p s.longOps, reports := s.reports ++ [.fault .addTrip (some p)]
    iceEval := true } := by
  have hcauses : raiseAll [.pan, .fault] s.lnk = raiseAll [.fault] (raiseAll [.pan] s.lnk) :=
    (raiseAll_raiseAll [.pan] [.fault] _).symm
  rw [reportFault_eq, movePan_eq, hcauses]
  rfl

/-- What a trip does (R49). -/
theorem trip_eq (p : Pan) (s : State) : ∃ breaker start longOps reports cs, trip p s = { s with
    pch := s.pch.set p (s.ch p).tripped, freg := s.freg.set p (s.freg.get p).stopped
    bsc := { s.bsc with breaker := breaker, limitStart := start }, fault := s.captured .addTrip (some p) none
    lnk := raiseAll ([.pan, .fault] ++ cs) s.lnk, longOps := longOps, reports := reports, iceEval := true }
    ∧ ((s.ch p).role = some .collecting → s.bsc.breaker = .closed → breaker = .opening) := by
  have htrip : trip p s = openIfCollecting p (endJob p .aborted (reportFault .addTrip (some p) none (endLong (.joined p)
      (stopForce p (movePan p (fun c => { c with state := .dropped, settle := none, loss := none, lowerReq := false }) s))))) :=
    rfl
  rw [tripReported_eq] at htrip
  generalize ht : ({ s with
    pch := s.pch.set p { s.ch p with state := .dropped, settle := none, loss := none, lowerReq := false }
    freg := s.freg.set p (s.freg.get p).stopped, fault := s.captured .addTrip (some p) none
    lnk := raiseAll [.pan, .fault] s.lnk, longOps := unjoined p s.longOps, reports := s.reports ++ [.fault .addTrip (some p)]
    iceEval := true } : State) = t at htrip
  have hch : t.ch p = { s.ch p with state := .dropped, settle := none, loss := none, lowerReq := false } := by
    rw [← ht]
    exact PerPan.get_set_same ..
  have hend : (endJob p .aborted t).ch p = (s.ch p).tripped := by
    rw [endJob_form, hch]
    exact PerPan.get_set_same ..
  have hbsc : (endJob p .aborted t).bsc = s.bsc := by
    rw [endJob_form, ← ht]
  obtain ⟨breaker, start, cs, hopen, hbreaker⟩ := openIfCollecting_eq p (endJob p .aborted t)
  rw [hend, hbsc] at hbreaker
  refine ⟨breaker, start, t.longFreed p, t.reports ++ (t.ch p).endReports p .aborted, (t.ch p).endCauses ++ cs, ?_, fun hrole hclosed =>
    hbreaker ((tripped_fields _).2.1.trans hrole) hclosed⟩
  rw [htrip, hopen, endJob_form, hch, ← ht]
  simp only [raiseAll_raiseAll, PerPan.set_set, ← List.append_assoc]
  rfl

end Trip

section Samples

variable {s : State} {p : Pan} {x : Int}

/-- A channel whose settle timer a valid sample has judged (R41). -/
def State.settleJudged (s : State) (p : Pan) (x : Int) (c : Channel) : Channel :=
  if c.state = .settling then
    if s.settled p x then
      match c.settle with
      | some _ => c
      | none => { c with settle := some s.clk.time, settleLen := s.cfg.items.settleTime }
    else { c with settle := none }
  else c

theorem settleSample_eq (p : Pan) (x : Int) (s : State) :
    settleSample p x s = { s with pch := s.pch.set p (s.settleJudged p x (s.ch p)) } := by
  have hset : s.pch.set p (s.ch p) = s.pch := PerPan.set_get ..
  unfold settleSample State.settleJudged
  split
  · split
    · cases (s.ch p).settle with
      | some t => simp only [hset]
      | none => rfl
    · rfl
  · simp only [hset]

/-- The judgement of the settle timer leaves the rest of the channel. -/
theorem settleJudged_fields (s : State) (p : Pan) (x : Int) (c : Channel) : (s.settleJudged p x c).state = c.state
    ∧ (s.settleJudged p x c).below = c.below ∧ (s.settleJudged p x c).measured = c.measured
    ∧ (s.settleJudged p x c).sampleAt = c.sampleAt := by
  unfold State.settleJudged
  split
  · split
    · split <;> exact ⟨rfl, rfl, rfl, rfl⟩
    · exact ⟨rfl, rfl, rfl, rfl⟩
  · exact ⟨rfl, rfl, rfl, rfl⟩

theorem settled_iff (s : State) (p : Pan) (x : Int) : s.settled p x = true
    ↔ (s.freg.get p).target = some (s.freg.get p).pCmd ∧ ((s.freg.get p).pCmd : Int) - 15 ≤ x
      ∧ x ≤ ((s.freg.get p).pCmd : Int) + 15 := by
  simp only [State.settled, Bool.and_eq_true, decide_eq_true_eq, and_assoc]
  exact Iff.rfl

/-- The settle timer behind a valid sample (R41). -/
theorem settleJudged_settle (s : State) (p : Pan) (x : Int) (c : Channel) :
    (c.state ≠ .settling → (s.settleJudged p x c).settle = c.settle ∧ (s.settleJudged p x c).settleLen = c.settleLen)
    ∧ (c.state = .settling → s.settled p x = true →
        (c.settle = none → (s.settleJudged p x c).settle = some s.clk.time
          ∧ (s.settleJudged p x c).settleLen = s.cfg.items.settleTime)
        ∧ ∀ b, c.settle = some b → (s.settleJudged p x c).settle = some b ∧ (s.settleJudged p x c).settleLen = c.settleLen)
    ∧ (c.state = .settling → s.settled p x = false →
        (s.settleJudged p x c).settle = none ∧ (s.settleJudged p x c).settleLen = c.settleLen) := by
  refine ⟨fun hst => ?_, fun hst hin => ⟨fun hnone => ?_, fun b hb => ?_⟩, fun hst hout => ?_⟩
  · rw [State.settleJudged, if_neg hst]
    exact ⟨rfl, rfl⟩
  · rw [State.settleJudged, if_pos hst, if_pos hin, hnone]
    exact ⟨rfl, rfl⟩
  · rw [State.settleJudged, if_pos hst, if_pos hin, hb]
    exact ⟨hb, rfl⟩
  · rw [State.settleJudged, if_pos hst, if_neg (by rw [hout]; exact fun h => nomatch h)]
    exact ⟨rfl, rfl⟩

theorem validPressure_iff (x : Int) : validPressure x = true ↔ -20 ≤ x ∧ x ≤ 700 := by
  simp only [validPressure, Bool.and_eq_true, decide_eq_true_eq]
  exact Iff.rfl

/-- A channel with a valid sample and a count of low samples (R48). -/
def State.sampled (s : State) (p : Pan) (x : Int) (n : Nat) : Channel :=
  { s.ch p with sampleAt := s.clk.time, measured := x, below := n }

/-- A sample of a pantograph that is not raised (R48). -/
theorem takePressure_idle (hraised : (s.ch p).state.isRaised = false) : takePressure p x s = { s with
    pch := s.pch.set p { s.ch p with
      measured := if -20 ≤ x ∧ x ≤ 700 then x else (s.ch p).measured, sampleAt := s.clk.time } } := by
  unfold takePressure
  dsimp only
  rw [hraised]
  by_cases hx : -20 ≤ x ∧ x ≤ 700
  · rw [if_pos ((validPressure_iff x).2 hx), if_pos hx]
    simp only [State.modPan, PerPan.get_set_same, PerPan.set_set]
    rfl
  · rw [if_neg (fun h => hx ((validPressure_iff x).1 h)), if_neg hx]
    rfl

/-- The second low sample in a row trips (R48). -/
theorem judgeSample_trips (hlow : x < ((s.freg.get p).pCmd : Int) - s.cfg.items.dropThreshold) (hsecond : 1 ≤ (s.ch p).below) :
    judgeSample p x s = trip p { s with pch := s.pch.set p { s.ch p with below := (s.ch p).below + 1 } } := by
  have hch : (s.modPan p fun c => { c with below := c.below + 1 }).ch p = { s.ch p with below := (s.ch p).below + 1 } :=
    PerPan.get_set_same ..
  unfold judgeSample
  dsimp only
  rw [if_pos hlow, hch, if_pos (Nat.succ_le_succ hsecond)]
  rfl

/-- Another valid sample is judged for the settle timer (R41, R48). -/
theorem judgeSample_judges (hholds : ((s.freg.get p).pCmd : Int) - s.cfg.items.dropThreshold ≤ x ∨ (s.ch p).below = 0) :
    judgeSample p x s = { s with pch := s.pch.set p (s.settleJudged p x { s.ch p with
      below := if x < ((s.freg.get p).pCmd : Int) - s.cfg.items.dropThreshold then 1 else 0 }) } := by
  have hch : ∀ f, (s.modPan p f).ch p = f (s.ch p) := fun f => PerPan.get_set_same ..
  have hpch : ∀ f c, (s.modPan p f).pch.set p c = s.pch.set p c := fun f c => PerPan.set_set ..
  unfold judgeSample
  dsimp only
  by_cases hlow : x < ((s.freg.get p).pCmd : Int) - s.cfg.items.dropThreshold
  · have hfirst : (s.ch p).below = 0 := hholds.resolve_left (by omega)
    rw [if_pos hlow, if_pos hlow, hch, hfirst, if_neg (Nat.not_succ_le_self 1), settleSample_eq, hch, hpch, hfirst]
    rfl
  · rw [if_neg hlow, if_neg hlow, settleSample_eq, hch, hpch]
    rfl

/-- A valid sample of a raised pantograph is judged (R48). -/
theorem takePressure_valid (hraised : (s.ch p).state.isRaised = true) (hx : -20 ≤ x ∧ x ≤ 700) :
    takePressure p x s = judgeSample p x { s with
      pch := s.pch.set p { s.ch p with sampleAt := s.clk.time, measured := x } } := by
  unfold takePressure
  dsimp only
  rw [if_pos ((validPressure_iff x).2 hx), if_pos hraised]
  simp only [State.modPan, PerPan.get_set_same, PerPan.set_set]
  rfl

/-- A valid sample of a raised pantograph below the threshold that trips it (R48). -/
theorem takePressure_trips (hraised : (s.ch p).state.isRaised = true) (hx : -20 ≤ x ∧ x ≤ 700)
    (hlow : x < ((s.freg.get p).pCmd : Int) - s.cfg.items.dropThreshold) (hsecond : 1 ≤ (s.ch p).below) :
    takePressure p x s = trip p { s with pch := s.pch.set p (s.sampled p x ((s.ch p).below + 1)) } := by
  have hch : ({ s with pch := s.pch.set p { s.ch p with sampleAt := s.clk.time, measured := x } } : State).ch p
      = { s.ch p with sampleAt := s.clk.time, measured := x } := PerPan.get_set_same ..
  rw [takePressure_valid hraised hx, judgeSample_trips (by exact hlow) (by rw [hch]; exact hsecond), hch]
  simp only [PerPan.set_set]
  rfl

/-- A valid sample of a raised pantograph that trips nothing (R41, R48). -/
theorem takePressure_judges (hraised : (s.ch p).state.isRaised = true) (hx : -20 ≤ x ∧ x ≤ 700)
    (hholds : ((s.freg.get p).pCmd : Int) - s.cfg.items.dropThreshold ≤ x ∨ (s.ch p).below = 0) :
    takePressure p x s = { s with pch := s.pch.set p (s.settleJudged p x (s.sampled p x
      (if x < ((s.freg.get p).pCmd : Int) - s.cfg.items.dropThreshold then 1 else 0))) } := by
  have hch : ({ s with pch := s.pch.set p { s.ch p with sampleAt := s.clk.time, measured := x } } : State).ch p
      = { s.ch p with sampleAt := s.clk.time, measured := x } := PerPan.get_set_same ..
  rw [takePressure_valid hraised hx, judgeSample_judges (by rw [hch]; exact hholds), hch]
  simp only [PerPan.set_set]
  rfl

/-- A gap or an invalid sample trips its pantograph with SENSOR (R48). -/
theorem sensorTrip_eq (p : Pan) (s : State) : ∃ u, sensorTrip p s = u ∧ (u.ch p).state = .dropped
    ∧ (u.ch p).measured = (s.ch p).measured ∧ u.Noticed .sensor ∧ (u.freg.get p).pCmd = 0
    ∧ ∀ q, q ≠ p → u.ch q = s.ch q := by
  obtain ⟨breaker, start, longOps, reports, cs, heq, -⟩ := trip_eq p (notice .sensor s)
  obtain ⟨hstate, -, -, hmeasured, -⟩ := tripped_fields (s.ch p)
  rw [notice_eq] at heq
  refine ⟨_, rfl, ?_⟩
  rw [sensorTrip, notice_eq, heq]
  have hch : (s.pch.set p (s.ch p).tripped).get p = (s.ch p).tripped := PerPan.get_set_same ..
  refine ⟨(congrArg Channel.state hch).trans hstate, (congrArg Channel.measured hch).trans hmeasured, ?_, ?_,
    fun q hq => PerPan.get_set_ne _ _ hq⟩
  · exact noticed_of_raised (v := s.lnk) (cs := [.sensor] ++ ([.pan, .fault] ++ cs)) (raiseAll_raiseAll ..) (.head _)
  · exact congrArg Force.pCmd (PerPan.get_set_same ..)

/-- A valid sample of a raised pantograph, by what it does to it (R41, R48, R49). -/
theorem validSample (hraised : (s.ch p).state.isRaised = true) (hlo : -20 ≤ x) (hhi : x ≤ 700) :
    ∃ u, exec (.pressureSample p x) s = .next (settle u) ∧ (u.ch p).measured = x ∧ (u.ch p).sampleAt = s.clk.time
      ∧ (((s.freg.get p).pCmd : Int) - s.cfg.items.dropThreshold ≤ x →
          (u.ch p).state = (s.ch p).state ∧ (u.ch p).below = 0 ∧ { u with pch := s.pch } = s)
      ∧ (x < ((s.freg.get p).pCmd : Int) - s.cfg.items.dropThreshold → (s.ch p).below = 0 →
          (u.ch p).state = (s.ch p).state ∧ (u.ch p).below = 1 ∧ { u with pch := s.pch } = s)
      ∧ (x < ((s.freg.get p).pCmd : Int) - s.cfg.items.dropThreshold → 1 ≤ (s.ch p).below →
          (u.ch p).state = .dropped ∧ (u.ch p).role = (s.ch p).role ∧ (u.ch p).job = none
          ∧ (u.freg.get p).pCmd = 0 ∧ (u.freg.get p).target = none ∧ u.Noticed .fault
          ∧ ((s.ch p).role = some .collecting → s.bsc.breaker = .closed → u.bsc.breaker = .opening))
      ∧ ((u.ch p).state ≠ .dropped →
          ((s.ch p).state ≠ .settling →
            (u.ch p).settle = (s.ch p).settle ∧ (u.ch p).settleLen = (s.ch p).settleLen)
          ∧ ((s.ch p).state = .settling → (s.freg.get p).target = some (s.freg.get p).pCmd →
              ((s.freg.get p).pCmd : Int) - 15 ≤ x → x ≤ ((s.freg.get p).pCmd : Int) + 15 →
              ((s.ch p).settle = none →
                (u.ch p).settle = some s.clk.time ∧ (u.ch p).settleLen = s.cfg.items.settleTime)
              ∧ (∀ b, (s.ch p).settle = some b →
                (u.ch p).settle = some b ∧ (u.ch p).settleLen = (s.ch p).settleLen))
          ∧ ((s.ch p).state = .settling →
              ((s.freg.get p).target ≠ some (s.freg.get p).pCmd ∨ x < ((s.freg.get p).pCmd : Int) - 15
                ∨ ((s.freg.get p).pCmd : Int) + 15 < x) →
              (u.ch p).settle = none ∧ (u.ch p).settleLen = (s.ch p).settleLen))
      ∧ (∀ q, q ≠ p → u.ch q = s.ch q ∧ u.freg.get q = s.freg.get q) := by
  have hexec : exec (.pressureSample p x) s = .next (settle (takePressure p x s)) := rfl
  by_cases hholds : ((s.freg.get p).pCmd : Int) - s.cfg.items.dropThreshold ≤ x ∨ (s.ch p).below = 0
  · rw [takePressure_judges hraised ⟨hlo, hhi⟩ hholds] at hexec
    generalize hn : (if x < ((s.freg.get p).pCmd : Int) - s.cfg.items.dropThreshold then 1 else 0) = n at hexec
    have hch : ({ s with pch := s.pch.set p (s.settleJudged p x (s.sampled p x n)) } : State).ch p
        = s.settleJudged p x (s.sampled p x n) := PerPan.get_set_same ..
    obtain ⟨hstate, hbelow, hmeasured, hsample⟩ := settleJudged_fields s p x (s.sampled p x n)
    obtain ⟨hother, hin, hout⟩ := settleJudged_settle s p x (s.sampled p x n)
    refine ⟨_, hexec, ?_, ?_, fun hhigh => ?_, fun hlow _ => ?_, fun hlow hsecond => ?_, fun _ =>
      ⟨fun hst => ?_, fun hst htarget h1 h2 => ?_, fun hst hno => ?_⟩,
      fun q hq => ⟨PerPan.get_set_ne _ _ hq, rfl⟩⟩ <;> try rw [hch]
    · exact hmeasured
    · exact hsample
    · exact ⟨hstate, hbelow.trans (hn.symm.trans (if_neg (by omega))), rfl⟩
    · exact ⟨hstate, hbelow.trans (hn.symm.trans (if_pos hlow)), rfl⟩
    · rcases hholds with h | h <;> omega
    · exact hother hst
    · exact hin hst ((settled_iff s p x).2 ⟨htarget, h1, h2⟩)
    · refine hout hst (Bool.eq_false_iff.2 fun h => ?_)
      obtain ⟨h1, h2, h3⟩ := (settled_iff s p x).1 h
      rcases hno with h | h | h
      · exact h h1
      · omega
      · omega
  · have hlow : x < ((s.freg.get p).pCmd : Int) - s.cfg.items.dropThreshold := by omega
    have hsecond : 1 ≤ (s.ch p).below := by omega
    rw [takePressure_trips hraised ⟨hlo, hhi⟩ hlow hsecond] at hexec
    have hch : ({ s with pch := s.pch.set p (s.sampled p x ((s.ch p).below + 1)) } : State).ch p
        = s.sampled p x ((s.ch p).below + 1) := PerPan.get_set_same ..
    obtain ⟨breaker, start, longOps, reports, cs, heq, hbreaker⟩ :=
      trip_eq p { s with pch := s.pch.set p (s.sampled p x ((s.ch p).below + 1)) }
    obtain ⟨hstate, hrole, hjob, hmeasured, hsample⟩ := tripped_fields (s.sampled p x ((s.ch p).below + 1))
    rw [hch] at heq hbreaker
    simp only [PerPan.set_set] at heq
    generalize hu : trip p { s with pch := s.pch.set p (s.sampled p x ((s.ch p).below + 1)) } = u at hexec heq
    have hup : u.ch p = (s.sampled p x ((s.ch p).below + 1)).tripped := by
      rw [heq]
      exact PerPan.get_set_same ..
    have hforce : u.freg.get p = (s.freg.get p).stopped := by
      rw [heq]
      exact PerPan.get_set_same ..
    rw [← hup] at hstate hrole hjob hmeasured hsample
    refine ⟨u, hexec, hmeasured, hsample, fun h => absurd hlow (by omega), fun _ h => absurd h (by omega), fun _ _ =>
      ⟨hstate, hrole, hjob, by rw [hforce]; rfl, by rw [hforce]; rfl, ?_, fun h1 h2 => ?_⟩, fun h => absurd hstate h,
      fun q hq => ?_⟩
    · rw [heq]
      exact noticed_of_raised (cs := [.pan, .fault] ++ cs) rfl (.tail _ (.head _))
    · rw [heq]
      exact hbreaker h1 h2
    · rw [heq]
      exact ⟨PerPan.get_set_ne _ _ hq, PerPan.get_set_ne _ _ hq⟩

/-- Settles O46. -/
theorem pressureSamplesGuardTheHead : Obligations.PressureSamplesGuardTheHead := by
  refine fun p x s => ⟨fun hraised => ?_, validSample, fun hraised hx => ?_, fun hdue => ?_⟩
  · have hexec : exec (.pressureSample p x) s = .next (settle (takePressure p x s)) := rfl
    rw [takePressure_idle hraised] at hexec
    exact ⟨_, hexec, PerPan.get_set_same .., fun q hq => PerPan.get_set_ne _ _ hq, rfl⟩
  · have hbad : validPressure x = false := Bool.eq_false_iff.2 fun h => by
      have := (validPressure_iff x).1 h
      omega
    have htake : takePressure p x s = sensorTrip p (s.modPan p fun c => { c with sampleAt := s.now }) := by
      unfold takePressure
      dsimp only
      rw [hbad, if_neg (fun h => nomatch h), if_pos hraised]
    obtain ⟨u, heq, hstate, hmeasured, hnoticed, -, hother⟩ := sensorTrip_eq p (s.modPan p fun c => { c with sampleAt := s.now })
    have hch : (s.modPan p fun c => { c with sampleAt := s.now }).ch p = { s.ch p with sampleAt := s.now } :=
      PerPan.get_set_same ..
    have hexec : exec (.pressureSample p x) s = .next (settle (takePressure p x s)) := rfl
    rw [htake, heq] at hexec
    rw [hch] at hmeasured
    exact ⟨u, hexec, hstate, hmeasured, hnoticed, fun q hq => (hother q hq).trans (PerPan.get_set_ne _ _ hq)⟩
  · obtain ⟨u, heq, hstate, -, hnoticed, hcmd, hother⟩ := sensorTrip_eq p s
    have hexec : exec (.pressureGap p) s = .next (settle (sensorTrip p s)) := atLimit_due hdue _ _
    rw [heq] at hexec
    exact ⟨u, hexec, hstate, hnoticed, hcmd, hother⟩

end Samples

end Sys2Proof.Machine

/-! ### The limits of a pantograph and its disconnector (R41 to R43, R46, R52) -/

namespace Sys2Proof.Machine

section Limits

variable {s : State} {p : Pan} {j : Job} {out : OpOutcome}

/-- The end of the settle time (R41). -/
theorem settleEnds_eq (p : Pan) (s : State) : ∃ c longOps reports, settleEnds p s = { s with
    pch := s.pch.set p c, lnk := raiseAll [.pan] s.lnk, longOps := longOps, reports := reports, iceEval := true }
    ∧ c.state = .raised ∧ c.role = (s.ch p).role
    ∧ ∀ src d, (s.ch p).job = some ⟨src, .raise d⟩ → c.job = none ∧ c.lastResult = some ⟨src, .raise d, .done⟩ := by
  by_cases hj : ∃ src d, (s.ch p).job = some ⟨src, .raise d⟩
  · obtain ⟨src, d, hj⟩ := hj
    have hch : (movePan p (fun c => { c with state := .raised, settle := none }) s).ch p
        = { s.ch p with state := .raised, settle := none } := by
      rw [movePan_eq]
      exact PerPan.get_set_same ..
    have hpan : raiseAll [.pan] (raiseAll [.pan] s.lnk) = raiseAll [.pan] s.lnk :=
      (raiseAll_raiseAll ..).trans (raiseAll_congr (by decide) _)
    have hends : settleEnds p s = endJob p .done (movePan p (fun c => { c with state := .raised, settle := none }) s) := by
      unfold settleEnds
      rw [hj]
    have hend := endJob_eq (j := ⟨src, .raise d⟩) ((congrArg Channel.job hch).trans hj) .done
    rw [hch, movePan_eq] at hend
    simp only [PerPan.set_set, hpan] at hend
    rw [movePan_eq] at hends
    refine ⟨_, _, _, hends.trans hend, rfl, rfl, fun src' d' h => ?_⟩
    rw [hj] at h
    cases h
    exact ⟨rfl, rfl⟩
  · have hends : settleEnds p s = movePan p (fun c => { c with state := .raised, settle := none }) s := by
      unfold settleEnds
      split
      · next src d h => exact absurd ⟨src, d, h⟩ hj
      all_goals rfl
    exact ⟨_, s.longOps, s.reports, hends.trans (movePan_eq ..), rfl, rfl, fun src d h => absurd ⟨src, d, h⟩ hj⟩

/-- Only one pantograph, the breaker and the records of an event have changed. -/
def Touches (s u : State) (p : Pan) : Prop := ∃ c force bsc arcs fault cs longOps reports eval, u = { s with
  pch := s.pch.set p c, freg := s.freg.set p force, bsc := bsc, ice := { s.ice with arcs := arcs }, fault := fault
  lnk := raiseAll cs s.lnk, longOps := longOps, reports := reports, iceEval := eval }

theorem Touches.trans {t u : State} (h : Touches s t p) (k : Touches t u p) : Touches s u p := by
  obtain ⟨c, force, bsc, arcs, fault, cs, longOps, reports, eval, rfl⟩ := h
  obtain ⟨c', force', bsc', arcs', fault', cs', longOps', reports', eval', rfl⟩ := k
  refine ⟨c', force', bsc', arcs', fault', cs ++ cs', longOps', reports', eval', ?_⟩
  simp only [PerPan.set_set, raiseAll_raiseAll]

theorem touches_reportFault (k : FaultKind) (x : Option Pan) (e : Option Nat) (p : Pan) (s : State) :
    Touches s (reportFault k x e s) p := by
  have hset : s.pch.set p (s.ch p) = s.pch := PerPan.set_get ..
  refine ⟨s.ch p, s.freg.get p, s.bsc, s.ice.arcs, s.captured k x e, [.fault], s.longOps,
    s.reports ++ [.fault k x], s.iceEval, (reportFault_eq k x e s).trans ?_⟩
  rw [hset, PerPan.set_get]

theorem touches_report (r : Report) (p : Pan) (s : State) : Touches s (report r s) p := by
  have hset : s.pch.set p (s.ch p) = s.pch := PerPan.set_get ..
  refine ⟨s.ch p, s.freg.get p, s.bsc, s.ice.arcs, s.fault, [], s.longOps, s.reports ++ [r], s.iceEval, ?_⟩
  rw [hset, PerPan.set_get, raiseAll_nil]
  rfl

theorem touches_modPan (f : Channel → Channel) (p : Pan) (s : State) : Touches s (s.modPan p f) p := by
  refine ⟨f (s.ch p), s.freg.get p, s.bsc, s.ice.arcs, s.fault, [], s.longOps, s.reports, s.iceEval, ?_⟩
  rw [PerPan.set_get, raiseAll_nil]
  rfl

theorem touches_endJob (out : OpOutcome) (p : Pan) (s : State) : Touches s (endJob p out s) p := by
  refine ⟨(s.ch p).endedWith out, s.freg.get p, s.bsc, s.ice.arcs, s.fault, (s.ch p).endCauses, s.longFreed p,
    s.reports ++ (s.ch p).endReports p out, s.iceEval, (endJob_form p out s).trans ?_⟩
  rw [PerPan.set_get]

theorem touches_enterLowering (p : Pan) (s : State) : Touches s (enterLowering p s) p := by
  obtain ⟨c, arcs, longOps, reports, heq, -⟩ := enterLowering_form p s
  exact ⟨c, _, s.bsc, arcs, s.fault, [.pan], longOps, reports, true, heq⟩

theorem touches_openIfCollecting (p : Pan) (s : State) : Touches s (openIfCollecting p s) p := by
  obtain ⟨breaker, start, cs, heq, -⟩ := openIfCollecting_eq p s
  have hset : s.pch.set p (s.ch p) = s.pch := PerPan.set_get ..
  refine ⟨s.ch p, s.freg.get p, { s.bsc with breaker := breaker, limitStart := start }, s.ice.arcs, s.fault, cs,
    s.longOps, s.reports, s.iceEval, heq.trans ?_⟩
  rw [hset, PerPan.set_get]

/-- What a touched pantograph leaves: the other channels, MAP, SEQ and the settings. -/
theorem Touches.fields {u : State} (h : Touches s u p) : (∀ q, q ≠ p → u.ch q = s.ch q) ∧ u.map = s.map ∧ u.seq = s.seq
    ∧ u.cfg = s.cfg ∧ u.lines = s.lines := by
  obtain ⟨c, force, bsc, arcs, fault, cs, longOps, reports, eval, rfl⟩ := h
  exact ⟨fun q hq => PerPan.get_set_ne _ _ hq, rfl, rfl, rfl, rfl⟩

/-! The fields of the operations that an event is made of. -/

@[simp] theorem endJob_ch (p : Pan) (out : OpOutcome) (s : State) : (endJob p out s).ch p = (s.ch p).endedWith out := by
  rw [endJob_form]
  exact PerPan.get_set_same ..

@[simp] theorem endJob_bsc (p : Pan) (out : OpOutcome) (s : State) : (endJob p out s).bsc = s.bsc := by rw [endJob_form]

@[simp] theorem endJob_fault (p : Pan) (out : OpOutcome) (s : State) : (endJob p out s).fault = s.fault := by
  rw [endJob_form]

@[simp] theorem endJob_lines (p : Pan) (out : OpOutcome) (s : State) : (endJob p out s).lines = s.lines := by
  rw [endJob_form]

@[simp] theorem enterLowering_bsc (p : Pan) (s : State) : (enterLowering p s).bsc = s.bsc := by
  obtain ⟨c, arcs, longOps, reports, heq, -⟩ := enterLowering_form p s
  rw [heq]

@[simp] theorem enterLowering_fault (p : Pan) (s : State) : (enterLowering p s).fault = s.fault := by
  obtain ⟨c, arcs, longOps, reports, heq, -⟩ := enterLowering_form p s
  rw [heq]

/-- The channel behind an entry into LOWERING (R45, R75). -/
theorem enterLowering_ch (p : Pan) (s : State) :
    ((enterLowering p s).ch p).state = (if s.lines.lowered.get p then .lowered else .lowering)
    ∧ ((enterLowering p s).freg.get p).pCmd = 0
    ∧ (s.lines.lowered.get p = false → (enterLowering p s).ch p = s.lowering (s.ch p))
    ∧ ((s.ch p).job = none →
        ((enterLowering p s).ch p).job = none ∧ ((enterLowering p s).ch p).lastResult = (s.ch p).lastResult) := by
  obtain ⟨c, arcs, longOps, reports, heq, hstate, hup, hfree⟩ := enterLowering_form p s
  have hch : (enterLowering p s).ch p = c := by
    rw [heq]
    exact PerPan.get_set_same ..
  rw [hch]
  refine ⟨hstate, ?_, hup, hfree⟩
  rw [heq]
  exact congrArg Force.pCmd (PerPan.get_set_same ..)

@[simp] theorem report_ch (r : Report) (s : State) (q : Pan) : (report r s).ch q = s.ch q := rfl

@[simp] theorem reportFault_ch (k : FaultKind) (x : Option Pan) (e : Option Nat) (s : State) (q : Pan) :
    (reportFault k x e s).ch q = s.ch q := by
  rw [reportFault_eq]
  rfl

@[simp] theorem openIfCollecting_ch (p : Pan) (s : State) (q : Pan) : (openIfCollecting p s).ch q = s.ch q := by
  obtain ⟨breaker, start, cs, heq, -⟩ := openIfCollecting_eq p s
  rw [heq]
  rfl

@[simp] theorem openIfCollecting_lines (p : Pan) (s : State) : (openIfCollecting p s).lines = s.lines := by
  obtain ⟨breaker, start, cs, heq, -⟩ := openIfCollecting_eq p s
  rw [heq]

@[simp] theorem openIfCollecting_fault (p : Pan) (s : State) : (openIfCollecting p s).fault = s.fault := by
  obtain ⟨breaker, start, cs, heq, -⟩ := openIfCollecting_eq p s
  rw [heq]

/-- A collecting pantograph opens a closed breaker (R43). -/
theorem openIfCollecting_opens (hrole : (s.ch p).role = some .collecting) (hb : s.bsc.breaker = .closed) :
    (openIfCollecting p s).bsc.breaker = .opening := by
  obtain ⟨breaker, start, cs, heq, hopens⟩ := openIfCollecting_eq p s
  rw [heq]
  exact hopens hrole hb

theorem reportFault_captures (k : FaultKind) (x : Option Pan) (e : Option Nat) (s : State) :
    (reportFault k x e s).fault = s.captured k x e := by rw [reportFault_eq]

theorem modPan_captured (f : Channel → Channel) (k : FaultKind) (x : Option Pan) (e : Option Nat) (s : State) :
    (s.modPan p f).captured k x e = s.captured k x e := rfl

/-- An operation that ended leaves its result (R57). -/
theorem endedWith_result {c : Channel} {src : Source} {op : Op} (hj : c.job = some ⟨src, op⟩) (out : OpOutcome) :
    (c.endedWith out).lastResult = some ⟨src, op, out⟩ := by
  unfold Channel.endedWith
  rw [hj]
  rfl

end Limits

section LimitRows

variable {s : State} {p : Pan}

/-- A fault record of one pantograph that an event fills (R200). -/
theorem record_of_captured {u : State} {k : FaultKind} (hu : u.fault = s.captured k (some p) none) (h : s.fault = none) :
    ∃ r, u.fault = some r ∧ r.kind = k ∧ r.pan = some p ∧ r.time = s.clk.time ∧ r.front = s.trv.front / 1000
      ∧ r.speed = s.trv.speed := by
  rw [hu, captured_of_none h]
  exact ⟨_, rfl, rfl, rfl, rfl, rfl, rfl⟩

/-- The raise limit (R42). -/
theorem raiseExpires_limit (p : Pan) (s : State) :
    ((raiseExpires p s).ch p).state = (if s.lines.lowered.get p then .lowered else .lowering)
    ∧ ((raiseExpires p s).freg.get p).pCmd = 0
    ∧ (∀ src d, (s.ch p).job = some ⟨src, .raise d⟩ → ((raiseExpires p s).ch p).job = none
        ∧ ((raiseExpires p s).ch p).lastResult = some ⟨src, .raise d, .failed (.fault .raiseTimeout)⟩)
    ∧ (∀ src, (s.ch p).job = some ⟨src, .lower⟩ → s.lines.lowered.get p = false →
        ((raiseExpires p s).ch p).job = some ⟨src, .lower⟩ ∧ ((raiseExpires p s).ch p).lowerReq = false
        ∧ ((raiseExpires p s).ch p).lastResult = (s.ch p).lastResult)
    ∧ (raiseExpires p s).fault = s.captured .raiseTimeout (some p) none ∧ (raiseExpires p s).bsc = s.bsc
    ∧ Touches s (raiseExpires p s) p := by
  by_cases hj : ∃ src d, (s.ch p).job = some ⟨src, .raise d⟩
  · obtain ⟨src, d, hj⟩ := hj
    have hexp : raiseExpires p s = enterLowering p (endJob p (.failed (.fault .raiseTimeout))
        (reportFault .raiseTimeout (some p) none s)) := by
      unfold raiseExpires
      dsimp only
      rw [hj]
    obtain ⟨hstate, hcmd, -, hfree⟩ := enterLowering_ch p (endJob p (.failed (.fault .raiseTimeout))
      (reportFault .raiseTimeout (some p) none s))
    rw [endJob_lines, reportFault_lines] at hstate
    rw [endJob_ch, reportFault_ch] at hfree
    obtain ⟨hjob, hlast⟩ := hfree (endedWith_job ..)
    rw [hexp]
    refine ⟨hstate, hcmd, fun src' d' h => ?_, fun src' h => ?_, ?_, ?_, ((touches_reportFault ..).trans
      (touches_endJob ..)).trans (touches_enterLowering ..)⟩
    · rw [hj] at h
      cases h
      exact ⟨hjob, hlast.trans (endedWith_result hj _)⟩
    · rw [hj] at h
      cases h
    · rw [enterLowering_fault, endJob_fault, reportFault_captures]
    · rw [enterLowering_bsc, endJob_bsc, reportFault_bsc]
  · have hexp : raiseExpires p s = enterLowering p (reportFault .raiseTimeout (some p) none s) := by
      unfold raiseExpires
      dsimp only
      split
      · next src d h => exact absurd ⟨src, d, h⟩ hj
      all_goals rfl
    obtain ⟨hstate, hcmd, hup, -⟩ := enterLowering_ch p (reportFault .raiseTimeout (some p) none s)
    rw [reportFault_lines] at hstate hup
    rw [reportFault_ch] at hup
    rw [hexp]
    refine ⟨hstate, hcmd, fun src d h => absurd ⟨src, d, h⟩ hj, fun src h hlow => ?_, ?_, ?_,
      (touches_reportFault ..).trans (touches_enterLowering ..)⟩
    · rw [hup hlow]
      exact ⟨h, rfl, rfl⟩
    · rw [enterLowering_fault, reportFault_captures]
    · rw [enterLowering_bsc, reportFault_bsc]

/-- The contact-loss limit (R43). -/
theorem contactLost_limit (p : Pan) (s : State) :
    ((contactLost p s).ch p).state = (if s.lines.lowered.get p then .lowered else .lowering)
    ∧ ((contactLost p s).ch p).job = none
    ∧ (∀ src op, (s.ch p).job = some ⟨src, op⟩ → ((contactLost p s).ch p).lastResult = some ⟨src, op, .aborted⟩)
    ∧ (contactLost p s).fault = s.captured .contactLost (some p) none
    ∧ ((s.ch p).role = some .collecting → s.bsc.breaker = .closed → (contactLost p s).bsc.breaker = .opening)
    ∧ Touches s (contactLost p s) p := by
  have hch : (openIfCollecting p (endJob p .aborted (reportFault .contactLost (some p) none s))).ch p
      = (s.ch p).endedWith .aborted := by
    rw [openIfCollecting_ch, endJob_ch, reportFault_ch]
  obtain ⟨hstate, -, -, hfree⟩ :=
    enterLowering_ch p (openIfCollecting p (endJob p .aborted (reportFault .contactLost (some p) none s)))
  rw [hch] at hfree
  rw [openIfCollecting_lines, endJob_lines, reportFault_lines] at hstate
  obtain ⟨hjob, hlast⟩ := hfree (endedWith_job ..)
  refine ⟨hstate, hjob, fun src op h => hlast.trans (endedWith_result h _), ?_, fun hrole hb => ?_,
    (((touches_reportFault ..).trans (touches_endJob ..)).trans (touches_openIfCollecting ..)).trans
      (touches_enterLowering ..)⟩
  · rw [contactLost, enterLowering_fault, openIfCollecting_fault, endJob_fault, reportFault_captures]
  · rw [contactLost, enterLowering_bsc]
    refine openIfCollecting_opens ?_ ?_
    · rw [endJob_ch, reportFault_ch, (endedWith_fields ..).1]
      exact hrole
    · rw [endJob_bsc, reportFault_bsc]
      exact hb

/-- The lower limit (R46). -/
theorem lowerExpires_limit (p : Pan) (s : State) :
    ((lowerExpires p s).ch p).state = (s.ch p).state ∧ ((lowerExpires p s).ch p).role = (s.ch p).role
    ∧ ((lowerExpires p s).ch p).job = none
    ∧ (∀ src op, (s.ch p).job = some ⟨src, op⟩ →
        ((lowerExpires p s).ch p).lastResult = some ⟨src, op, .failed (.fault .lowerTimeout)⟩)
    ∧ ((s.ch p).job = none → ((lowerExpires p s).ch p).lastResult = (s.ch p).lastResult)
    ∧ (lowerExpires p s).fault = s.captured .lowerTimeout (some p) none ∧ (lowerExpires p s).bsc = s.bsc
    ∧ Touches s (lowerExpires p s) p := by
  have hfired : (s.modPan p fun c => { c with lowerFired := true }).ch p = { s.ch p with lowerFired := true } :=
    PerPan.get_set_same ..
  have hch : ∀ r, (report r (reportFault .lowerTimeout (some p) none (s.modPan p fun c => { c with lowerFired := true }))).ch p
      = { s.ch p with lowerFired := true } := fun r => (report_ch ..).trans ((reportFault_ch ..).trans hfired)
  have hexp : ∃ t, lowerExpires p s = endJob p (.failed (.fault .lowerTimeout)) t
      ∧ t.ch p = { s.ch p with lowerFired := true } ∧ t.fault = s.captured .lowerTimeout (some p) none ∧ t.bsc = s.bsc
      ∧ Touches s t p :=
    ⟨_, rfl, hch _, (report_fault ..).trans ((reportFault_captures ..).trans (modPan_captured ..)),
      (report_bsc ..).trans (reportFault_bsc ..),
      ((touches_modPan ..).trans (touches_reportFault ..)).trans (touches_report ..)⟩
  obtain ⟨t, hexp, hch, hfault, hbsc, htouch⟩ := hexp
  rw [hexp, endJob_ch, endJob_fault, endJob_bsc, hfault, hbsc, endedWith_state, (endedWith_fields ..).1, hch]
  refine ⟨rfl, rfl, endedWith_job .., fun src op h => ?_, fun h => ?_, rfl, rfl, htouch.trans (touches_endJob ..)⟩
  · exact endedWith_result (c := { s.ch p with lowerFired := true }) h _
  · rw [(endedWith_eq_self (c := { s.ch p with lowerFired := true })).2 h]

/-- Settles O47. -/
theorem pantographLimitsAct : Obligations.PantographLimitsAct := by
  intro p s
  refine ⟨fun hdue => ?settle, fun hdue => ?raise, fun hdue => ?contact, fun hdue => ?lower⟩
  case settle =>
    have hexec : exec (.settleComplete p) s = .next (settle (settleEnds p s)) := atLimit_due hdue _ _
    obtain ⟨c, longOps, reports, heq, hstate, hrole, hjob⟩ := settleEnds_eq p s
    rw [heq] at hexec
    have hch : s.pch.get p = s.ch p := rfl
    have hset : (s.pch.set p c).get p = c := PerPan.get_set_same ..
    exact ⟨_, hexec, (congrArg Channel.state hset).trans hstate, (congrArg Channel.role hset).trans hrole,
      fun src d h => ⟨(congrArg Channel.job hset).trans (hjob src d h).1,
        (congrArg Channel.lastResult hset).trans (hjob src d h).2⟩,
      fun q hq => PerPan.get_set_ne _ _ hq, raises_of_lnk rfl, rfl⟩
  case raise =>
    have hexec : exec (.raiseTimeout p) s = .next (settle (raiseExpires p s)) := atLimit_due hdue _ _
    obtain ⟨hstate, hcmd, hraise, hlower, hfault, hbsc, htouch⟩ := raiseExpires_limit p s
    obtain ⟨hother, hmap, hseq, hcfg, -⟩ := htouch.fields
    exact ⟨_, hexec, hstate, hcmd, hraise, hlower, record_of_captured hfault, hother, hbsc, hmap, hseq, hcfg⟩
  case contact =>
    have hexec : exec (.contactLost p) s = .next (settle (contactLost p s)) := atLimit_due hdue _ _
    obtain ⟨hstate, hjob, hlast, hfault, hbreaker, htouch⟩ := contactLost_limit p s
    obtain ⟨hother, hmap, hseq, hcfg, -⟩ := htouch.fields
    refine ⟨_, hexec, hstate, hjob, hlast, fun h => ?_, hbreaker, hother, hmap, hseq, hcfg⟩
    obtain ⟨r, hr, hkind, hpan, htime, -⟩ := record_of_captured hfault h
    exact ⟨r, hr, hkind, hpan, htime⟩
  case lower =>
    have hexec : exec (.lowerTimeout p) s = .next (settle (lowerExpires p s)) := atLimit_due hdue _ _
    obtain ⟨hstate, hrole, hjob, hlast, hnone, hfault, hbsc, htouch⟩ := lowerExpires_limit p s
    obtain ⟨hother, hmap, hseq, hcfg, -⟩ := htouch.fields
    have hlowering : (s.ch p).state = .lowering := by
      simp only [State.lowerDue, Bool.and_eq_true, decide_eq_true_eq] at hdue
      exact hdue.1.1
    refine ⟨_, hexec, hstate.trans hlowering, hjob, hrole, hlast, hnone, fun h => ?_, hother, hbsc, hmap, hseq, hcfg⟩
    obtain ⟨r, hr, hkind, hpan, htime, -⟩ := record_of_captured hfault h
    exact ⟨r, hr, hkind, hpan, htime⟩

end LimitRows

end Sys2Proof.Machine

/-! ### The disconnector's feedback and its move limit (R52) -/

namespace Sys2Proof.Machine

section Disconnector

variable {s : State} {p : Pan} {out : OpOutcome} {c : Channel} {src : Source} {q : DiscPos}

theorem endDiscJob_of_move (hj : (s.ch p).job = some ⟨src, .discMove q⟩) (out : OpOutcome) :
    endDiscJob p out s = endJob p out s := by
  unfold endDiscJob
  rw [hj]

theorem endDiscJob_of_other (hj : ∀ src q, (s.ch p).job ≠ some ⟨src, .discMove q⟩) (out : OpOutcome) :
    endDiscJob p out s = s := by
  unfold endDiscJob
  split
  · next src q h => exact absurd h (hj src q)
  all_goals rfl

/-- The end of a DISC_MOVE in place, which raises PAN; another operation stands (R52, R57). -/
theorem endDiscJob_ends (p : Pan) (out : OpOutcome) (s : State) : ∃ c cs longOps reports, endDiscJob p out s = { s with
    pch := s.pch.set p c, lnk := raiseAll cs s.lnk, longOps := longOps, reports := reports }
    ∧ (cs = [] ∨ cs = [.pan]) ∧ c.disc = (s.ch p).disc ∧ c.state = (s.ch p).state
    ∧ (∀ src q, (s.ch p).job = some ⟨src, .discMove q⟩ → c.job = none ∧ c.lastResult = some ⟨src, .discMove q, out⟩)
    ∧ ((∀ src q, (s.ch p).job ≠ some ⟨src, .discMove q⟩) →
        c.job = (s.ch p).job ∧ c.lastResult = (s.ch p).lastResult) := by
  by_cases hj : ∃ src q, (s.ch p).job = some ⟨src, .discMove q⟩
  · obtain ⟨src, q, hj⟩ := hj
    have hdisc : ((s.ch p).endedWith out).disc = (s.ch p).disc := by
      unfold Channel.endedWith
      split <;> rfl
    have hcauses : (s.ch p).endCauses = [] ∨ (s.ch p).endCauses = [.pan] := by
      unfold Channel.endCauses
      split
      · exact .inl rfl
      · exact .inr rfl
    exact ⟨_, _, _, _, (endDiscJob_of_move hj out).trans (endJob_form ..), hcauses, hdisc, endedWith_state ..,
      fun src' q' h => ⟨endedWith_job .., endedWith_result h _⟩, fun h => absurd hj (h src q)⟩
  · have hother : ∀ src q, (s.ch p).job ≠ some ⟨src, .discMove q⟩ := fun src q h => hj ⟨src, q, h⟩
    have hset : s.pch.set p (s.ch p) = s.pch := PerPan.set_get ..
    have heq : endDiscJob p out s = { s with
        pch := s.pch.set p (s.ch p), lnk := raiseAll [] s.lnk, longOps := s.longOps, reports := s.reports } := by
      rw [hset, raiseAll_nil, endDiscJob_of_other hother]
    exact ⟨_, _, _, _, heq, .inl rfl, rfl, rfl, fun src q h => absurd h (hother src q), fun _ => ⟨rfl, rfl⟩⟩

/-- PAN at the end of an operation after a PAN of the disconnector is one PAN. -/
theorem raiseAll_pan_append {cs ds : List Notice} (h : cs = [] ∨ cs = [.pan]) (v : PerLink Port) :
    raiseAll cs (raiseAll (.pan :: ds) v) = raiseAll (.pan :: ds) v := by
  rw [raiseAll_raiseAll]
  refine raiseAll_congr ?_ v
  rw [causeBits_append]
  obtain rfl | rfl := h
  · exact BitVec.or_zero
  · have hcons : ∀ xs, causeBits (Notice.pan :: xs) = Notice.pan.bit ||| causeBits xs := fun _ => rfl
    rw [hcons, hcons, BitVec.or_comm, ← BitVec.or_assoc]
    simp only [causeBits, List.foldr, BitVec.or_zero, BitVec.or_self]

/-- The end of a disconnector move at the position sought (R52). -/
theorem discRests_ends (p : Pan) (q : DiscPos) (s : State) : ∃ c longOps reports, discRests p q s = { s with
    pch := s.pch.set p c, lnk := raiseAll [.pan] s.lnk, longOps := longOps, reports := reports }
    ∧ c.disc = .resting q ∧ c.state = (s.ch p).state
    ∧ ∀ src q, (s.ch p).job = some ⟨src, .discMove q⟩ → c.job = none ∧ c.lastResult = some ⟨src, .discMove q, .done⟩ := by
  obtain ⟨t, ht⟩ : ∃ t, t = changePan p (fun c => { c with disc := .resting q }) s := ⟨_, rfl⟩
  have hends : discRests p q s = endDiscJob p .done t := by
    rw [ht]
    rfl
  rw [changePan_eq] at ht
  have hch : t.ch p = { s.ch p with disc := .resting q } := by
    rw [ht]
    exact PerPan.get_set_same ..
  obtain ⟨c, cs, longOps, reports, heq, hcs, hdisc, hstate, hjob, -⟩ := endDiscJob_ends p .done t
  rw [hch] at hdisc hstate hjob
  rw [ht] at heq
  simp only [PerPan.set_set, raiseAll_pan_append hcs] at heq
  rw [← ht] at heq
  exact ⟨c, longOps, reports, hends.trans heq, hdisc, hstate, hjob⟩

/-- A disconnector that has not come to its position in 2000 ms (R52). -/
theorem discExpires_fails (h : s.lines.discFb.get p ≠ some q) : ∃ c longOps reports, discExpires p q s = { s with
    pch := s.pch.set p c, fault := s.captured .disconnectorFail (some p) none
    lnk := raiseAll [.pan, .fault] s.lnk, longOps := longOps, reports := reports }
    ∧ c.disc = .failed ∧ c.state = (s.ch p).state
    ∧ (∀ src r, (s.ch p).job = some ⟨src, .discMove r⟩ →
        c.job = none ∧ c.lastResult = some ⟨src, .discMove r, .failed (.fault .disconnectorFail)⟩)
    ∧ ((∀ src r, (s.ch p).job ≠ some ⟨src, .discMove r⟩) →
        c.job = (s.ch p).job ∧ c.lastResult = (s.ch p).lastResult) := by
  have hfail : ∃ t, discExpires p q s = endDiscJob p (.failed (.fault .disconnectorFail)) t ∧ t = { s with
      pch := s.pch.set p { s.ch p with disc := .failed }, fault := s.captured .disconnectorFail (some p) none
      lnk := raiseAll [.pan, .fault] s.lnk, reports := s.reports ++ [.fault .disconnectorFail (some p)] } := by
    refine ⟨_, if_neg h, ?_⟩
    rw [reportFault_eq, changePan_eq]
    simp only [raiseAll_raiseAll]
    rfl
  obtain ⟨t, hexp, ht⟩ := hfail
  have hch : t.ch p = { s.ch p with disc := .failed } := by
    rw [ht]
    exact PerPan.get_set_same ..
  obtain ⟨c, cs, longOps, reports, heq, hcs, hdisc, hstate, hjob, hother⟩ :=
    endDiscJob_ends p (.failed (.fault .disconnectorFail)) t
  rw [hch] at hdisc hstate hjob hother
  rw [ht] at heq
  simp only [PerPan.set_set, raiseAll_pan_append hcs] at heq
  rw [← ht] at heq
  exact ⟨c, longOps, reports, hexp.trans heq, hdisc, hstate, hjob, hother⟩

end Disconnector

section DisconnectorRows

variable {s : State} {p : Pan}

/-- Settles O48. -/
theorem disconnectorEvents : Obligations.DisconnectorEvents := by
  intro p s
  refine ⟨fun q hmove => ?rests, fun q r hrest hr => ?leaves, fun q hmove hdue hfb => ?fails⟩
  case rests =>
    generalize ht : (s.modLines fun x => { x with discFb := x.discFb.set p (some q) }) = t
    have hexec : exec (.disconnectorFeedback p (some q)) s = .next (settle (discReading p t)) := by
      rw [← ht]
      rfl
    have hch : t.ch p = s.ch p := by rw [← ht]; rfl
    have hread : discReading p t = discRests p q t := by
      unfold discReading
      rw [hch, hmove, ← ht]
      exact if_pos (PerPan.get_set_same ..)
    obtain ⟨c, longOps, reports, heq, hdisc, hstate, hjob⟩ := discRests_ends p q t
    rw [hch] at hstate hjob
    rw [hread, heq] at hexec
    have hset : (t.pch.set p c).get p = c := PerPan.get_set_same ..
    refine ⟨_, hexec, (congrArg Channel.disc hset).trans hdisc, (congrArg Channel.state hset).trans hstate, ?_,
      fun src h => ⟨(congrArg Channel.job hset).trans (hjob src q h).1,
        (congrArg Channel.lastResult hset).trans (hjob src q h).2⟩, raises_of_lnk ?_, fun r hr => ?_, ?_, ?_⟩
    · rw [← ht]; rfl
    · rw [← ht]; rfl
    · rw [← ht]; exact PerPan.get_set_ne _ _ hr
    · rw [← ht]; rfl
    · rw [← ht]; rfl
  case leaves =>
    generalize ht : (s.modLines fun x => { x with discFb := x.discFb.set p r }) = t
    have hexec : exec (.disconnectorFeedback p r) s = .next (settle (discReading p t)) := by
      rw [← ht]
      rfl
    have hch : t.ch p = s.ch p := by rw [← ht]; rfl
    have hget : t.lines.discFb.get p = r := by rw [← ht]; exact PerPan.get_set_same ..
    have hread : discReading p t = { t with
        fault := t.captured .disconnectorFail (some p) none, lnk := raiseAll [.fault, .pan] t.lnk
        reports := t.reports ++ [.fault .disconnectorFail (some p)] } := by
      unfold discReading
      rw [hch, hrest]
      dsimp only
      rw [hget, if_neg hr, notice_eq, reportFault_eq]
      simp only [raiseAll_raiseAll]
      rfl
    rw [hread] at hexec
    refine ⟨_, hexec, ?_, raises_of_lnk ?_, fun h => ?_, ?_⟩
    · rw [← ht]; rfl
    · rw [← ht]; rfl
    · have hnone : t.fault = none := by rw [← ht]; exact h
      exact ⟨_, captured_of_none hnone, rfl, rfl⟩
    · rw [← ht]; rfl
  case fails =>
    have hlimit : discLimit p s = discExpires p q s := by
      unfold discLimit
      rw [hmove]
    have hexec : exec (.discMoveTimeout p) s = .next (settle (discLimit p s)) := atLimit_due hdue _ _
    obtain ⟨c, longOps, reports, heq, hdisc, hstate, hjob, hother⟩ := discExpires_fails hfb
    rw [hlimit, heq] at hexec
    have hset : (s.pch.set p c).get p = c := PerPan.get_set_same ..
    refine ⟨_, hexec, (congrArg Channel.disc hset).trans hdisc, (congrArg Channel.state hset).trans hstate,
      fun src r h => ⟨(congrArg Channel.job hset).trans (hjob src r h).1,
        (congrArg Channel.lastResult hset).trans (hjob src r h).2⟩,
      fun h => ⟨(congrArg Channel.job hset).trans (hother h).1, (congrArg Channel.lastResult hset).trans (hother h).2⟩,
      (raises_of_lnk rfl).congr fun _ => by decide, fun h => ?_, fun r hr => PerPan.get_set_ne _ _ hr, rfl⟩
    exact ⟨_, captured_of_none h, rfl, rfl⟩

end DisconnectorRows

end Sys2Proof.Machine

/-! ### The breaker: its feedback, its limits and its interlock (R78 to R83, R137) -/

namespace Sys2Proof.Machine

section Breaker

variable {s t u : State} {b : Breaker}

/-- The entry into CLOSED or OPEN ends the operations that wait for it (R78, R82, R89). -/
theorem setBreaker_rests (hother : s.bsc.breaker ≠ b) (hb : b ≠ .failed) : setBreaker b s = { s with
    bsc := { s.bsc with
      breaker := b, reclose := if b = .closed then false else s.bsc.reclose, breakerResult := s.breakerEnds b }
    lnk := raiseAll [.breaker] s.lnk
    longOps := s.longOps.filter fun o => (breakerOutcome o.kind b).isNone } := by
  rw [setBreaker_eq hother, if_neg hb, List.append_nil]

/-- OPEN read in CLOSED (R83). -/
theorem externalTrip_eq (hb : s.bsc.breaker = .closed) : externalTrip s = { s with
    bsc := { s.bsc with breaker := .opened, reclose := false, traction := false, breakerResult := s.breakerEnds .opened }
    lnk := raiseAll (.breaker :: if s.bsc.traction then [.breaker] else []) s.lnk
    longOps := s.longOps.filter fun o => (breakerOutcome o.kind .opened).isNone } := by
  have hother : s.bsc.breaker ≠ .opened := by rw [hb]; exact fun h => nomatch h
  rw [externalTrip, setBreaker_rests hother (fun h => nomatch h), clearTraction_eq]
  simp only [raiseAll_raiseAll, List.singleton_append]

/-- A breaker that has not closed in 300 ms (R82). -/
theorem closeLimit_fails (hb : s.bsc.breaker = .closing) (hfb : s.lines.breakerFb ≠ .closed) :
    ∃ bsc, closeLimit s = { s with
      bsc := bsc, fault := s.captured .breakerFailClose none none, lnk := raiseAll [.fault, .breaker] s.lnk
      longOps := s.longOps.filter fun o =>
        (breakerOutcome o.kind (if s.lines.breakerFb = .opened then .opened else .failed)).isNone
      reports := s.reports ++ (if s.lines.breakerFb = .opened then [.fault .breakerFailClose none]
        else [.fault .breakerFailClose none, .breakerFailed]) }
    ∧ bsc.breaker = if s.lines.breakerFb = .opened then .opened else .failed := by
  have hother : ∀ b, b ≠ .closing → (reportFault .breakerFailClose none none s).bsc.breaker ≠ b := fun b h => by
    rw [reportFault_bsc, hb]
    exact h.symm
  unfold closeLimit
  cases hr : s.lines.breakerFb with
  | closed => exact absurd hr hfb
  | opened =>
    rw [setBreaker_eq (hother .opened (fun h => nomatch h)), reportFault_eq]
    simp only [raiseAll_raiseAll, reduceCtorEq, if_true, if_false, List.append_nil]
    exact ⟨_, rfl, rfl⟩
  | invalid =>
    rw [setBreaker_eq (hother .failed (fun h => nomatch h)), reportFault_eq]
    simp only [raiseAll_raiseAll, reduceCtorEq, if_true, if_false, List.append_assoc]
    exact ⟨_, rfl, rfl⟩

/-- A breaker that has not opened in 300 ms (R82). -/
theorem openLimit_fails (hfb : s.lines.breakerFb ≠ .opened) :
    openLimit s = reportFault .breakerFailOpen none none (setBreaker .failed s) := by
  unfold openLimit
  cases hr : s.lines.breakerFb with
  | opened => exact absurd hr hfb
  | closed => rfl
  | invalid => rfl

/-- What the open limit leaves (R82): FAILED, then the fault, which shows FAILED. -/
theorem openLimit_reports (hb : s.bsc.breaker = .opening) (hfb : s.lines.breakerFb ≠ .opened) :
    ∃ bsc f, openLimit s = { s with
      bsc := bsc, fault := f, lnk := raiseAll [.breaker, .fault] s.lnk
      longOps := s.longOps.filter fun o => (breakerOutcome o.kind .failed).isNone
      reports := s.reports ++ [.breakerFailed, .fault .breakerFailOpen none] }
    ∧ bsc.breaker = .failed ∧ (s.fault = none → ∃ r, f = some r ∧ r.kind = .breakerFailOpen ∧ r.breaker = .failed) := by
  have hother : s.bsc.breaker ≠ .failed := by rw [hb]; exact fun h => nomatch h
  rw [openLimit_fails hfb, setBreaker_eq hother, reportFault_eq]
  simp only [raiseAll_raiseAll, if_pos, List.append_assoc]
  refine ⟨_, _, rfl, rfl, fun h => ?_⟩
  unfold State.captured
  dsimp only
  rw [h]
  exact ⟨_, rfl, rfl, rfl⟩

/-! ROOF_SAFE at the event of a failed breaker (R82, R137). -/

theorem roofSafe_mode (s : State) : (roofSafe s).seq.mode = .roofSafe := by
  unfold roofSafe
  split
  · next h => exact h
  · have hmode : ∀ t : State, (notice .roofSafe (t.modSeq fun q => { q with mode := .roofSafe })).seq.mode = .roofSafe :=
      fun t => by
        rw [notice_eq]
        rfl
    have hkept : ∀ t, Kept t ((returnAll (cancelSequence .roofSafe (iceRoofSafe (forPans protectiveLower
        (clearTraction (openRequest t)))))).setIceEval true) := fun t =>
      Kept.setIceEval (Kept.returnAll (Kept.cancelSequence (Kept.iceRoofSafe (Kept.forPans
        (((Kept.refl t).openRequest).clearTraction) fun p u => (Kept.refl u).protectiveLower p)) _)) _
    exact (hkept _).safe (hmode _)

theorem reactLoop_report {ws : List (State → Option State)} {r : Report} {rest : List Report} (h : s.reports = r :: rest)
    (n : Nat) : reactLoop ws (n + 1) s = reactLoop ws n (seqReport r (iceReport r (s.setReports rest))) := by
  rw [reactLoop]
  unfold reactWith
  rw [h]

/-- ROOF_SAFE stands through the reactions and attention. -/
theorem roofSafe_of_reacted {n : Nat} (h : t.seq.mode = .roofSafe) :
    (attend (reactLoop watchers n t)).seq.mode = .roofSafe :=
  ((watchers_keep.reactLoop (Kept.refl t) n).attend).safe h

/-- A breaker that fails puts the roof in ROOF_SAFE at the same event. -/
theorem settle_of_breakerFailed {rest : List Report} (h : u.reports = .breakerFailed :: rest) :
    (settle u).seq.mode = .roofSafe := by
  rw [settle, reactBound, reactLoop_report h]
  exact roofSafe_of_reacted (roofSafe_mode _)

/-- The fault of a failed close comes before it, and SEQ notes it (R131). -/
theorem settle_of_closeFailed (h : u.reports = [.fault .breakerFailClose none, .breakerFailed]) :
    (settle u).seq.mode = .roofSafe := by
  have hreports : (seqCloseFailed (u.setReports [.breakerFailed])).reports = [.breakerFailed] := rfl
  rw [settle, reactBound, reactLoop_report h]
  refine (congrArg (fun t => (attend t).seq.mode) (reactLoop_report hreports _)).trans ?_
  exact roofSafe_of_reacted (roofSafe_mode _)

/-- The close interlock (R80). -/
theorem interlock_iff (s : State) : s.interlock = true ↔ (∃ p, (s.ch p).state = .raised ∧ (s.ch p).role = some .collecting)
    ∧ (∃ y, s.bsc.selector = .rest (.sys y) ∧ s.ldet.detected = .raw (.sys y)) ∧ s.seq.mode ≠ .roofSafe
    ∧ s.lines.earthed = false := by
  have hraised : s.collectorRaised.isSome = true ↔ ∃ p, (s.ch p).state = .raised ∧ (s.ch p).role = some .collecting := by
    rw [Option.isSome_iff_ne_none, ne_eq, collectorRaised_eq_none_iff, not_not]
  have hsystem : (match s.systemPosition with
      | some y => decide (s.ldet.detected = .raw (.sys y))
      | none => false) = true ↔ ∃ y, s.bsc.selector = .rest (.sys y) ∧ s.ldet.detected = .raw (.sys y) := by
    simp only [← systemPosition_eq_some]
    cases s.systemPosition with
    | none => simp
    | some y => simp
  simp only [State.interlock, Bool.and_eq_true, decide_eq_true_eq, Bool.not_eq_true', State.earthed, hraised, and_assoc]
  exact and_congr_right fun _ => and_congr_left fun _ => hsystem

theorem demandClose_iff (b : Breaker) : b.demandClose = true ↔ b = .closed ∨ b = .closing := by
  cases b <;> simp [Breaker.demandClose]

end Breaker

section BreakerRows

variable {s : State}

/-- Settles O49. -/
theorem breakerEvents : Obligations.BreakerEvents := by
  intro s
  have hread : ∀ r, exec (.breakerFeedback r) s
      = .next (settle (breakerReading (s.modLines fun x => { x with breakerFb := r }))) := fun r => rfl
  refine ⟨fun hb => ?closes, fun hb => ?opens, fun hb => ⟨?trips, ?invalid⟩, fun r hb hr => ?leaves,
    fun hdue hfb => ?closeLimit, fun hdue hfb => ?openLimit, interlock_iff s, fun hb hlock => ?demand, fun h => ?stands⟩
  case closes =>
    have hexec := hread .closed
    generalize ht : (s.modLines fun x => { x with breakerFb := .closed }) = t at hexec
    have hbt : t.bsc.breaker = .closing := by rw [← ht]; exact hb
    have hreads : breakerReading t = setBreaker .closed t := by
      unfold breakerReading
      rw [hbt, ← ht]
      rfl
    rw [hreads, setBreaker_rests (b := .closed) (by rw [hbt]; exact fun h => nomatch h) (fun h => nomatch h)] at hexec
    refine ⟨_, hexec, rfl, rfl, ?_, raises_of_lnk ?_, ?_⟩ <;> rw [← ht] <;> rfl
  case opens =>
    have hexec := hread .opened
    generalize ht : (s.modLines fun x => { x with breakerFb := .opened }) = t at hexec
    have hbt : t.bsc.breaker = .opening := by rw [← ht]; exact hb
    have hreads : breakerReading t = setBreaker .opened t := by
      unfold breakerReading
      rw [hbt, ← ht]
      rfl
    rw [hreads, setBreaker_rests (b := .opened) (by rw [hbt]; exact fun h => nomatch h) (fun h => nomatch h)] at hexec
    refine ⟨_, hexec, rfl, ?_, raises_of_lnk ?_, ?_⟩ <;> rw [← ht] <;> rfl
  case trips =>
    have hexec := hread .opened
    generalize ht : (s.modLines fun x => { x with breakerFb := .opened }) = t at hexec
    have hbt : t.bsc.breaker = .closed := by rw [← ht]; exact hb
    have hreads : breakerReading t = externalTrip t := by
      unfold breakerReading
      rw [hbt, ← ht]
      rfl
    rw [hreads, externalTrip_eq hbt] at hexec
    refine ⟨_, hexec, rfl, rfl, rfl, (raises_of_lnk (cs := .breaker :: if s.bsc.traction then [.breaker] else [])
      ?_).congr fun _ => ?_, ?_⟩
    · rw [← ht]; rfl
    · split
      · exact causeBits_cons_cons ..
      · rfl
    · rw [← ht]; rfl
  case invalid =>
    have hexec := hread .invalid
    generalize ht : (s.modLines fun x => { x with breakerFb := .invalid }) = t at hexec
    have hbt : t.bsc.breaker = .closed := by rw [← ht]; exact hb
    have hreads : breakerReading t = openRequest t := by
      unfold breakerReading
      rw [hbt, ← ht]
      rfl
    rw [hreads, openRequest_opens (.inl hbt)] at hexec
    refine ⟨_, hexec, rfl, ?_, ?_, ?_⟩ <;> rw [← ht] <;> rfl
  case leaves =>
    have hexec := hread r
    generalize ht : (s.modLines fun x => { x with breakerFb := r }) = t at hexec
    have hbt : t.bsc.breaker = .opened := by rw [← ht]; exact hb
    have hreads : breakerReading t = startOpening t := by
      unfold breakerReading
      rw [hbt, ← ht]
      cases r with
      | opened => exact absurd rfl hr
      | closed => rfl
      | invalid => rfl
    rw [hreads, startOpening_eq (by rw [hbt]; exact fun h => nomatch h)] at hexec
    refine ⟨_, hexec, rfl, ?_, ?_⟩ <;> rw [← ht] <;> rfl
  case closeLimit =>
    have hexec : exec .breakerCloseTimeout s = .next (settle (closeLimit s)) := atLimit_due hdue _ _
    have hb : s.bsc.breaker = .closing := by
      simp only [State.closeDue, Bool.and_eq_true, decide_eq_true_eq] at hdue
      exact hdue.1
    obtain ⟨bsc, heq, hbreaker⟩ := closeLimit_fails hb hfb
    rw [heq] at hexec
    refine ⟨_, hexec, hbreaker, fun h => ⟨_, captured_of_none h, rfl, hb⟩, rfl, rfl, rfl, fun hnone hfail => ?_⟩
    refine settle_of_closeFailed ?_
    dsimp only
    rw [hnone, if_neg hfail]
    rfl
  case openLimit =>
    have hexec : exec .breakerOpenTimeout s = .next (settle (openLimit s)) := atLimit_due hdue _ _
    have hb : s.bsc.breaker = .opening := by
      simp only [State.openDue, Bool.and_eq_true, decide_eq_true_eq] at hdue
      exact hdue.1
    obtain ⟨bsc, f, heq, hbreaker, hfault⟩ := openLimit_reports hb hfb
    rw [heq] at hexec
    refine ⟨_, hexec, hbreaker, hfault, rfl, rfl, rfl, fun hnone => ?_⟩
    refine settle_of_breakerFailed (rest := [.fault .breakerFailOpen none]) ?_
    dsimp only
    rw [hnone]
    rfl
  case demand =>
    have hwatch : watchDemand s = some (openRequest s) := by
      unfold watchDemand
      rw [(demandClose_iff _).2 hb, hlock]
      rfl
    rw [openRequest_opens hb] at hwatch
    exact ⟨_, hwatch, rfl, rfl, raises_of_lnk rfl, rfl, rfl, rfl, rfl⟩
  case stands =>
    unfold watchDemand
    rw [if_neg]
    rw [Bool.and_eq_true, demandClose_iff]
    obtain hlock | ⟨hclosed, hclosing⟩ := h
    · rw [hlock]
      exact fun h => nomatch h.2
    · rintro ⟨h | h, -⟩
      · exact hclosed h
      · exact hclosing h

end BreakerRows

end Sys2Proof.Machine

/-! ### Arc pulses and temperature samples (R143 to R146) -/

namespace Sys2Proof.Machine

section Pulses

variable {s : State} {v : PulseState} {now w us : Nat}

theorem pulse_goesInactive (v : PulseState) (now : Nat) :
    v.after now .goesInactive = .inactive ∧ v.accepts now .goesInactive = false := ⟨rfl, rfl⟩

theorem pulse_goesActive (v : PulseState) (now : Nat) : v.accepts now .goesActive = false := rfl

/-- A pulse input that is judged by a width has not been active for it (R3, R143). -/
theorem pulse_short (hw : v = .active w ∨ v = .inactive ∧ w = now) (h : us < w) :
    v.after now (.activeFor us) = .active w ∧ v.accepts now (.activeFor us) = false := by
  obtain rfl | ⟨rfl, rfl⟩ := hw <;> exact ⟨if_neg (Nat.not_le.2 h), decide_eq_false (Nat.not_le.2 h)⟩

/-- A pulse input that has been active for the width that judges it (R3, R143). -/
theorem pulse_long (hw : v = .active w ∨ v = .inactive ∧ w = now) (h : w ≤ us) :
    v.after now (.activeFor us) = .accepted ∧ v.accepts now (.activeFor us) = true := by
  obtain rfl | ⟨rfl, rfl⟩ := hw <;> exact ⟨if_pos h, decide_eq_true h⟩

/-- An event of an arc pulse input that accepts no pulse (R143). -/
theorem arcPulse_passes {p : Pan} {x : PulseLine} (h : (s.lines.arcPulse.get p).accepts s.cfg.items.arcMinWidth x = false)
    (hafter : (s.lines.arcPulse.get p).after s.cfg.items.arcMinWidth x = v) :
    exec (.arcPulse p x) s = .next { s with lines := { s.lines with arcPulse := s.lines.arcPulse.set p v } } := by
  have hexec : exec (.arcPulse p x) s = execArcPulse p x s := rfl
  rw [hexec, execArcPulse, h, hafter]
  rfl

/-- An event that leaves its input as it is (R143). -/
theorem arcPulse_stands {p : Pan} {x : PulseLine} (h : (s.lines.arcPulse.get p).accepts s.cfg.items.arcMinWidth x = false)
    (hafter : (s.lines.arcPulse.get p).after s.cfg.items.arcMinWidth x = s.lines.arcPulse.get p) :
    exec (.arcPulse p x) s = .next s := by
  rw [arcPulse_passes h hafter, PerPan.set_get]

/-- An accepted arc pulse (R143). -/
theorem arcPulse_accepts {p : Pan} {x : PulseLine} (h : (s.lines.arcPulse.get p).accepts s.cfg.items.arcMinWidth x = true)
    (hafter : (s.lines.arcPulse.get p).after s.cfg.items.arcMinWidth x = v) :
    exec (.arcPulse p x) s
      = .next (settle (countArc p { s with lines := { s.lines with arcPulse := s.lines.arcPulse.set p v } })) := by
  have hexec : exec (.arcPulse p x) s = execArcPulse p x s := rfl
  rw [hexec, execArcPulse, h, hafter]
  rfl

theorem countArc_counts {p : Pan} (h : (s.ch p).state = .settling ∨ (s.ch p).state = .raised) :
    countArc p s = { s with ice := { s.ice with arcs := s.ice.arcs.set p (s.ice.arcs.get p).count } } := by
  unfold countArc
  exact if_pos (by simpa using h)

theorem countArc_discards {p : Pan} (h1 : (s.ch p).state ≠ .settling) (h2 : (s.ch p).state ≠ .raised) :
    countArc p s = s := by
  unfold countArc
  exact if_neg (by simp [h1, h2])

end Pulses

section Temperature

variable {s t u : State}

theorem relevel_fields (before : Bool) (now : Time) (i : Ice) : ∃ start reached,
    i.relevel before now = { i with releaseStart := start, releaseReached := reached } := by
  unfold Ice.relevel
  split
  · exact ⟨i.releaseStart, _, rfl⟩
  · split
    · exact ⟨_, _, rfl⟩
    · exact ⟨i.releaseStart, i.releaseReached, rfl⟩

/-- A temperature sample moves the run and the release timer (R146). -/
theorem sample_fields (band : Bool) (now : Time) (i : Ice) : ∃ start reached, i.sample band now = { i with
    run := if band then min Config.runLevel1 (i.run + 1) else 0, releaseStart := start, releaseReached := reached } := by
  unfold Ice.sample
  generalize (if band = true then min Config.runLevel1 (i.run + 1) else 0) = run
  obtain ⟨start, reached, h⟩ := relevel_fields i.level1 now { i with run := run }
  rw [h]
  dsimp only
  split
  · exact ⟨_, _, rfl⟩
  · exact ⟨_, _, rfl⟩

theorem tempFault_first {before : TempState} (hb : before = .starting ∨ before = .valid) (s : State) :
    tempFault before s = notice .sensor (reportFault .tempSensor none none s) := by
  obtain rfl | rfl := hb <;> rfl

theorem tempFault_again {before : TempState} (hb : ¬ (before = .starting ∨ before = .valid)) (s : State) :
    tempFault before s = s := by
  cases before with
  | starting => exact absurd (.inl rfl) hb
  | valid => exact absurd (.inr rfl) hb
  | invalid => rfl
  | stale => rfl

@[simp] theorem tempFault_ice (before : TempState) (s : State) : (tempFault before s).ice = s.ice := by
  by_cases hb : before = .starting ∨ before = .valid
  · rw [tempFault_first hb, notice_ice, reportFault_ice]
  · rw [tempFault_again hb]

/-- The fault of a first invalid word (R145). -/
theorem tempFault_fills {before : TempState} (h : s.fault = none) (hb : before = .starting ∨ before = .valid) :
    ∃ f, (tempFault before s).fault = some f ∧ f.kind = .tempSensor := by
  rw [tempFault_first hb, notice_fault, reportFault_captures]
  exact ⟨_, captured_of_none h, rfl⟩

/-- The temperature and the run stand through the reactions to an event. -/
theorem settle_temperature (u : State) : (settle u).ice.tempState = u.ice.tempState ∧ (settle u).ice.temp = u.ice.temp
    ∧ (settle u).ice.tempAt = u.ice.tempAt ∧ (settle u).ice.subAt = u.ice.subAt ∧ (settle u).ice.run = u.ice.run
    ∧ (settle u).ice.weather = u.ice.weather := by
  have hstill := settle_still u
  simp only [State.still, State.mk.injEq, Ice.still, Ice.mk.injEq] at hstill
  obtain ⟨-, -, -, -, -, -, -, -, -, -, ⟨-, -, -, -, hstate, htemp, hat, hsub, hrun, hweather, -⟩, -⟩ := hstill
  exact ⟨hstate, htemp, hat, hsub, hrun, hweather⟩

/-- An invalid word, a stale line and a substitute sample count as in band (R145, R146). -/
theorem settle_inBand {now : Time} (i : Ice) (hu : u.ice = i.sample true now) : (settle u).ice.tempState = i.tempState
    ∧ (settle u).ice.temp = i.temp ∧ (settle u).ice.tempAt = i.tempAt ∧ (settle u).ice.subAt = i.subAt
    ∧ (settle u).ice.run = min 60 (i.run + 1) := by
  obtain ⟨hstate, htemp, hat, hsub, hrun, -⟩ := settle_temperature u
  obtain ⟨start, reached, hsample⟩ := sample_fields true now i
  rw [hu, hsample] at hstate htemp hat hsub hrun
  exact ⟨hstate, htemp, hat, hsub, hrun⟩

theorem validTemp_iff (x : Int) : validTemp x = true ↔ -500 ≤ x ∧ x ≤ 800 := by
  unfold validTemp
  rw [Bool.and_eq_true, decide_eq_true_eq, decide_eq_true_eq]
  rfl

theorem inBand_iff {x : Int} (h : validTemp x = true) : inBand x = true ↔ -100 ≤ x ∧ x ≤ 20 := by
  unfold inBand
  rw [h, Bool.not_true, Bool.false_or, Bool.and_eq_true, decide_eq_true_eq, decide_eq_true_eq]
  rfl

/-- The sample of an invalid word (R145). -/
theorem takeTemp_invalid {x : Int} (h : validTemp x = false) : takeTemp x s = (tempFault s.ice.tempState
    (s.modIce fun i => { i with tempState := .invalid, tempAt := s.now })).modIce (·.sample true s.now) := by
  unfold takeTemp
  rw [h]
  rfl

end Temperature

section ArcAndTemperatureRows

variable {s : State}

/-- Settles O52. -/
theorem arcsAndTemperaturesCount : Obligations.ArcsAndTemperaturesCount := by
  intro s
  refine ⟨fun p us => ⟨?inactive, fun hacc => ⟨?again, ?still⟩, fun hin => ?active, fun w hw => ?held,
    fun w hw => ⟨fun hus => ?short, fun hus hst => ?counts, fun hus h1 h2 => ?discards⟩⟩, ?bin, fun x hlow hhigh => ?valid,
    fun x hx => ?invalid, fun hdue => ?stale, fun hdue => ?substitute⟩
  case inactive => exact arcPulse_passes (pulse_goesInactive ..).2 (pulse_goesInactive ..).1
  case again =>
    refine arcPulse_stands (pulse_goesActive ..) ?_
    rw [hacc]
    rfl
  case still =>
    refine arcPulse_stands ?_ ?_ <;> rw [hacc] <;> rfl
  case active =>
    refine arcPulse_passes (pulse_goesActive ..) ?_
    rw [hin]
    rfl
  case held =>
    refine arcPulse_stands (pulse_goesActive ..) ?_
    rw [hw]
    rfl
  case short => exact arcPulse_passes (pulse_short hw hus).2 (pulse_short hw hus).1
  case counts =>
    have hexec := arcPulse_accepts (pulse_long hw hus).2 (pulse_long hw hus).1
    generalize ht : ({ s with lines := { s.lines with arcPulse := s.lines.arcPulse.set p .accepted } } : State) = t at hexec
    have hstate : (t.ch p).state = .settling ∨ (t.ch p).state = .raised := by
      rw [← ht]
      exact hst
    rw [countArc_counts hstate, ← ht] at hexec
    have hring : (s.ice.arcs.set p (s.ice.arcs.get p).count).get p = (s.ice.arcs.get p).count := PerPan.get_set_same ..
    exact ⟨_, hexec, rfl, congrArg ArcRing.current hring, (congrArg ArcRing.completed hring).trans rfl, fun q hq => PerPan.get_set_ne _ _ hq, rfl⟩
  case discards =>
    have hexec := arcPulse_accepts (pulse_long hw hus).2 (pulse_long hw hus).1
    generalize ht : ({ s with lines := { s.lines with arcPulse := s.lines.arcPulse.set p .accepted } } : State) = t at hexec
    have hstate : (t.ch p).state = (s.ch p).state := by
      rw [← ht]
      rfl
    rw [countArc_discards (hstate ▸ h1) (hstate ▸ h2)] at hexec
    exact hexec
  case bin =>
    refine ⟨_, rfl, rfl, fun p => ?_, rfl⟩
    cases p <;> exact ⟨rfl, rfl⟩
  case valid =>
    have hvalid : validTemp x = true := (validTemp_iff x).2 ⟨hlow, hhigh⟩
    have htake : takeTemp x s = s.modIce fun i =>
        ({ i with tempState := .valid, temp := some x, tempAt := s.now }).sample (inBand x) s.now := by
      unfold takeTemp
      rw [hvalid]
      rfl
    obtain ⟨hstate, htemp, hat, -, hrun, hweather⟩ := settle_temperature (takeTemp x s)
    obtain ⟨start, reached, hsample⟩ := sample_fields (inBand x) s.now
      { s.ice with tempState := .valid, temp := some x, tempAt := s.now }
    have hice : (takeTemp x s).ice = _ := (congrArg State.ice htake).trans hsample
    rw [hice] at hstate htemp hat hrun hweather
    refine ⟨_, rfl, hstate, htemp, hat, hrun.trans ?_, hweather⟩
    dsimp only
    rw [if_congr (inBand_iff hvalid) rfl rfl]
    rfl
  case invalid =>
    have hinvalid : validTemp x = false := by
      rw [Bool.eq_false_iff, ne_eq, validTemp_iff]
      omega
    have hice : (takeTemp x s).ice = ({ s.ice with tempState := .invalid, tempAt := s.now } : Ice).sample true s.now := by
      rw [takeTemp_invalid hinvalid]
      exact congrArg (fun i => Ice.sample true s.now i) (tempFault_ice ..)
    obtain ⟨hstate, htemp, hat, -, hrun⟩ := settle_inBand _ hice
    refine ⟨_, rfl, hstate, htemp, hat, hrun, fun hnone hfirst => ?_⟩
    obtain ⟨f, hf, hkind⟩ := tempFault_fills
      (s := s.modIce fun i => { i with tempState := .invalid, tempAt := s.now }) hnone hfirst
    refine ⟨f, ((Kept.refl _).settle).fault f ?_, hkind⟩
    rw [takeTemp_invalid hinvalid]
    exact hf
  case stale =>
    have hexec : exec .tempStale s = .next (settle (tempGoesStale s)) := atLimit_due hdue _ _
    have hice : (tempGoesStale s).ice = ({ s.ice with tempState := .stale, subAt := s.now } : Ice).sample true s.now :=
      congrArg (fun i => Ice.sample true s.now i) (tempFault_ice ..)
    obtain ⟨hstate, htemp, -, hsub, hrun⟩ := settle_inBand _ hice
    exact ⟨_, hexec, hstate, htemp, hsub, hrun⟩
  case substitute =>
    have hexec : exec .tempSubstituteSample s = .next (settle (substitute s)) := atLimit_due hdue _ _
    have hstale : s.ice.tempState = .stale := by
      simp only [State.substituteDue, Bool.and_eq_true, decide_eq_true_eq] at hdue
      exact hdue.1
    have hice : (substitute s).ice = ({ s.ice with subAt := s.now } : Ice).sample true s.now := rfl
    obtain ⟨hstate, htemp, -, hsub, hrun⟩ := settle_inBand _ hice
    exact ⟨_, hexec, hstate.trans hstale, htemp, hsub, hrun⟩

end ArcAndTemperatureRows

end Sys2Proof.Machine

/-! ### The line detector's samples, its windows and the system check (R20 to R33, R85) -/

namespace Sys2Proof.Machine

section Tracker

variable {d : Detector} {x : Int}

theorem risingCross_iff (d : Detector) (x : Int) : risingCross d x = true ↔ d.lowSeen = true ∧ d.mRef + 500 ≤ x := by
  unfold risingCross
  rw [Bool.and_eq_true, decide_eq_true_eq]
  rfl

theorem countOn_some (n : Nat) : countOn (some n) = if n + 1 = 1023 then none else some (n + 1) := rfl

/-- A sample in the tracker, the window and its sums (R20 to R23). -/
theorem take_fields (x : Int) (d : Detector) : ∃ cross low w, d.take x = { d with
    lastCross := cross, lowSeen := low, win := w }
    ∧ w.n = d.win.n + 1 ∧ w.sum = d.win.sum + x ∧ w.sq = d.win.sq + (x * x).toNat
    ∧ (∀ e : Detector, e.lastCross = cross → e.lowSeen = low → d.Tracks e x w.periods w.pMin w.pMax) := by
  by_cases hcross : d.lowSeen = true ∧ d.mRef + 500 ≤ x
  · have hrise := (risingCross_iff d x).2 hcross
    unfold Detector.take endedPeriod Detector.track
    rw [if_pos hrise, if_pos hrise]
    cases hlast : d.lastCross with
    | none =>
      refine ⟨some 0, false, d.win.add x, rfl, rfl, rfl, rfl, fun e h1 h2 => ⟨fun _ => ⟨h1, h2, ?_, ?_⟩, ?_⟩⟩
      · exact fun n h => nomatch hlast.symm.trans h
      · exact fun _ => ⟨rfl, rfl, rfl⟩
      · exact fun h => absurd hcross h
    | some n =>
      rw [countOn_some]
      by_cases hn : n + 1 = 1023
      · rw [if_pos hn]
        refine ⟨some 0, false, d.win.add x, rfl, rfl, rfl, rfl, fun e h1 h2 => ⟨fun _ => ⟨h1, h2, ?_, ?_⟩, ?_⟩⟩
        · intro m h hm
          cases hlast.symm.trans h
          exact absurd hn hm
        · exact fun _ => ⟨rfl, rfl, rfl⟩
        · exact fun h => absurd hcross h
      · rw [if_neg hn]
        refine ⟨some 0, false, (d.win.record (n + 1)).add x, rfl, rfl, rfl, rfl,
          fun e h1 h2 => ⟨fun _ => ⟨h1, h2, ?_, ?_⟩, ?_⟩⟩
        · intro m h _
          cases hlast.symm.trans h
          unfold Window.record Window.add
          cases d.win.pMin <;> cases d.win.pMax <;> simp
        · rintro (h | h)
          · exact nomatch hlast.symm.trans h
          · cases hlast.symm.trans h
            exact absurd rfl hn
        · exact fun h => absurd hcross h
  · have hrise : ¬ risingCross d x = true := fun h => hcross ((risingCross_iff d x).1 h)
    unfold Detector.take endedPeriod Detector.track
    rw [if_neg hrise, if_neg hrise]
    refine ⟨_, _, d.win.add x, rfl, rfl, rfl, rfl, fun e h1 h2 => ⟨fun h => absurd h hcross, fun _ =>
      ⟨h1.trans ?_, h2, rfl, rfl, rfl⟩⟩⟩
    cases d.lastCross <;> rfl

end Tracker

section RawClass

variable {w : Window}

theorem rawClass_dead_iff (w : Window) : w.rawClass = .dead ↔ w.totalRms * 2 < 400 := by
  unfold Window.rawClass
  split
  · next h => exact iff_of_true rfl h
  · next h =>
    refine iff_of_false ?_ h
    unfold Window.acClass Window.dcClass
    dsimp only
    repeat' split
    all_goals exact fun h => nomatch h

theorem rawClass_ac (h : 400 ≤ w.totalRms * 2) (hp : 1 ≤ w.periods) (hac : 5000 ≤ w.acRms * 2) : w.rawClass = w.acClass := by
  unfold Window.rawClass
  rw [if_neg (Nat.not_lt.2 h), if_pos (by simp [hp, hac])]

theorem rawClass_dc (h : 400 ≤ w.totalRms * 2) (hdc : w.periods = 0 ∨ w.acRms * 2 < 5000) : w.rawClass = w.dcClass := by
  unfold Window.rawClass
  rw [if_neg (Nat.not_lt.2 h), if_neg]
  rw [Bool.and_eq_true, decide_eq_true_eq, decide_eq_true_eq]
  omega

theorem periodsIn_iff {lo hi m n : Nat} (hmin : w.pMin = some m) (hmax : w.pMax = some n) :
    w.periodsIn lo hi = true ↔ lo ≤ m ∧ n ≤ hi := by
  unfold Window.periodsIn
  rw [hmin, hmax]
  simp

/-- The class of an AC candidate (R27). -/
theorem acClass_eq {lo hi : Nat} (hmin : w.pMin = some lo) (hmax : w.pMax = some hi) : w.acClass =
    if 86 ≤ lo ∧ hi ≤ 106 ∧ 17500 ≤ w.acRms * 2 ∧ w.acRms * 2 ≤ 29000 ∧ w.mean.natAbs * 2 ≤ 1000 then .sys .ac25
    else if 250 ≤ lo ∧ hi ≤ 330 ∧ 11000 ≤ w.acRms * 2 ∧ w.acRms * 2 ≤ 18000 ∧ w.mean.natAbs * 2 ≤ 1000 then .sys .ac15
    else .unclassified := by
  unfold Window.acClass Window.centred
  simp only [Bool.and_eq_true, decide_eq_true_eq, periodsIn_iff hmin hmax, and_assoc]

/-- The class of a DC candidate (R28). -/
theorem dcClass_eq (w : Window) : w.dcClass =
    if 0 < w.mean ∧ (w.acRms : Int) * 8 ≤ w.mean ∧ 1000 ≤ w.mean * 2 ∧ w.mean * 2 ≤ 1950 then .sys .dc15
    else if 0 < w.mean ∧ (w.acRms : Int) * 8 ≤ w.mean ∧ 2000 ≤ w.mean * 2 ∧ w.mean * 2 ≤ 3900 then .sys .dc30
    else .unclassified := by
  unfold Window.dcClass
  by_cases h : 0 < w.mean ∧ (w.acRms : Int) * 8 ≤ w.mean
  · simp [h]
  · simp only [Bool.and_eq_true, decide_eq_true_eq, if_neg h]
    rw [if_neg (fun k => h ⟨k.1, k.2.1⟩), if_neg (fun k => h ⟨k.1, k.2.1⟩)]

end RawClass

section SystemCheck

variable {s t : State} {d : Detected} {y : LineSys}

theorem mismatches_iff (d : Detected) (y : LineSys) :
    mismatches d y = true ↔ d = .raw .unclassified ∨ ∃ z, z ≠ y ∧ d = .raw (.sys z) := by
  unfold mismatches
  split <;> simp

theorem mismatch_congr (h : s.Mismatch d) (hmap : t.map = s.map) (hsel : t.bsc.selector = s.bsc.selector) :
    t.Mismatch d := by
  rw [State.Mismatch, hmap, hsel]
  exact h

/-- A system that differs from the resting selector's position (R85). -/
theorem systemCheck_mismatch (h : s.Mismatch s.ldet.detected) : systemCheck s = { s with
    fault := s.captured .systemMismatch none none, lnk := raiseAll [.fault, .mismatch] s.lnk
    reports := s.reports ++ [.fault .systemMismatch none] } := by
  obtain ⟨hentry, y, hsel, hd⟩ := h
  have hactive : s.entryActive = false := by
    rw [Bool.eq_false_iff, ne_eq, entryActive_iff, not_not]
    exact hentry
  unfold systemCheck
  rw [systemPosition_eq_some.2 hsel]
  dsimp only
  rw [hactive, (mismatches_iff _ _).2 hd, notice_eq, reportFault_eq]
  simp only [raiseAll_raiseAll]
  rfl

/-- No mismatch, no fault (R85). -/
theorem systemCheck_agrees (h : ¬ s.Mismatch s.ldet.detected) : systemCheck s = s := by
  unfold systemCheck
  split
  · next y hsel =>
    refine if_neg fun hc => h ?_
    rw [Bool.and_eq_true, Bool.not_eq_true', mismatches_iff, Bool.eq_false_iff, ne_eq, entryActive_iff, not_not] at hc
    exact ⟨hc.1, y, systemPosition_eq_some.1 hsel, hc.2⟩
  · rfl

/-- What the interlock watch changes (R81). -/
theorem watchInterlock_form (s : State) : ∃ breaker start cs, watchInterlock s = { s with
    bsc := { s.bsc with breaker := breaker, limitStart := start }, lnk := raiseAll cs s.lnk } := by
  have hstands : s = { s with
      bsc := { s.bsc with breaker := s.bsc.breaker, limitStart := s.bsc.limitStart }, lnk := raiseAll [] s.lnk } := by
    rw [raiseAll_nil]
  unfold watchInterlock
  split
  · by_cases hb : s.bsc.breaker = .closed ∨ s.bsc.breaker = .closing
    · exact ⟨_, _, _, openRequest_opens hb⟩
    · rw [openRequest_stands hb]
      exact ⟨_, _, _, hstands⟩
  · exact ⟨_, _, _, hstands⟩

/-- A change of the detected system up to the system check (R30, R81, R85). -/
theorem setDetected_form (h : d ≠ s.ldet.detected) : ∃ breaker start cs, setDetected d s = systemCheck { s with
    ldet := { s.ldet with detected := d, since := s.clk.time }
    bsc := { s.bsc with breaker := breaker, limitStart := start }, lnk := raiseAll (.line :: cs) s.lnk } := by
  obtain ⟨breaker, start, cs, heq⟩ :=
    watchInterlock_form (notice .line (s.modLdet fun q => { q with detected := d, since := s.now }))
  refine ⟨breaker, start, cs, ?_⟩
  unfold setDetected
  rw [if_neg h.symm, heq, notice_eq]
  simp only [raiseAll_raiseAll]
  rfl

/-- The detector after a change of the detected system (R30). -/
theorem setDetected_ldet (d : Detected) (s : State) : (setDetected d s).ldet = { s.ldet with
    detected := d, since := if d = s.ldet.detected then s.ldet.since else s.clk.time } := by
  by_cases h : d = s.ldet.detected
  · rw [setDetected, if_pos h.symm, if_pos h, h]
  · obtain ⟨breaker, start, cs, heq⟩ := setDetected_form h
    rw [heq, if_neg h]
    exact (still_fields (Kept.systemCheck (Kept.refl _)).still).2.2.1

/-- A change to a system that differs from the selector's (R85). -/
theorem setDetected_mismatch (h : d ≠ s.ldet.detected) (hm : s.Mismatch d) : ∃ bsc cs f, setDetected d s = { s with
    ldet := { s.ldet with detected := d, since := s.clk.time }, bsc := bsc, fault := f, lnk := raiseAll cs s.lnk
    reports := s.reports ++ [.fault .systemMismatch none] }
    ∧ .mismatch ∈ cs ∧ .line ∈ cs ∧ bsc.traction = s.bsc.traction ∧ bsc.reclose = s.bsc.reclose
    ∧ (s.fault = none → ∃ r, f = some r ∧ r.kind = .systemMismatch ∧ r.detected = d) := by
  obtain ⟨breaker, start, cs, heq⟩ := setDetected_form h
  rw [systemCheck_mismatch hm] at heq
  simp only [raiseAll_raiseAll] at heq
  exact ⟨_, _, _, heq, by simp, by simp, rfl, rfl, fun hnone => ⟨_, captured_of_none hnone, rfl, rfl⟩⟩

/-- A change to a system that does not (R85). -/
theorem setDetected_agrees (h : d ≠ s.ldet.detected) (hm : ¬ s.Mismatch d) : ∃ bsc cs, setDetected d s = { s with
    ldet := { s.ldet with detected := d, since := s.clk.time }, bsc := bsc, lnk := raiseAll cs s.lnk }
    ∧ .line ∈ cs ∧ bsc.traction = s.bsc.traction ∧ bsc.reclose = s.bsc.reclose := by
  obtain ⟨breaker, start, cs, heq⟩ := setDetected_form h
  rw [systemCheck_agrees hm] at heq
  exact ⟨_, _, heq, by simp, rfl, rfl⟩

/-- The end of a selector move up to the system check (R91). -/
theorem selectorRests_form (p : SelPos) (s : State) : ∃ u, selectorRests p s = systemCheck u
    ∧ u.bsc.selector = .rest p ∧ u.map = s.map ∧ u.ldet = s.ldet ∧ u.fault = s.fault ∧ u.reports = s.reports := by
  refine ⟨_, rfl, ?_⟩
  unfold endMove
  dsimp only
  rw [notice_eq]
  exact ⟨rfl, rfl, rfl, rfl, rfl⟩

end SystemCheck

section Windows

variable {s t u : State}

theorem settle_ldet (u : State) : (settle u).ldet = u.ldet := (still_fields (settle_still u)).2.2.1

theorem settle_cfg (u : State) : (settle u).cfg = u.cfg := (still_fields (settle_still u)).2.2.2.1

theorem settle_front (u : State) : (settle u).trv.front = u.trv.front := by
  have htrv := (still_fields (settle_still u)).2.1
  simp only [Travel.still, Travel.mk.injEq] at htrv
  exact htrv.1

theorem begin_running {d : Detector} (h : d.stream = .running) : d.begin = d := by
  unfold Detector.begin
  rw [h]

theorem begin_starts {d : Detector} (h : d.stream ≠ .running) : d.begin = { d with
    stream := .running, win := .fresh, mRef := 0, lowSeen := false, lastCross := none } := by
  unfold Detector.begin
  cases hd : d.stream with
  | running => exact absurd hd h
  | starting => rfl
  | lost => rfl

/-- A sample in a window that it does not end (R20, R21). -/
theorem takeSample_joins {x : Int} (h : (s.ldet.begin.take x).win.n ≠ 480) : takeSample x s
    = { s with ldet := { s.ldet.begin.take x with sampleAt := s.clk.time } } := if_neg h

/-- The sample that ends a window (R24). -/
theorem takeSample_ends {x : Int} (h : (s.ldet.begin.take x).win.n = 480) : takeSample x s
    = windowEnd { s with ldet := { s.ldet.begin.take x with sampleAt := s.clk.time } } := if_pos h

theorem confirm_fields (c : RawClass) (d : Detector) : d.confirm c = { d with
    candidate := some c, count := if d.candidate = some c then min 255 (d.count + 1) else 1 } := by
  unfold Detector.confirm
  split
  · next h => rw [← h]
  · rfl

/-- The detector at a window end (R24, R29 to R31). -/
theorem windowEnd_ldet (s : State) : ∃ count d, (windowEnd s).ldet = { s.ldet with
    candidate := some s.ldet.win.rawClass, count := count, detected := d
    since := if d = s.ldet.detected then s.ldet.since else s.clk.time
    last := some s.ldet.win.toRecord, windows := s.ldet.windows + 1, mRef := s.ldet.win.mean, win := .fresh }
    ∧ count = (if s.ldet.candidate = some s.ldet.win.rawClass then min 255 (s.ldet.count + 1) else 1)
    ∧ d = (if confirmNeed s.cfg.items s.ldet.win.rawClass ≤ count then .raw s.ldet.win.rawClass else s.ldet.detected)
    ∧ (d ≠ s.ldet.detected → s.Mismatch d → s.fault = none →
        ∃ f, (windowEnd s).fault = some f ∧ f.kind = .systemMismatch ∧ f.detected = d) := by
  obtain ⟨t, ht⟩ : ∃ t, t = s.modLdet (·.confirm s.ldet.win.rawClass) := ⟨_, rfl⟩
  obtain ⟨d, hd⟩ : ∃ d, d = confirmed t.cfg.items t.ldet := ⟨_, rfl⟩
  have hend : windowEnd s = (setDetected d t).modLdet fun e =>
      { e with last := some s.ldet.win.toRecord, windows := e.windows + 1, mRef := s.ldet.win.mean, win := .fresh } := by
    rw [hd, ht]
    rfl
  have hldet : t.ldet = { s.ldet with
      candidate := some s.ldet.win.rawClass
      count := if s.ldet.candidate = some s.ldet.win.rawClass then min 255 (s.ldet.count + 1) else 1 } := by
    rw [ht]
    exact confirm_fields ..
  have hset := setDetected_ldet d t
  refine ⟨_, d, (congrArg State.ldet hend).trans ?_, rfl, ?_, fun hne hm hnone => ?_⟩
  · have hclk : t.clk = s.clk := by rw [ht]; rfl
    refine (congrArg (fun e : Detector => { e with
      last := some s.ldet.win.toRecord, windows := e.windows + 1, mRef := s.ldet.win.mean, win := .fresh }) hset).trans ?_
    rw [hldet, hclk]
  · rw [hd, hldet, ht]
    rfl
  · have hne' : d ≠ t.ldet.detected := by rw [hldet]; exact hne
    have hm' : t.Mismatch d := by rw [ht]; exact hm
    obtain ⟨bsc, cs, f, heq, -, -, -, -, hfault⟩ := setDetected_mismatch hne' hm'
    have hnone' : t.fault = none := by rw [ht]; exact hnone
    obtain ⟨r, rfl, hkind, hdet⟩ := hfault hnone'
    refine ⟨r, (congrArg State.fault hend).trans ?_, hkind, hdet⟩
    exact congrArg State.fault heq

theorem detectedUnknown_ldet (s : State) : (detectedUnknown s).ldet = { s.ldet with
    detected := .unknown, since := if s.ldet.detected = .unknown then s.ldet.since else s.clk.time } := by
  unfold detectedUnknown
  split
  · next h => rw [← h]
  · rw [notice_ldet]
    rfl

/-- Sample loss in the detector (R33). -/
theorem loseSamples_ldet (s : State) : (loseSamples s).ldet = { s.ldet.lose with
    detected := .unknown, since := if s.ldet.detected = .unknown then s.ldet.since else s.clk.time } := by
  have hreport : ∀ u : State, (reportLoss u).ldet = u.ldet := fun u => by
    rw [reportLoss, notice_ldet, reportFault_ldet]
  have hpermit : ∀ u : State, (permitPart u).ldet = u.ldet := fun u => by
    unfold permitPart
    cases h : watchPermit u with
    | none => rfl
    | some v => exact (still_fields ((Kept.refl u).watchPermit h).still).2.2.1
  have hunknown : (detectedUnknown (s.modLdet (·.lose))).ldet = { s.ldet.lose with
      detected := .unknown, since := if s.ldet.detected = .unknown then s.ldet.since else s.clk.time } :=
    detectedUnknown_ldet ..
  unfold loseSamples
  dsimp only
  split
  · split
    · rw [hreport]
      exact hunknown
    · rw [hreport, hpermit]
      exact hunknown
  · rw [hreport]
    exact hunknown

end Windows

section DetectorRows

variable {s : State}

/-- Settles O43. -/
theorem samplesFillTheWindow : Obligations.SamplesFillTheWindow := by
  intro s
  refine ⟨fun x hrun hn => ?joins, fun x hrun => ?starts, fun x hrun hn => ?ends, fun d hd => ?changes, fun y => ?rests,
    fun hdue => ?loss⟩
  case joins =>
    obtain ⟨cross, low, w, htake, hwn, hsum, hsq, htracks⟩ := take_fields x.toInt s.ldet
    have hbegin : s.ldet.begin.take x.toInt = _ := (congrArg (Detector.take x.toInt) (begin_running hrun)).trans htake
    have hjoin : takeSample x.toInt s = _ := takeSample_joins (by rw [hbegin]; exact hwn ▸ Nat.ne_of_lt hn)
    have hldet : (settle (takeSample x.toInt s)).ldet = _ := (settle_ldet _).trans (congrArg State.ldet hjoin)
    have hcfg : (settle (takeSample x.toInt s)).cfg = s.cfg := (settle_cfg _).trans ((congrArg State.cfg hjoin).trans rfl)
    have hfront : (settle (takeSample x.toInt s)).trv.front = s.trv.front :=
      (settle_front _).trans ((congrArg (fun u : State => u.trv.front) hjoin).trans rfl)
    refine ⟨_, rfl, ?_⟩
    rw [hldet, hcfg, hfront]
    dsimp only
    rw [hbegin]
    exact ⟨hrun, rfl, hwn, hsum, hsq, rfl, rfl, rfl, rfl, rfl, rfl, rfl, rfl, htracks _ rfl rfl⟩
  case starts =>
    obtain ⟨cross, low, w, htake, hwn, hsum, hsq, htracks⟩ := take_fields x.toInt s.ldet.begin
    obtain ⟨-, hquiet⟩ := htracks { s.ldet with lastCross := cross, lowSeen := low } rfl rfl
    rw [begin_starts hrun] at hquiet htake hwn hsum hsq
    obtain ⟨hcross, hlow, hperiods, hmin, hmax⟩ := hquiet fun h => nomatch h.1
    have hbegin : s.ldet.begin.take x.toInt = _ := (congrArg (Detector.take x.toInt) (begin_starts hrun)).trans htake
    have hjoin : takeSample x.toInt s = _ :=
      takeSample_joins (by rw [hbegin]; exact fun h => nomatch hwn.symm.trans h)
    have hldet : (settle (takeSample x.toInt s)).ldet = _ := (settle_ldet _).trans (congrArg State.ldet hjoin)
    refine ⟨_, rfl, ?_⟩
    rw [hldet]
    dsimp only
    rw [hbegin]
    exact ⟨rfl, hwn, rfl, hsum.trans (Int.zero_add _), hsq.trans (Nat.zero_add _), hperiods, hmin, hmax, rfl, hcross, hlow, rfl,
      rfl, rfl, rfl, rfl⟩
  case ends =>
    obtain ⟨cross, low, w, htake, hwn, hsum, hsq, htracks⟩ := take_fields x.toInt s.ldet
    have hbegin : s.ldet.begin.take x.toInt = _ := (congrArg (Detector.take x.toInt) (begin_running hrun)).trans htake
    have hend : takeSample x.toInt s = _ := takeSample_ends (by rw [hbegin]; exact hwn.trans hn)
    rw [hbegin] at hend
    obtain ⟨count, d, hldet, hcount, hd, hfault⟩ := windowEnd_ldet { s with
      ldet := { s.ldet with lastCross := cross, lowSeen := low, win := w, sampleAt := s.clk.time } }
    rw [← hend] at hldet hfault
    have hmean : w.mean = Int.tdiv (s.ldet.win.sum + x.toInt) 480 := by rw [Window.mean, hsum]
    have htotal : w.totalMs = (s.ldet.win.sq + (x.toInt * x.toInt).toNat) / 480 := by rw [Window.totalMs, hsq]
    have hrms : w.totalRms = isqrt ((s.ldet.win.sq + (x.toInt * x.toInt).toNat) / 480) := by rw [Window.totalRms, htotal]
    have hac : w.acRms = isqrt (((((s.ldet.win.sq + (x.toInt * x.toInt).toNat) / 480 : Nat) : Int)
        - w.mean * w.mean).toNat) := by rw [Window.acRms, htotal]
    refine ⟨_, w.toRecord, rfl, ?_⟩
    rw [settle_ldet, hldet]
    exact ⟨rfl, rfl, rfl, hrun, rfl, htracks _ rfl rfl, hmean, rfl, hrms, hac, rawClass_dead_iff w,
      fun h hp h5 lo hi hlo hhi => (rawClass_ac h hp h5).trans (acClass_eq hlo hhi),
      fun h hdc => (rawClass_dc h hdc).trans (dcClass_eq w), rfl, hcount, hd, rfl,
      fun hne hm hnone => (hfault hne (mismatch_congr hm rfl rfl) hnone).imp fun f hf =>
        ⟨(Kept.refl _).settle.fault f hf.1, hf.2⟩⟩
  case changes =>
    refine ⟨fun hm => ?_, fun hm => ?_, ?_⟩
    · obtain ⟨bsc, cs, f, heq, hmis, hline, -, -, hfault⟩ := setDetected_mismatch hd hm
      rw [heq]
      exact ⟨noticed_of_raised rfl hmis, noticed_of_raised rfl hline, by simp, fun h => (hfault h).imp fun r hr => ⟨hr.1, hr.2.1⟩⟩
    · obtain ⟨bsc, cs, heq, hline, -, -⟩ := setDetected_agrees hd hm
      rw [heq]
      exact ⟨rfl, rfl, noticed_of_raised rfl hline⟩
    · by_cases hm : s.Mismatch d
      · obtain ⟨bsc, cs, f, heq, -, -, htraction, hreclose, -⟩ := setDetected_mismatch hd hm
        rw [heq]
        exact ⟨htraction, hreclose⟩
      · obtain ⟨bsc, cs, heq, -, htraction, hreclose⟩ := setDetected_agrees hd hm
        rw [heq]
        exact ⟨htraction, hreclose⟩
  case rests =>
    obtain ⟨u, heq, hsel, hmap, hldet, hfault, hreports⟩ := selectorRests_form (.sys y) s
    rw [heq, ← hldet, ← hfault, ← hreports]
    refine ⟨fun hm => ?_, fun hm => ?_⟩
    · rw [systemCheck_mismatch (mismatch_congr hm hmap hsel)]
      exact ⟨noticed_of_raised rfl (by simp), by simp, fun h => ⟨_, captured_of_none h, rfl⟩⟩
    · rw [systemCheck_agrees fun h => hm (mismatch_congr h hmap.symm hsel.symm)]
      exact ⟨rfl, rfl⟩
  case loss =>
    have hexec : exec .sampleLoss s = .next (settle (loseSamples s)) := atLimit_due hdue _ _
    have hldet := (settle_ldet (loseSamples s)).trans (loseSamples_ldet s)
    refine ⟨_, hexec, ?_⟩
    rw [hldet]
    exact ⟨rfl, rfl, rfl, rfl, rfl, rfl, rfl, rfl, rfl, rfl, rfl⟩

end DetectorRows

end Sys2Proof.Machine

/-! ### The end of a speed interval (R6, R41, R69 to R74, R104, R109) -/

namespace Sys2Proof.Machine

section Regulation

variable {s t u : State} {p : Pan}

/-- The force regulation of a raised pantograph at a speed-interval end (R69, R74). -/
def State.slewedForce (s : State) (p : Pan) : Force :=
  let f := s.startedForce p (s.ch p).role
  { f with
    pCmd := slewOf s.cfg.items.pressureSlew
      (targetOf (s.cfg.items.calOffset.get p) (s.cfg.items.calGain.get p) s.cfg.items.pMax f.force) (s.freg.get p).pCmd }

/-- The regulation of a pantograph at a speed-interval end: a raised one alone (R69). -/
def State.regulatedForce (s : State) (p : Pan) : Force :=
  if (s.ch p).state.isRaised = true then s.slewedForce p else s.freg.get p

/-- The settle timer of a raised pantograph stops where its pressure differs from the target (R41). -/
def State.regulatedCh (s : State) (p : Pan) : Channel :=
  if (s.ch p).state.isRaised = true ∧ (s.slewedForce p).target ≠ some (s.slewedForce p).pCmd then
    { s.ch p with settle := none }
  else s.ch p

theorem slewForce_computeForce (p : Pan) (s : State) :
    slewForce p (computeForce p s) = { s with freg := s.freg.set p (s.slewedForce p) } := by
  simp only [slewForce, computeForce, State.modForce, PerPan.get_set_same, PerPan.set_set, State.slewedForce,
    State.startedForce]

theorem regulate_eq (p : Pan) (s : State) : regulate p s = { s with
    pch := s.pch.set p (s.regulatedCh p), freg := s.freg.set p (s.regulatedForce p) } := by
  have hset : s.pch.set p (s.ch p) = s.pch := PerPan.set_get ..
  have hforce : (s.freg.set p (s.slewedForce p)).get p = s.slewedForce p := PerPan.get_set_same ..
  unfold regulate State.regulatedCh State.regulatedForce
  by_cases hraised : (s.ch p).state.isRaised = true
  · rw [if_pos hraised, if_pos hraised, slewForce_computeForce]
    dsimp only
    rw [hforce]
    by_cases htarget : (s.slewedForce p).target = some (s.slewedForce p).pCmd
    · rw [if_pos htarget, if_neg (fun h => h.2 htarget), hset]
    · rw [if_neg htarget, if_pos ⟨hraised, htarget⟩]
      rfl
  · rw [if_neg hraised, if_neg hraised, if_neg (fun h => hraised h.1), hset, PerPan.set_get]

/-- Every pantograph is regulated for itself (R69). -/
theorem forPans_regulate (s : State) : ∃ pch freg, forPans regulate s = { s with pch := pch, freg := freg }
    ∧ ∀ p, pch.get p = s.regulatedCh p ∧ freg.get p = s.regulatedForce p := by
  refine ⟨⟨s.regulatedCh .p1, s.regulatedCh .p2, s.regulatedCh .p3, s.regulatedCh .p4⟩,
    ⟨s.regulatedForce .p1, s.regulatedForce .p2, s.regulatedForce .p3, s.regulatedForce .p4⟩, ?_, fun p => ?_⟩
  · unfold forPans
    simp only [regulate_eq]
    rfl
  · cases p <;> exact ⟨rfl, rfl⟩

theorem regulatedCh_state (s : State) (p : Pan) : (s.regulatedCh p).state = (s.ch p).state := by
  unfold State.regulatedCh
  split <;> rfl

/-- A pantograph that is not raised is not regulated (R69). -/
theorem regulated_down (h : (s.ch p).state.isRaised = false) : s.regulatedForce p = s.freg.get p ∧ s.regulatedCh p = s.ch p := by
  have hdown : ¬ (s.ch p).state.isRaised = true := by rw [h]; exact Bool.false_ne_true
  exact ⟨if_neg hdown, if_neg fun k => hdown k.1⟩

/-- What the regulation of a raised pantograph gives (R41, R70 to R74). -/
theorem regulated_up (h : (s.ch p).state.isRaised = true) : ∃ force target, 40 ≤ force ∧ force ≤ 200
    ∧ s.SetpointAt p (s.ch p).role s.trv.speed force
    ∧ target = min s.cfg.items.pMax (s.cfg.items.calOffset.get p + force * s.cfg.items.calGain.get p / 256)
    ∧ (s.regulatedForce p).force = force ∧ (s.regulatedForce p).target = some target
    ∧ (s.regulatedForce p).pCmd = slewOf s.cfg.items.pressureSlew target (s.freg.get p).pCmd
    ∧ ((s.regulatedForce p).pCmd ≠ target → (s.regulatedCh p).settle = none)
    ∧ { s.regulatedCh p with settle := (s.ch p).settle } = s.ch p := by
  have hforce : s.regulatedForce p = s.slewedForce p := if_pos h
  rw [hforce]
  obtain ⟨force, hdef⟩ : ∃ force, force = (s.slewedForce p).force := ⟨_, rfl⟩
  have hclamp : force = clampNat 40 200 (if (s.ch p).role = some .scrape
      then profileForce (s.cfg.tables.get (s.cfg.items.panClass.get p)) (kmhOf s.trv.speed) + s.cfg.items.scrapeBonus
      else profileForce (s.cfg.tables.get (s.cfg.items.panClass.get p)) (kmhOf s.trv.speed)) := hdef
  refine ⟨force, _, ?_, ?_, ⟨_, profileForce_onProfile _ _, ?_⟩, rfl, hdef.symm, ?_, ?_, fun hne => ?_, ?_⟩
  · rw [hclamp]
    exact le_max_left ..
  · rw [hclamp]
    exact max_le (by decide) (min_le_left ..)
  · exact hclamp
  · rw [hdef]
    rfl
  · rw [hdef]
    rfl
  · have htarget : (s.slewedForce p).target ≠ some (s.slewedForce p).pCmd := fun heq => hne (by
      rw [hdef]
      exact (Option.some.inj heq).symm)
    rw [State.regulatedCh, if_pos ⟨h, htarget⟩]
  · unfold State.regulatedCh
    split <;> rfl

end Regulation

section ActionPoint

variable {s t u : State}

/-- What arming reads of a state: the configuration, the travel, the mode and the states of the pantographs (R104, R106). -/
theorem armEntry_congr_states (hcfg : t.cfg = u.cfg) (htrv : t.trv = u.trv) (hmode : t.seq.mode = u.seq.mode)
    (hstates : ∀ p, (t.ch p).state = (u.ch p).state) (e : Entry) : armEntry t e = armEntry u e := by
  have heligible : t.eligible = u.eligible := by
    funext y p
    unfold State.eligible
    rw [hcfg, hstates]
  have hstage : stage t = stage u := by
    funext e
    unfold stage State.stagedTarget
    rw [heligible, hcfg]
  have harms : t.arms e = u.arms e := by
    simp only [State.arms, State.withinArm, hcfg, htrv, hmode]
  unfold armEntry
  rw [harms, hstage]

/-- What the first offset reads of a state (R108). -/
theorem firstOffset_congr (htrv : t.trv.offsets = u.trv.offsets) (hstates : ∀ p, (t.ch p).state = (u.ch p).state) :
    t.firstOffset = u.firstOffset := by
  have hraised : t.raisedPans = u.raisedPans := by
    unfold State.raisedPans
    simp only [hstates]
  have husable : t.usablePans = u.usablePans := by
    unfold State.usablePans
    simp only [hstates]
  unfold State.firstOffset
  rw [hraised, husable, htrv]

theorem actionPoint_eq (s : State) (e : Entry) : s.actionPoint e = ((e.start * 1000 : Nat) : Int) + s.firstOffset
    - ((s.trv.speed * (if s.ridesThrough e.sect then s.cfg.items.openTime
        else s.cfg.items.openTime + s.cfg.items.lowerAllowTime) / 1000 : Nat) : Int)
    - ((s.cfg.items.approachMargin * 1000 : Nat) : Int) := by
  unfold State.actionPoint travelled Entry.startMm
  push_cast
  rfl

theorem ridesThrough_congr (h : t.bsc.selector = u.bsc.selector) (x : Section) : t.ridesThrough x = u.ridesThrough x := by
  have hclass : ∀ y, t.selectorOfClass y = u.selectorOfClass y := fun y => by
    unfold State.selectorOfClass State.systemPosition
    rw [h]
  cases x <;> simp only [State.ridesThrough, hclass]

/-- The action point of the first ARMED entry (R108, R109). -/
theorem computeAction_action (hcfg : t.cfg = u.cfg) (hoffset : t.firstOffset = u.firstOffset)
    (hsel : t.bsc.selector = u.bsc.selector) : (computeAction t).map.action
    = (t.map.entries.find? fun e => e.state = .armed).map fun e => ⟨e.id, ((e.start * 1000 : Nat) : Int) + u.firstOffset
      - ((t.trv.speed * (if u.ridesThrough e.sect then u.cfg.items.openTime
          else u.cfg.items.openTime + u.cfg.items.lowerAllowTime) / 1000 : Nat) : Int)
      - ((u.cfg.items.approachMargin * 1000 : Nat) : Int)⟩ := by
  simp only [← hoffset, ← hcfg, ← ridesThrough_congr hsel, ← actionPoint_eq]
  rfl

end ActionPoint

section SpeedRow

variable {s : State}

/-- Settles O42. -/
theorem speedIntervalEnds : Obligations.SpeedIntervalEnds := by
  intro s
  obtain ⟨t, ht⟩ : ∃ t, t = (s.modClk fun c => { c with speedClock := 0 }).modTrv (·.intervalEnd) := ⟨_, rfl⟩
  obtain ⟨pch, freg, hforces, hpans⟩ := forPans_regulate t
  obtain ⟨v, hv⟩ : ∃ v, v = forPans regulate t := ⟨_, rfl⟩
  obtain ⟨action, harm⟩ := armAll_eq v
  have hexec : exec .speedIntervalEnd s = .next (settle (raceAtInterval ((computeAction (armAll v)).setIceEval true))) := by
    rw [hv, ht]
    rfl
  rw [harm] at hexec
  rw [hforces] at hv
  have hch : ∀ p, v.ch p = t.regulatedCh p := fun p => by
    rw [hv]
    exact (hpans p).1
  have hbefore : ∀ p, t.ch p = s.ch p := fun p => by rw [ht]; rfl
  have hstates : ∀ p, (v.ch p).state = (s.ch p).state := fun p => by rw [hch, regulatedCh_state, hbefore]
  have hsettings : v.cfg = s.cfg ∧ v.map = s.map ∧ v.bsc = s.bsc ∧ v.seq = s.seq ∧ v.trv = s.trv.intervalEnd := by
    rw [hv, ht]
    exact ⟨rfl, rfl, rfl, rfl, rfl⟩
  obtain ⟨hcfg, hmap, hbsc, hseq, htrv⟩ := hsettings
  have hentries : v.map.entries.map (armEntry v)
      = s.map.entries.map ({ s with trv := v.trv }.moved fun _ => false) := by
    rw [hmap]
    refine List.map_congr_left fun e _ => ?_
    rw [moved_eq, if_neg (fun h => Bool.false_ne_true h.2)]
    exact armEntry_congr_states (u := { s with trv := v.trv }) hcfg rfl (congrArg Sequencer.mode hseq) hstates e
  refine ⟨_, hexec, ?history, ?acc, ?speed, ?travel, ?clock, fun p hp => ?raised, fun p hp => ?down, hentries, ?action,
    raises_of_lnk ?notices, ?nextId, ?removal, ?rest⟩
  case history => exact congrArg Travel.history htrv
  case acc => exact congrArg Travel.acc htrv
  case speed => exact congrArg Travel.speed htrv
  case travel => exact (congrArg (fun x : Travel => { x with
      history := s.trv.history, acc := s.trv.acc, speed := s.trv.speed }) htrv).trans rfl
  case clock => rw [hv, ht]; rfl
  case raised =>
    obtain ⟨force, target, hlow, hhigh, hpoint, htarget, hforce, hset, hcmd, hsettle, hrest⟩ :=
      regulated_up (s := t) (p := p) (by rw [hbefore]; exact hp)
    have hsetpoint : s.SetpointAt p (s.ch p).role v.trv.speed force := by
      rw [hbefore] at hpoint
      rw [hv]
      rw [ht] at hpoint ⊢
      exact hpoint
    have hbounds : target = min s.cfg.items.pMax (s.cfg.items.calOffset.get p + force * s.cfg.items.calGain.get p / 256) := by
      rw [htarget, ht]
      rfl
    have hslew : (t.regulatedForce p).pCmd = slewOf s.cfg.items.pressureSlew target (s.freg.get p).pCmd := by
      rw [hcmd, ht]
      rfl
    rw [← hch, hbefore] at hrest
    rw [← hch] at hsettle
    have hget : v.freg.get p = t.regulatedForce p := by
      rw [hv]
      exact (hpans p).2
    rw [← hget] at hforce hset hslew hsettle
    exact ⟨force, target, hlow, hhigh, hsetpoint, hbounds, hforce, hset, hslew, hsettle, hrest⟩
  case down =>
    obtain ⟨hforce, hstay⟩ := regulated_down (s := t) (p := p) (by rw [hbefore]; exact hp)
    rw [← hch, hbefore] at hstay
    refine ⟨?_, hstay⟩
    have hget : v.freg.get p = s.freg.get p := by
      rw [hv]
      exact ((hpans p).2.trans hforce).trans (by rw [ht]; rfl)
    exact hget
  case action =>
    exact computeAction_action hcfg (firstOffset_congr ((congrArg Travel.offsets htrv).trans rfl) hstates)
      (congrArg Power.selector hbsc)
  case notices =>
    have hlnk : v.lnk = s.lnk := by rw [hv, ht]; rfl
    dsimp only [computeAction, State.modMap, State.setIceEval]
    rw [hlnk, hmap]
    rfl
  case nextId =>
    have h := congrArg RouteMap.nextId hmap
    exact h
  case removal =>
    have h := congrArg RouteMap.lastRemoval hmap
    exact h
  case rest =>
    dsimp only [computeAction, State.modMap, State.setIceEval]
    rw [hv, ht]
    rfl

end SpeedRow

end Sys2Proof.Machine

/-! ### POWER_ON (R19, R36, R64, R77, R96) -/

namespace Sys2Proof.Machine

section QuietRoof

variable {s t : State} {ws : List (State → Option State)}

theorem firstAction_none (h : ∀ w ∈ ws, w s = none) : firstAction ws s = none := by
  induction ws with
  | nil => rfl
  | cons w rest ih =>
    rw [firstAction, h w List.mem_cons_self]
    exact ih fun x hx => h x (List.mem_cons_of_mem _ hx)

/-- A roof that no rule acts on stands (R198). -/
theorem settle_quiet (hreports : s.reports = []) (hquiet : ∀ w ∈ watchers, w s = none) (hattended : s.Attended) :
    settle s = s := by
  have hloop : reactLoop watchers reactBound s = s := by
    rw [reactBound, reactLoop, reactWith, hreports]
    dsimp only
    rw [firstAction_none hquiet]
  rw [settle, hloop, attend_of_attended hattended]

/-- Nothing that a rule watches holds in the values of power-on. -/
theorem powerOn_quiet (hsel : s.lines.selectorFb.isSome = true) : ∀ w ∈ watchers, w (powerOnValues s) = none := by
  have hdemand : watchDemand (powerOnValues s) = none := by
    unfold watchDemand powerOnValues
    by_cases h : s.lines.breakerFb = .opened
    · rw [if_pos h]; rfl
    · rw [if_neg h]; rfl
  have hmove : watchMove (powerOnValues s) = none := by
    obtain ⟨q, hq⟩ := Option.isSome_iff_exists.1 hsel
    unfold watchMove powerOnValues selectorAtPowerOn
    rw [hq]
  have hlowerAll : watchLowerAll (powerOnValues s) = none := by
    unfold watchLowerAll
    exact if_neg (by simp [powerOnValues, State.reset])
  simp only [watchers, iceWatchers, Pan.all, List.map_cons, List.map_nil, List.cons_append, List.nil_append,
    List.forall_mem_cons]
  have hpans : ∀ p, watchLowerWait p (powerOnValues s) = none ∧ watchRaiseWait p (powerOnValues s) = none
      ∧ watchHeater p (powerOnValues s) = none := fun p => by cases p <;> exact ⟨rfl, rfl, rfl⟩
  have hice : watchIceState (powerOnValues s) = none ∧ watchDwell (powerOnValues s) = none
      ∧ watchProc (powerOnValues s) = none ∧ watchNoPan (powerOnValues s) = none ∧ watchScrape (powerOnValues s) = none :=
    ⟨rfl, rfl, rfl, rfl, rfl⟩
  obtain ⟨hstate, hdwell, hproc, hnoPan, hscrape⟩ := hice
  exact ⟨hdemand, rfl, hmove, (hpans _).1, (hpans _).1, (hpans _).1, (hpans _).1, (hpans _).2.1, (hpans _).2.1, (hpans _).2.1,
    (hpans _).2.1, rfl, rfl, rfl, rfl, hstate, hdwell, hproc, hnoPan, hscrape, (hpans _).2.2, (hpans _).2.2, (hpans _).2.2,
    (hpans _).2.2, rfl, rfl, hlowerAll, rfl, fun _ h => nomatch h⟩

/-- Lines that show no fault report none (R64, R93, R96). -/
theorem powerOnFaults_none (hdisc : ∀ p, (t.lines.discFb.get p).isSome = true) (hsel : t.lines.selectorFb.isSome = true)
    (hearth : t.lines.earthed = false) : powerOnFaults t = t := by
  have hpan : ∀ p, discFaultAtPowerOn p t = t := fun p => by
    obtain ⟨q, hq⟩ := Option.isSome_iff_exists.1 (hdisc p)
    unfold discFaultAtPowerOn
    rw [hq]
  have hpans : forPans discFaultAtPowerOn t = t := by
    unfold forPans
    rw [hpan, hpan, hpan, hpan]
  have hpower : powerFaultsAtPowerOn t = t := by
    obtain ⟨q, hq⟩ := Option.isSome_iff_exists.1 hsel
    unfold powerFaultsAtPowerOn
    rw [hq]
    exact if_neg (by simp [State.earthed, hearth])
  have hboth : ¬ bothFaultAtPowerOn t.lines = true := by
    unfold bothFaultAtPowerOn
    rw [Option.isNone_eq_false_iff.2 hsel, hearth, Bool.or_false, Bool.and_false]
    exact Bool.false_ne_true
  unfold powerOnFaults
  rw [if_neg hboth, hpans, hpower]

end QuietRoof

section PowerOnRow

variable {s t : State}

/-- The faults of power-on leave what no reaction changes, the count of open choices apart (R200). -/
theorem powerOnFaults_still (t : State) : ∃ n, (powerOnFaults t).still = (t.setFree n).still := by
  have hdisc : ∀ u, Kept u (forPans discFaultAtPowerOn u) := fun u => Kept.forPans (.refl u) fun p v => by
    unfold discFaultAtPowerOn
    split
    · exact .refl v
    · exact ((Kept.refl v).reportFault _ _ _).notice _
  have hpower : ∀ u, Kept u (powerFaultsAtPowerOn u) := fun u => by
    unfold powerFaultsAtPowerOn
    split
    · exact (Kept.refl u).earthUnexpected
    · exact ((Kept.refl u).reportFault _ _ _).earthUnexpected
  unfold powerOnFaults
  split
  · dsimp only
    split
    · exact ⟨_, ((hdisc _).trans (hpower _)).still⟩
    · exact ⟨_, ((hpower _).trans (hdisc _)).still⟩
  · exact ⟨t.freeCount, ((hdisc t).trans (hpower _)).still⟩

/-- More of what no reaction changes. -/
theorem still_inputs (h : t.still = s.still) : t.clk = s.clk ∧ t.lines = s.lines ∧ t.pending = s.pending := by
  simp only [State.still, State.mk.injEq] at h
  obtain ⟨hclk, hlines, -, -, -, -, -, -, -, -, -, -, -, -, -, -, -, -, -, hpending⟩ := h
  exact ⟨hclk, hlines, hpending⟩

theorem atPowerOn_eq (width : Nat) (v : PulseState) :
    v.atPowerOn width = if v = .inactive then .inactive else .active width := by
  cases v <;> simp [PulseState.atPowerOn]

/-- Settles O40. -/
theorem powerOnSetsEveryBlock : Obligations.PowerOnSetsEveryBlock := by
  intro s
  have hexec : exec .powerOn s = .next (settle (powerOnFaults (powerOnValues s))) := rfl
  refine ⟨⟨_, hexec, ?_⟩, fun hdisc hsel hearth => ?_⟩
  · obtain ⟨n, hfaults⟩ := powerOnFaults_still (powerOnValues s)
    have hstill := (settle_still (powerOnFaults (powerOnValues s))).trans hfaults
    obtain ⟨hclk, hlines, hpending⟩ := still_inputs hstill
    obtain ⟨hid, htrv, hldet, hcfg, -, hports⟩ := still_fields hstill
    rw [hclk, hlines, hpending, hcfg, hldet, hid]
    simp only [Travel.still, Travel.mk.injEq] at htrv
    obtain ⟨hfront, hhistory, -, hspeed, -⟩ := htrv
    refine ⟨rfl, rfl, rfl, rfl, atPowerOn_eq .., fun p => ?_, hfront, hspeed, hhistory, rfl, rfl, fun l => ?_⟩
    · cases p <;> exact atPowerOn_eq ..
    · rw [hports l]
      cases l <;> rfl
  · rw [powerOnFaults_none (t := powerOnValues s) hdisc hsel hearth, settle_quiet rfl (powerOn_quiet hsel) (fun l => reset_attended l)] at hexec
    refine ⟨_, hexec, rfl, rfl, rfl, rfl, rfl, rfl, rfl, rfl, rfl, rfl, fun p => ?_, ?_⟩
    · cases p <;> rfl
    · cases hfb : s.lines.selectorFb <;> simp only [powerOnValues, selectorAtPowerOn, hfb]

end PowerOnRow

end Sys2Proof.Machine

/-! ### What ICE watches: its state, its heaters and the conditions of a scrape (R148 to R158) -/

namespace Sys2Proof.Machine

section Ordering

variable {o : PerPan Nat} {p q : Pan} {ps : List Pan}

/-- A pantograph's place in the ordering of R13 as one number: the offset, then the pantograph's number. -/
def placeOf (o : PerPan Nat) (p : Pan) : Nat := o.get p * 8 + p.num

theorem ahead_iff : ahead o p q = true ↔ o.get p < o.get q ∨ o.get p = o.get q ∧ p.num < q.num := by
  simp [ahead]

theorem ahead_iff_place : ahead o p q = true ↔ placeOf o p < placeOf o q := by
  have hnum : ∀ r : Pan, r.num < 8 := fun r => by cases r <;> decide
  have hp := hnum p
  have hq := hnum q
  rw [ahead_iff]
  unfold placeOf
  omega

theorem num_inj (p q : Pan) (h : p.num = q.num) : p = q := by
  cases p <;> cases q <;> simp [Pan.num] at h ⊢

theorem place_inj (h : placeOf o p = placeOf o q) : p = q := by
  have hnum : p.num = q.num := by
    have hlt : ∀ r : Pan, r.num < 8 := fun r => by cases r <;> decide
    have hp := hlt p
    have hq := hlt q
    unfold placeOf at h
    omega
  exact num_inj p q hnum

theorem frontMost_eq_none (o : PerPan Nat) (ps : List Pan) : frontMost o ps = none ↔ ps = [] := by
  cases ps with
  | nil => exact iff_of_true rfl rfl
  | cons p rest =>
    refine iff_of_false ?_ (List.cons_ne_nil _ _)
    rw [frontMost]
    split
    · exact Option.some_ne_none _
    · split <;> exact Option.some_ne_none _

theorem frontMost_least (h : frontMost o ps = some p) : p ∈ ps ∧ ∀ q ∈ ps, placeOf o p ≤ placeOf o q := by
  induction ps generalizing p with
  | nil => cases h
  | cons a rest ih =>
    rw [frontMost] at h
    split at h
    · next hrest =>
      rw [(frontMost_eq_none o rest).1 hrest]
      cases h
      simp
    · next q hrest =>
      obtain ⟨hmem, hleast⟩ := ih hrest
      split at h
      · next hahead =>
        cases h
        rw [ahead_iff_place] at hahead
        exact ⟨List.mem_cons_of_mem _ hmem, List.forall_mem_cons.2 ⟨hahead.le, hleast⟩⟩
      · next hahead =>
        cases h
        rw [ahead_iff_place, not_lt] at hahead
        exact ⟨List.mem_cons_self, List.forall_mem_cons.2 ⟨le_rfl, fun r hr => hahead.trans (hleast r hr)⟩⟩

/-- The front-most pantograph of a list stands ahead of every other (R13). -/
theorem frontMost_eq_some : frontMost o ps = some p ↔ p ∈ ps ∧ ∀ q ∈ ps, q = p ∨ ahead o p q = true := by
  constructor
  · intro h
    obtain ⟨hmem, hleast⟩ := frontMost_least h
    refine ⟨hmem, fun q hq => ?_⟩
    rw [ahead_iff_place]
    rcases (hleast q hq).lt_or_eq with hlt | heq
    · exact .inr hlt
    · exact .inl (place_inj heq).symm
  · rintro ⟨hmem, hahead⟩
    obtain ⟨r, hr⟩ := Option.ne_none_iff_exists'.1 (mt (frontMost_eq_none o ps).1 (List.ne_nil_of_mem hmem))
    obtain ⟨hrmem, hleast⟩ := frontMost_least hr
    rcases hahead r hrmem with rfl | hlt
    · exact hr
    · exact absurd (ahead_iff_place.1 hlt) (not_lt.2 (hleast p hmem))

end Ordering

section IceStates

variable {s : State} {p c : Pan} {y : IceState}

theorem head?_singleton {f : Pan → Bool} (h : ∀ q, f q = true ↔ q = p) : (pansWhere f).head? = some p := by
  have hlist : pansWhere f = [p] := by
    have hf : f = fun q => decide (q = p) := funext fun q => by
      rw [Bool.eq_iff_iff, h, decide_eq_true_eq]
    rw [hf]
    cases p <;> rfl
  rw [hlist]
  rfl

theorem iceCollects_iff (s : State) (p : Pan) : ((((s.ch p).state = .settling || (s.ch p).state = .raised)
    && (s.ch p).role = some .collecting) : Bool) = true ↔ s.IceCollects p := by
  simp [State.IceCollects]

/-- The level-2 count without a collector or a line system (R149). -/
theorem level2_zero (h : (∀ p, ¬ s.IceCollects p) ∨ ∀ y, s.ldet.detected ≠ .raw (.sys y)) : s.level2 = 0 := by
  unfold State.level2
  split
  · next p y hcoll hsys =>
    rcases h with h | h
    · refine absurd ((iceCollects_iff s p).1 ?_) (h p)
      exact mem_pansWhere.1 (List.mem_of_mem_head? hcoll)
    · unfold Detected.lineSys at hsys
      split at hsys
      · next z hz => exact absurd hz (h z)
      all_goals cases hsys
  all_goals rfl

/-- The level-2 count of the collector (R149). -/
theorem level2_counts {y : LineSys} (h : ∀ q, s.IceCollects q ↔ q = p) (hsys : s.ldet.detected = .raw (.sys y)) :
    s.level2 = (s.ice.arcs.get p).completed.sum + (s.ice.arcs.get p).current := by
  have hcoll : s.iceCollector = some p := head?_singleton fun q => (iceCollects_iff s q).trans (h q)
  unfold State.level2
  rw [hcoll, hsys]
  rfl

theorem level1_iff (i : Ice) : i.level1 = true ↔ i.run = 60 ∨ i.weather = true := by
  unfold Ice.level1
  rw [Bool.or_eq_true, decide_eq_true_eq]
  rfl

/-- What a change of the ice state does (R148). -/
theorem setIceState_goes (hgoes : s.ice.state = .watch ∧ y = .suspect ∨ s.ice.state = .suspect ∧ y = .confirmed
    ∨ s.ice.state = .suspect ∧ y = .watch) : s.IceGoes (setIceState y s) y := by
  have hother : s.ice.state ≠ y := by
    rcases hgoes with ⟨h, rfl⟩ | ⟨h, rfl⟩ | ⟨h, rfl⟩ <;> rw [h] <;> exact fun h => nomatch h
  rw [setIceState_eq hother]
  refine ⟨rfl, rfl, (raises_of_lnk rfl).congr fun _ => congrArg causeBits ?_, rfl⟩
  rcases hgoes with ⟨h, rfl⟩ | ⟨h, rfl⟩ | ⟨h, rfl⟩ <;> rw [h] <;> simp [iceCauses]

/-- The transition out of ICE_WATCH (R148). -/
theorem watchIceState_watch (h : s.ice.state = .watch) :
    (s.ice.run = 60 ∨ s.ice.weather = true → ∃ u, watchIceState s = some u ∧ s.IceGoes u .suspect)
    ∧ (s.ice.run ≠ 60 → s.ice.weather = false → watchIceState s = none) := by
  have hwatch : watchIceState s = if s.ice.level1 then some (setIceState .suspect s) else none := by
    unfold watchIceState
    rw [h]
  rw [hwatch]
  refine ⟨fun hlevel => ⟨_, if_pos ((level1_iff _).2 hlevel), setIceState_goes (.inl ⟨h, rfl⟩)⟩, fun hrun hweather =>
    if_neg ?_⟩
  rw [level1_iff, hweather]
  exact fun k => k.elim hrun fun k => nomatch k

/-- The transitions out of ICE_SUSPECT (R148). -/
theorem watchIceState_suspect (h : s.ice.state = .suspect) :
    (s.cfg.items.arcSet ≤ s.level2 → ∃ u, watchIceState s = some u ∧ s.IceGoes u .confirmed)
    ∧ (s.level2 < s.cfg.items.arcSet → s.ice.releaseReached = true → ∃ u, watchIceState s = some u ∧ s.IceGoes u .watch)
    ∧ (s.level2 < s.cfg.items.arcSet → s.ice.releaseReached = false → watchIceState s = none) := by
  have hwatch : watchIceState s = if s.cfg.items.arcSet ≤ s.level2 then some (setIceState .confirmed s)
      else if s.ice.releaseReached then some (setIceState .watch s) else none := by
    unfold watchIceState
    rw [h]
  rw [hwatch]
  refine ⟨fun hset => ⟨_, if_pos hset, setIceState_goes (.inr (.inl ⟨h, rfl⟩))⟩, fun hlow hrel => ?_, fun hlow hrel => ?_⟩
  · exact ⟨_, (if_neg (not_le.2 hlow)).trans (if_pos hrel), setIceState_goes (.inr (.inr ⟨h, rfl⟩))⟩
  · rw [if_neg (not_le.2 hlow), hrel]
    rfl

theorem watchIceState_none (h : s.ice.state = .off ∨ s.ice.state = .confirmed) : watchIceState s = none := by
  unfold watchIceState
  rcases h with h | h <;> rw [h]

theorem watchDwell_none (h : s.ice.state ≠ .confirmed) : watchDwell s = none := by
  unfold watchDwell
  cases hs : s.ice.state with
  | confirmed => exact absurd hs h
  | off => rfl
  | watch => rfl
  | suspect => rfl

/-- The clear dwell in ICE_CONFIRMED (R149). -/
theorem watchDwell_confirmed (h : s.ice.state = .confirmed) :
    (s.level2 ≤ s.cfg.items.arcClear →
      (s.ice.clearDwell = none → watchDwell s = some { s with ice := { s.ice with clearDwell := some s.clk.time } })
      ∧ (s.ice.clearDwell ≠ none → watchDwell s = none))
    ∧ (s.cfg.items.arcClear < s.level2 →
      (s.ice.clearDwell = none → watchDwell s = none)
      ∧ (s.ice.clearDwell ≠ none → watchDwell s = some { s with ice := { s.ice with clearDwell := none } })) := by
  have hstopped : s.ice.clearDwell = none → watchDwell s = if s.level2 ≤ s.cfg.items.arcClear
      then some { s with ice := { s.ice with clearDwell := some s.clk.time } } else none := fun hd => by
    unfold watchDwell
    rw [h, hd]
    rfl
  have hruns : s.ice.clearDwell ≠ none → watchDwell s = if s.level2 ≤ s.cfg.items.arcClear then none
      else some { s with ice := { s.ice with clearDwell := none } } := fun hd => by
    obtain ⟨b, hb⟩ := Option.ne_none_iff_exists'.1 hd
    unfold watchDwell
    rw [h, hb]
    rfl
  exact ⟨fun hle => ⟨fun hd => (hstopped hd).trans (if_pos hle), fun hd => (hruns hd).trans (if_pos hle)⟩,
    fun hlt => ⟨fun hd => (hstopped hd).trans (if_neg (not_le.2 hlt)), fun hd => (hruns hd).trans (if_neg (not_le.2 hlt))⟩⟩

theorem iceDemand_iff (s : State) (p : Pan) : s.iceDemand p = true ↔ s.IceDemands p := by
  have hheats : s.ice.heats = true ↔ s.ice.state = .suspect ∧ s.ice.susResp = .heat
      ∨ s.ice.state = .confirmed ∧ (s.ice.confResp = .heat ∨ s.ice.confResp = .heatAndScrape) := by
    unfold Ice.heats
    split <;> simp [*]
  have hrole : (s.ch p).role.isSome = true ↔ (s.ch p).role = some .collecting ∨ (s.ch p).role = some .scrape := by
    rcases (s.ch p).role with _ | _ | _ <;> simp
  have hpreheated : s.preheated p = true ↔ ∃ e ∈ s.map.entries, (e.state = .armed ∨ e.state = .active) ∧ e.target = some p := by
    have hstate : ∀ e : Entry, e.state ≠ .pending ↔ e.state = .armed ∨ e.state = .active := fun e => by
      cases e.state <;> simp
    simp [State.preheated, hstate]
  unfold State.iceDemand State.IceDemands
  rw [Bool.and_eq_true, Bool.or_eq_true, Bool.and_eq_true, hheats, hrole, hpreheated]

/-- A heater is wanted by its manual demand or an ice demand (R151). -/
theorem heaterWanted_iff (s : State) (p : Pan) : s.heaterWanted p = true
    ↔ ((s.ice.heaters.get p).manual = true ∨ s.IceDemands p) ∧ s.seq.mode ≠ .roofSafe ∧ (s.ch p).state ≠ .isolated := by
  unfold State.heaterWanted
  rw [Bool.and_eq_true, Bool.and_eq_true, Bool.or_eq_true, iceDemand_iff, decide_eq_true_eq, decide_eq_true_eq, and_assoc,
    or_comm]

end IceStates

section ScrapeConditions

variable {s : State} {p c : Pan}

theorem scrapeWanted_iff (s : State) : s.scrapeWanted = true ↔ s.ScrapeWanted := by
  simp [State.scrapeWanted, State.ScrapeWanted, and_assoc]

theorem ahead_stands (s : State) (p q : Pan) : ahead s.trv.offsets p q = true ↔ s.StandsAhead p q := ahead_iff

theorem couldScrape_iff (s : State) (c p : Pan) : s.couldScrape c p = true
    ↔ s.cfg.items.panClass.get p = s.cfg.items.panClass.get c ∧ s.StandsAhead p c ∧ s.ice.failedSet.get p = false := by
  unfold State.couldScrape
  rw [Bool.and_eq_true, Bool.and_eq_true, Bool.not_eq_true', decide_eq_true_eq, ahead_stands, and_assoc]

theorem excluded_iff (s : State) (p : Pan) : s.excluded p = true ↔ s.InExclusion p := by
  unfold State.excluded State.InExclusion
  rw [List.any_eq_true]
  refine exists_congr fun e => and_congr_right fun _ => ?_
  unfold State.inExclusion travelled Entry.startMm Entry.endMm
  dsimp only
  generalize s.trv.speed * s.cfg.items.lowerAllowTime / 1000 = covered
  rw [Bool.and_eq_true, Bool.and_eq_true, decide_eq_true_eq, decide_eq_true_eq, decide_eq_true_eq, and_assoc]
  refine and_congr_right fun _ => and_congr_left fun _ => ?_
  omega

theorem collectorRaised_none (h : ∀ c, ¬ ((s.ch c).state = .raised ∧ (s.ch c).role = some .collecting)) :
    s.collectorRaised = none := (collectorRaised_eq_none_iff s).2 fun ⟨c, hc⟩ => h c hc

theorem collectorRaised_alone (h : s.CollectsAlone c) : s.collectorRaised = some c :=
  head?_singleton fun d => by simpa using h d

/-- The start of a scrape (R154, R155). -/
theorem startable_iff (h : s.CollectsAlone c) (p : Pan) : s.startable = some p ↔ s.ScrapeWanted
    ∧ (∀ e ∈ s.map.entries, e.state ≠ .active) ∧ s.cfg.items.scrapeMinSpeed ≤ s.trv.speed ∧ s.raisedPans.length < 2
    ∧ s.ScrapeCandidate c p ∧ (∀ q, s.ScrapeCandidate c q → q = p ∨ s.StandsAhead p q) ∧ ¬ s.InExclusion p := by
  have hcandidate : ∀ q, q ∈ pansWhere (fun p => s.couldScrape c p && (s.ch p).state = .lowered) ↔ s.ScrapeCandidate c q :=
    fun q => by
      rw [mem_pansWhere, Bool.and_eq_true, couldScrape_iff, decide_eq_true_eq]
      unfold State.ScrapeCandidate
      tauto
  have hfront : frontMost s.trv.offsets (pansWhere fun p => s.couldScrape c p && (s.ch p).state = .lowered) = some p
      ↔ s.ScrapeCandidate c p ∧ ∀ q, s.ScrapeCandidate c q → q = p ∨ s.StandsAhead p q := by
    rw [frontMost_eq_some, hcandidate]
    simp only [hcandidate, ahead_stands]
  have hconds : (s.scrapeWanted && !s.entryActive && s.cfg.items.scrapeMinSpeed ≤ s.trv.speed && s.raisedPans.length < 2) = true
      ↔ s.ScrapeWanted ∧ (∀ e ∈ s.map.entries, e.state ≠ .active) ∧ s.cfg.items.scrapeMinSpeed ≤ s.trv.speed
        ∧ s.raisedPans.length < 2 := by
    rw [Bool.and_eq_true, Bool.and_eq_true, Bool.and_eq_true, scrapeWanted_iff, Bool.not_eq_true', Bool.eq_false_iff, ne_eq,
      entryActive_iff, not_not, decide_eq_true_eq, decide_eq_true_eq, and_assoc, and_assoc]
  have hstart : s.startable
      = if (s.scrapeWanted && !s.entryActive && s.cfg.items.scrapeMinSpeed ≤ s.trv.speed && s.raisedPans.length < 2) = true
        then (frontMost s.trv.offsets (pansWhere fun p => s.couldScrape c p && (s.ch p).state = .lowered)).filter fun p =>
          !s.excluded p
        else none := by
    unfold State.startable
    rw [collectorRaised_alone h]
  rw [hstart]
  split
  · next hc =>
    obtain ⟨hwanted, hentry, hspeed, htwo⟩ := hconds.1 hc
    rw [Option.filter_eq_some_iff, hfront, Bool.not_eq_true', Bool.eq_false_iff, ne_eq, excluded_iff]
    exact ⟨fun ⟨⟨h1, h2⟩, h3⟩ => ⟨hwanted, hentry, hspeed, htwo, h1, h2, h3⟩,
      fun ⟨_, _, _, _, h1, h2, h3⟩ => ⟨⟨h1, h2⟩, h3⟩⟩
  · next hc =>
    refine iff_of_false (fun h => nomatch h) fun ⟨hwanted, hentry, hspeed, htwo, _⟩ => hc (hconds.2 ⟨hwanted, hentry, hspeed, htwo⟩)

theorem startable_none (h : ∀ c, ¬ ((s.ch c).state = .raised ∧ (s.ch c).role = some .collecting)) : s.startable = none := by
  unfold State.startable
  rw [collectorRaised_none h]

/-- A pantograph that may start to scrape is LOWERED (R154). -/
theorem startable_lowered (h : s.startable = some p) : (s.ch p).state = .lowered := by
  unfold State.startable at h
  split at h
  · split at h
    · obtain ⟨hfront, -⟩ := Option.filter_eq_some_iff.1 h
      have hmem := mem_pansWhere.1 (frontMost_eq_some.1 hfront).1
      rw [Bool.and_eq_true, decide_eq_true_eq] at hmem
      exact hmem.2
    · cases h
  · cases h

/-- The conditions of R157. -/
theorem scrapeHolds_iff (s : State) (p : Pan) : s.scrapeHolds p = true ↔ s.ice.state = .confirmed
    ∧ s.ice.confResp = .heatAndScrape ∧ s.ice.permit = true
    ∧ (∃ c, (s.ch c).state = .raised ∧ (s.ch c).role = some .collecting) ∧ ¬ s.InExclusion p
    ∧ s.cfg.items.scrapeMinSpeed ≤ s.trv.speed := by
  have hraised : s.collectorRaised.isSome = true ↔ ∃ c, (s.ch c).state = .raised ∧ (s.ch c).role = some .collecting := by
    rw [Option.isSome_iff_ne_none, ne_eq, collectorRaised_eq_none_iff, not_not]
  unfold State.scrapeHolds
  simp only [Bool.and_eq_true, decide_eq_true_eq, Bool.not_eq_true', Bool.eq_false_iff, ne_eq, excluded_iff, hraised, and_assoc]

/-- The roof has no scrape pantograph (R154). -/
theorem noScrapePan_iff (h : s.CollectsAlone c) : s.noScrapePan = true ↔ s.NoScraper c := by
  have hnone : s.noScrapePan = (s.scrapeWanted
      && (pansWhere fun p => s.couldScrape c p && (s.ch p).state ≠ .dropped && (s.ch p).state ≠ .isolated).isEmpty) := by
    unfold State.noScrapePan
    rw [collectorRaised_alone h]
  rw [hnone, Bool.and_eq_true, scrapeWanted_iff, List.isEmpty_iff, List.eq_nil_iff_forall_not_mem]
  unfold State.NoScraper
  refine and_congr_right fun _ => forall_congr' fun p => ?_
  rw [mem_pansWhere, Bool.and_eq_true, Bool.and_eq_true, couldScrape_iff, decide_eq_true_eq, decide_eq_true_eq]
  cases s.ice.failedSet.get p
  · simp
    tauto
  · simp

theorem noScrapePan_none (h : ∀ c, ¬ ((s.ch c).state = .raised ∧ (s.ch c).role = some .collecting)) :
    s.noScrapePan = false := by
  unfold State.noScrapePan
  rw [collectorRaised_none h]

/-- The report of a roof without a scrape pantograph (R154). -/
theorem watchNoPan_reports (heval : s.iceEval = true) (hfirst : s.ice.noPanReported = false) (h : s.noScrapePan = true) :
    watchNoPan s = some { s with ice := { s.ice with noPanReported := true }, lnk := raiseAll [.ice] s.lnk } := by
  have hdue : (s.iceEval && s.noScrapePan && !s.ice.noPanReported) = true := by
    rw [heval, hfirst, h]
    rfl
  exact (if_pos hdue).trans (congrArg some (notice_eq ..))

theorem watchNoPan_none (h : s.iceEval = false ∨ s.ice.noPanReported = true ∨ ¬ s.noScrapePan = true) : watchNoPan s = none := by
  unfold watchNoPan
  rw [if_neg]
  rw [Bool.and_eq_true, Bool.and_eq_true, Bool.not_eq_true']
  rintro ⟨⟨heval, hno⟩, hfirst⟩
  rcases h with h | h | h
  · exact absurd (h.symm.trans heval) Bool.false_ne_true
  · exact absurd (hfirst.symm.trans h) Bool.false_ne_true
  · exact h hno

end ScrapeConditions

end Sys2Proof.Machine

/-! ### The limits of ICE and the scrape procedure (R146, R148, R152, R154 to R158) -/

namespace Sys2Proof.Machine

section Requests

variable {s t : State} {p : Pan} {d : Duty} {src : Source} {op : Op}

/-- What Table 3-4 reads of a state. -/
theorem raiseRefusal_congr (hstate : ∀ q, (t.ch q).state = (s.ch q).state) (hrole : ∀ q, (t.ch q).role = (s.ch q).role)
    (hdisc : ∀ q, (t.ch q).disc = (s.ch q).disc) (hmode : t.seq.mode = s.seq.mode) (hbsc : t.bsc = s.bsc) (hmap : t.map = s.map)
    (hlines : t.lines = s.lines) (hcfg : t.cfg = s.cfg) (htrv : t.trv = s.trv) : t.raiseRefusal p d = s.raiseRefusal p d := by
  have hselector : t.selectorSuits p = s.selectorSuits p := by
    unfold State.selectorSuits State.systemPosition
    rw [hbsc, hcfg]
  have hraised : t.raisedPans = s.raisedPans := by
    unfold State.raisedPans
    simp only [hstate]
  have hcollecting : t.collectingRaised = s.collectingRaised := by
    unfold State.collectingRaised
    simp only [hraised, hrole]
  have hcollector : t.collectorRaised = s.collectorRaised := by
    unfold State.collectorRaised
    simp only [hstate, hrole]
  have hroute : t.routeInhibits = s.routeInhibits := by
    unfold State.routeInhibits
    rw [hmap, htrv]
  unfold State.raiseRefusal State.earthed
  rw [hmode, hstate, hdisc, hselector, hcollecting, hcollector, hraised, hlines, hbsc, hroute]

/-- ICE's request of a pantograph without an operation is admitted, and of one whose owner is another is not (R56, R57). -/
theorem admits_free (hjob : (s.ch p).job = none) : s.admits p src = true := by
  unfold State.admits
  rw [hjob]

theorem admits_ice_owned (hjob : (s.ch p).job = some ⟨src, op⟩) (hsrc : src ≠ .ice) : s.admits p .ice = false := by
  unfold State.admits
  rw [hjob]
  cases src with
  | authority l => rfl
  | sequencer => rfl
  | ice => exact absurd rfl hsrc

end Requests

section Procedure

variable {s t : State} {p : Pan} {src : Source} {op : Op}

/-- ICE's RAISE request of a pantograph without an operation (R156). -/
theorem scrapeRaise_grants (hjob : (s.ch p).job = none) (hlow : (s.ch p).state = .lowered)
    (hdisc : (s.ch p).disc = .resting .disconnected) (href : s.raiseRefusal p .scrape = none) :
    (scrapeRaise p s).ice = { s.ice with proc := .raise p false }
    ∧ ((scrapeRaise p s).ch p).state = (if s.lines.contact.get p then .settling else .raising)
    ∧ ((scrapeRaise p s).ch p).role = some .scrape ∧ ((scrapeRaise p s).ch p).job = some ⟨.ice, .raise .scrape⟩
    ∧ ∀ q, q ≠ p → (scrapeRaise p s).ch q = s.ch q := by
  have hrequest := requestRaise_lowered (d := .scrape) (admits_free (src := .ice) hjob) hlow
    (by rw [hdisc]; exact fun h => nomatch h)
  rw [href] at hrequest
  have hraise : scrapeRaise p s = setProc (.raise p false) (grantRaise p .scrape (takeOver p .ice (.raise .scrape) s)) := by
    unfold scrapeRaise
    rw [hrequest]
  rw [hraise, grantTaken_eq]
  have hset : ∀ c, (s.pch.set p c).get p = c := fun c => PerPan.get_set_same ..
  exact ⟨rfl, congrArg Channel.state (hset _), congrArg Channel.role (hset _), congrArg Channel.job (hset _),
    fun q hq => PerPan.get_set_ne _ _ hq⟩

/-- ICE's RAISE request that Table 3-4 refuses (R156). -/
theorem scrapeRaise_refused (hjob : (s.ch p).job = none) (hlow : (s.ch p).state = .lowered)
    (hdisc : (s.ch p).disc = .resting .disconnected) (href : s.raiseRefusal p .scrape ≠ none) :
    scrapeRaise p s = setProc .idle s := by
  have hrequest := requestRaise_lowered (d := .scrape) (admits_free (src := .ice) hjob) hlow
    (by rw [hdisc]; exact fun h => nomatch h)
  obtain ⟨st, hst⟩ := Option.ne_none_iff_exists'.1 href
  rw [hst] at hrequest
  unfold scrapeRaise
  rw [hrequest]

/-- ICE's request for a pantograph of another owner stands (R156). -/
theorem scrapeRaise_stands (hjob : (s.ch p).job = some ⟨src, op⟩) (hsrc : src ≠ .ice) :
    scrapeRaise p s = setProc (.raise p true) s := by
  unfold scrapeRaise
  rw [requestRaise_busy (admits_ice_owned hjob hsrc)]

theorem scrapeDisconnect_stands (hjob : (s.ch p).job = some ⟨src, op⟩) (hsrc : src ≠ .ice) :
    scrapeDisconnect p s = setProc (.disconnect p true) s := by
  unfold scrapeDisconnect
  rw [requestDisc_busy (admits_ice_owned hjob hsrc)]

/-- ICE's DISC_MOVE request of a pantograph without an operation (R156). -/
theorem scrapeDisconnect_moves (hjob : (s.ch p).job = none) (hlow : (s.ch p).state = .lowered)
    (hdisc : (s.ch p).disc ≠ .resting .disconnected) :
    (scrapeDisconnect p s).ice = { s.ice with proc := .disconnect p false }
    ∧ ((scrapeDisconnect p s).ch p).disc = .moving .disconnected
    ∧ ((scrapeDisconnect p s).ch p).job = some ⟨.ice, .discMove .disconnected⟩
    ∧ ((scrapeDisconnect p s).ch p).state = .lowered ∧ ∀ q, q ≠ p → (scrapeDisconnect p s).ch q = s.ch q := by
  have hmoves : (s.ch p).state = .lowered
        ∧ ((s.ch p).disc = .failed ∨ ∃ r, r ≠ .disconnected ∧ (s.ch p).disc = .resting r)
      ∨ (s.ch p).state ≠ .dropped ∧ (s.ch p).state ≠ .isolated ∧ ∃ r, (s.ch p).disc = .moving r := by
    cases h : (s.ch p).disc with
    | moving r =>
      refine .inr ⟨?_, ?_, r, rfl⟩ <;> rw [hlow] <;> exact fun h => nomatch h
    | resting r => exact .inl ⟨hlow, .inr ⟨r, fun hr => hdisc (by rw [h, hr]), rfl⟩⟩
    | failed => exact .inl ⟨hlow, .inl rfl⟩
  have hmove : scrapeDisconnect p s
      = setProc (.disconnect p false) (startDisc p .disconnected (takeOver p .ice (.discMove .disconnected) s)) := by
    unfold scrapeDisconnect
    rw [requestDisc_starts (admits_free hjob) hmoves]
  rw [hmove, discTaken_eq]
  have hset : ∀ c, (s.pch.set p c).get p = c := fun c => PerPan.get_set_same ..
  exact ⟨rfl, congrArg Channel.disc (hset _), congrArg Channel.job (hset _),
    (congrArg Channel.state (hset _)).trans ((freedFor_state ..).trans hlow), fun q hq => PerPan.get_set_ne _ _ hq⟩

/-- ICE's DISC_MOVE request of a disconnector that rests DISCONNECTED already leads to its RAISE (R156). -/
theorem scrapeDisconnect_raises (hjob : (s.ch p).job = none) (hlow : (s.ch p).state = .lowered)
    (hdisc : (s.ch p).disc = .resting .disconnected) (href : s.raiseRefusal p .scrape = none) :
    (scrapeDisconnect p s).ice = { s.ice with proc := .raise p false }
    ∧ ((scrapeDisconnect p s).ch p).state = (if s.lines.contact.get p then .settling else .raising)
    ∧ ((scrapeDisconnect p s).ch p).role = some .scrape ∧ ((scrapeDisconnect p s).ch p).job = some ⟨.ice, .raise .scrape⟩
    ∧ ∀ q, q ≠ p → (scrapeDisconnect p s).ch q = s.ch q := by
  obtain ⟨t, ht⟩ : ∃ t, t = endJob p .done (takeOver p .ice (.discMove .disconnected) s) := ⟨_, rfl⟩
  have hraise : scrapeDisconnect p s = scrapeRaise p t := by
    unfold scrapeDisconnect
    rw [requestDisc_done (admits_free hjob) hlow hdisc, ← ht]
  rw [endTaken_eq] at ht
  have hch : t.ch p = (s.ch p).ended ⟨.ice, .discMove .disconnected⟩ .done := by
    rw [ht]
    exact PerPan.get_set_same ..
  have hothers : ∀ q, q ≠ p → t.ch q = s.ch q := fun q hq => by
    rw [ht]
    exact PerPan.get_set_ne _ _ hq
  have hsame : ∀ {α : Type} (f : Channel → α), f (t.ch p) = f (s.ch p) → ∀ q, f (t.ch q) = f (s.ch q) := fun f h q => by
    by_cases hq : q = p
    · rw [hq]
      exact h
    · rw [hothers q hq]
  have hrefusal : t.raiseRefusal p .scrape = none := by
    rw [← href]
    refine raiseRefusal_congr (hsame _ (by rw [hch]; rfl)) (hsame _ (by rw [hch]; rfl)) (hsame _ (by rw [hch]; rfl))
      ?_ ?_ ?_ ?_ ?_ ?_ <;> rw [ht]
  obtain ⟨hice, hstate, hrole, hjob', hleft⟩ := scrapeRaise_grants (s := t) (p := p) (by rw [hch]; rfl)
    ((congrArg Channel.state hch).trans hlow) ((congrArg Channel.disc hch).trans hdisc) hrefusal
  rw [hraise]
  have hfields : t.ice = s.ice ∧ t.lines = s.lines := by
    rw [ht]
    exact ⟨rfl, rfl⟩
  rw [hfields.1] at hice
  rw [hfields.2] at hstate
  exact ⟨hice, hstate, hrole, hjob', fun q hq => (hleft q hq).trans (hothers q hq)⟩

/-! An evaluation that an event owes (R154, R156). -/

theorem watchScrape_owed (h : s.iceEval = true) : watchScrape s = some (scrapeEvaluate (s.setIceEval false)) := if_pos h

theorem watchScrape_none (h : s.iceEval = false) : watchScrape s = none := if_neg (by rw [h]; exact Bool.false_ne_true)

theorem evaluate_idle (h : s.ice.proc = .idle) (hno : s.startable = none) : scrapeEvaluate s = s := by
  unfold scrapeEvaluate
  rw [h, hno]

theorem evaluate_starts (h : s.ice.proc = .idle) (hp : s.startable = some p) : scrapeEvaluate s = scrapeStart p s := by
  unfold scrapeEvaluate
  rw [h, hp]

theorem evaluate_disconnect (h : s.ice.proc = .disconnect p true) (hp : s.startable = some p) :
    scrapeEvaluate s = scrapeDisconnect p s := by
  unfold scrapeEvaluate
  rw [h]
  exact if_pos hp

theorem evaluate_raise (h : s.ice.proc = .raise p true) (hp : s.startable = some p) : scrapeEvaluate s = scrapeRaise p s := by
  unfold scrapeEvaluate
  rw [h]
  exact if_pos hp

/-- A standing request is given up where R154 has ceased (R156). -/
theorem evaluate_gives_up (h : s.ice.proc = .disconnect p true ∨ s.ice.proc = .raise p true) (hp : s.startable ≠ some p) :
    scrapeEvaluate s = setProc .idle s := by
  unfold scrapeEvaluate
  rcases h with h | h <;> rw [h] <;> exact if_neg hp

theorem scrapeStart_raise (h : (s.ch p).disc = .resting .disconnected) : scrapeStart p s = scrapeRaise p s := if_pos h

theorem scrapeStart_disconnect (h : (s.ch p).disc ≠ .resting .disconnected) : scrapeStart p s = scrapeDisconnect p s := if_neg h

end Procedure

section Reports

variable {s t : State} {p : Pan} {out : OpOutcome}

/-- ICE's LOWER of its scraper with the lowered limit not active (R157). -/
theorem scrapeStop_lowers (hproc : s.ice.proc = .on p) (hjob : (s.ch p).job = none) (hraised : (s.ch p).state.isRaised = true)
    (hrole : (s.ch p).role = some .scrape) (hup : s.lines.lowered.get p = false) :
    (scrapeStop s).ice = { s.ice with proc := .lower p } ∧ ((scrapeStop s).ch p).state = .lowering
    ∧ ((scrapeStop s).ch p).job = some ⟨.ice, .lower⟩ ∧ ∀ q, q ≠ p → (scrapeStop s).ch q = s.ch q := by
  have hrequest := requestLower_raised (admits_free (src := .ice) hjob) hraised
  rw [if_pos (.inl hrole)] at hrequest
  have hstop : scrapeStop s = setProc (.lower p) (enterLowering p (takeOver p .ice .lower s)) := by
    unfold scrapeStop
    rw [hproc]
    dsimp only
    rw [hrequest]
  have hlowers : s.lowers p .ice ((s.ch p).freedFor .ice) = { (s.ch p).freedFor .ice with
      settle := none, loss := none, below := 0, lowerReq := false
      lowerStart := s.clk.total, lowerLen := s.cfg.items.lowerLimit, lowerFired := false
      state := .lowering, job := some ⟨.ice, .lower⟩ } := by
    unfold State.lowers
    rw [hup]
    rfl
  rw [hstop, lowerTaken_eq, hlowers, hup]
  have hset : ∀ c, (s.pch.set p c).get p = c := fun c => PerPan.get_set_same ..
  exact ⟨rfl, congrArg Channel.state (hset _), congrArg Channel.job (hset _), fun q hq => PerPan.get_set_ne _ _ hq⟩

theorem scrapeGoesOn_iff (s : State) (p : Pan) : s.scrapeGoesOn p = true ↔ s.iceEval = false ∨ s.scrapeHolds p = true := by
  simp [State.scrapeGoesOn]

theorem watchProc_on (hproc : s.ice.proc = .on p) (hraised : (s.ch p).state.isRaised = true)
    (hrole : (s.ch p).role = some .scrape) : watchProc s = if s.scrapeGoesOn p then none else some (scrapeStop s) := by
  unfold watchProc
  rw [hproc]
  exact if_neg (by simp [hraised, hrole])

theorem watchProc_left (hproc : s.ice.proc = .on p) (hdown : (s.ch p).state.isRaised = false) :
    watchProc s = some (setProc .idle s) := by
  unfold watchProc
  rw [hproc]
  exact if_pos (by simp [hdown])

theorem watchProc_lower (hproc : s.ice.proc = .lower p) :
    watchProc s = if (s.ch p).state = .lowering then none else some (setProc .idle s) := by
  unfold watchProc
  rw [hproc]

/-! The outcomes of ICE's operations and the faults of its pantograph (R156 to R158). -/

theorem iceReport_ended (p : Pan) (op : Op) (out : OpOutcome) (s : State) :
    iceReport (.opEnded p .ice op out) s = iceOpEnded p op out (s.setIceEval true) := rfl

/-- The end of ICE's RAISE (R156, R158). -/
theorem iceReport_raise (h : s.ice.proc = .raise p false) :
    (iceReport (.opEnded p .ice (.raise .scrape) .done) s).ice = { s.ice with proc := .on p }
    ∧ (iceReport (.opEnded p .ice (.raise .scrape) .aborted) s).ice = { s.ice with proc := .idle }
    ∧ (∀ r, (iceReport (.opEnded p .ice (.raise .scrape) (.failed r)) s).ice = { s.ice with proc := .idle })
    ∧ (∀ d, (iceReport (.opEnded p .ice (.discMove d) .done) s).ice = s.ice) := by
  have hraise : (s.setIceEval true).ice.proc.waitsFor p (.raise .scrape) = true :=
    (congrArg (fun x => Scrape.waitsFor p x (.raise .scrape)) h).trans (decide_eq_true rfl)
  have hmove : ∀ d, (s.setIceEval true).ice.proc.waitsFor p (.discMove d) = false := fun d =>
    congrArg (fun x => Scrape.waitsFor p x (.discMove d)) h
  simp only [iceReport_ended, iceOpEnded, hraise, hmove, if_true, Bool.false_eq_true, if_false]
  exact ⟨rfl, rfl, fun r => rfl, fun d => rfl⟩

/-- The end of ICE's DISC_MOVE (R156). -/
theorem iceReport_disconnect (h : s.ice.proc = .disconnect p false) :
    (iceReport (.opEnded p .ice (.discMove .disconnected) .aborted) s).ice = { s.ice with proc := .idle }
    ∧ (∀ r, (iceReport (.opEnded p .ice (.discMove .disconnected) (.failed r)) s).ice = { s.ice with proc := .idle })
    ∧ (iceReport (.opEnded p .ice (.discMove .disconnected) .done) s
        = if s.startable = some p then scrapeRaise p (s.setIceEval true) else setProc .idle (s.setIceEval true)) := by
  have hmove : (s.setIceEval true).ice.proc.waitsFor p (.discMove .disconnected) = true :=
    (congrArg (fun x => Scrape.waitsFor p x (.discMove .disconnected)) h).trans (decide_eq_true rfl)
  simp only [iceReport_ended, iceOpEnded, hmove, if_true]
  exact ⟨rfl, fun r => rfl, rfl⟩

/-- The end of ICE's LOWER (R157). -/
theorem iceReport_lower (h : s.ice.proc = .lower p) :
    (iceReport (.opEnded p .ice .lower .done) s).ice = { s.ice with proc := .idle }
    ∧ (iceReport (.opEnded p .ice .lower .aborted) s).ice = { s.ice with proc := .idle }
    ∧ (∀ r, (iceReport (.opEnded p .ice .lower (.failed r)) s).ice = s.ice) := by
  have hlower : (s.setIceEval true).ice.proc.waitsFor p .lower = true :=
    (congrArg (fun x => Scrape.waitsFor p x .lower) h).trans (decide_eq_true rfl)
  simp only [iceReport_ended, iceOpEnded, hlower, if_true]
  exact ⟨rfl, rfl, fun r => rfl⟩

/-- A fault of the pantograph the procedure holds (R158). -/
theorem iceReport_fault {k : FaultKind} (hk : k = .raiseTimeout ∨ k = .contactLost ∨ k = .disconnectorFail)
    (h : s.ice.proc.held = some p) :
    (iceReport (.fault k (some p)) s).ice = { s.ice with failedSet := s.ice.failedSet.set p true, proc := .idle } := by
  rcases hk with rfl | rfl | rfl <;> exact congrArg State.ice (if_pos h)

/-- A trip of a scraper (R158). -/
theorem iceReport_trip (h : s.ice.proc.held = some p ∨ (s.ch p).role = some .scrape) :
    (iceReport (.fault .addTrip (some p)) s).ice = { s.ice with block := some p, proc := .idle }
    ∧ (iceReport (.fault .addTrip (some p)) s).Noticed .ice := by
  have htrip : iceReport (.fault .addTrip (some p)) s
      = notice .ice (s.modIce fun i => { i with block := some p, proc := .idle }) := if_pos h
  rw [htrip, notice_eq]
  exact ⟨rfl, noticed_of_raised rfl List.mem_cons_self⟩

end Reports

section IceRows

variable {s : State}

/-- A state is itself with an evaluation owed. -/
theorem owed_again (h : s.iceEval = true) : { s.setIceEval false with iceEval := true } = s :=
  congrArg (fun b => ({ s with iceEval := b } : State)) h.symm

/-- Settles O53. -/
theorem iceLimitsAct : Obligations.IceLimitsAct := by
  intro s
  refine ⟨fun hdue => ?release, fun hdue => ?dwell, fun p hdue => ?rests, fun p hdue => ?restEnds, level2_zero,
    fun p y hp hy => level2_counts hp hy, watchIceState_none, watchIceState_watch, watchIceState_suspect, watchDwell_none,
    watchDwell_confirmed, heaterWanted_iff s, startable_none, fun c p hc => startable_iff hc p, scrapeHolds_iff s,
    fun h => watchNoPan_none (.inr (.inr (by rw [noScrapePan_none h]; exact Bool.false_ne_true))),
    fun c hc => ⟨fun heval hfirst hno => ?reports, fun h => ?silent, noScrapePan_iff hc⟩, watchScrape_none,
    fun heval => ⟨fun hidle hno => ?quiet, fun p hp hjob => ⟨fun hproc hdisc => ?moves, fun hproc hdisc href => ?raises,
      fun hproc hdisc href => ?refused⟩, fun p src op hp hjob hsrc => ⟨fun hproc hdisc => ?standsMove,
      fun hproc hdisc => ?standsRaise, fun hproc => ?stands⟩, fun p hp hproc => ?givesUp⟩,
    fun p => ⟨iceReport_raise, fun hproc => ?disconnect, fun hproc => ?lower, fun hheld k hk => iceReport_fault hk hheld,
      iceReport_trip, fun hproc hraised hrole => ⟨fun hgo => ?goesOn, fun heval hno hjob hup => ?stops⟩,
      fun hproc hdown => ⟨_, watchProc_left hproc hdown, rfl, rfl⟩⟩⟩
  case release => exact ⟨_, atLimit_due hdue _ _, rfl, rfl⟩
  case dwell =>
    have hexec : exec .clearDwellExpiry s = .next (settle (setIceState .suspect s)) := atLimit_due hdue _ _
    have hstate : s.ice.state = .confirmed := by
      simp only [State.dwellDue, Bool.and_eq_true, decide_eq_true_eq] at hdue
      exact hdue.1
    rw [setIceState_eq (by rw [hstate]; exact fun h => nomatch h), if_pos hstate] at hexec
    refine ⟨_, hexec, rfl, (raises_of_lnk rfl).congr fun _ => ?_, rfl⟩
    rw [hstate]
    rfl
  case rests =>
    have hexec : exec (.heaterOnTimeLimit p) s = .next (settle (heaterRests p s)) := atLimit_due hdue _ _
    rw [heaterRests, notice_eq] at hexec
    exact ⟨_, hexec, rfl, raises_of_lnk rfl, rfl⟩
  case restEnds =>
    have hexec : exec (.heaterRestEnd p) s = .next (settle (heaterRestEnds p s)) := atLimit_due hdue _ _
    exact ⟨_, hexec, rfl, rfl, rfl⟩
  case reports =>
    exact ⟨_, watchNoPan_reports heval hfirst ((noScrapePan_iff hc).2 hno), rfl, raises_of_lnk rfl, rfl⟩
  case silent => exact watchNoPan_none (h.imp_right (Or.imp_right (mt (noScrapePan_iff hc).1)))
  case quiet =>
    refine ⟨_, watchScrape_owed heval, ?_⟩
    rw [evaluate_idle (s := s.setIceEval false) hidle hno]
    exact owed_again heval
  case moves =>
    have hlow := startable_lowered hp
    have heq : scrapeEvaluate (s.setIceEval false) = scrapeDisconnect p (s.setIceEval false) := by
      rcases hproc with hproc | hproc
      · exact (evaluate_starts (s := s.setIceEval false) hproc hp).trans (scrapeStart_disconnect hdisc)
      · exact evaluate_disconnect hproc hp
    refine ⟨_, watchScrape_owed heval, ?_⟩
    rw [heq]
    exact scrapeDisconnect_moves (s := s.setIceEval false) hjob hlow hdisc
  case raises =>
    have hlow := startable_lowered hp
    refine ⟨_, watchScrape_owed heval, ?_⟩
    rcases hproc with hproc | hproc | hproc
    · rw [evaluate_starts (s := s.setIceEval false) hproc hp, scrapeStart_raise (s := s.setIceEval false) hdisc]
      exact scrapeRaise_grants (s := s.setIceEval false) hjob hlow hdisc href
    · rw [evaluate_disconnect (s := s.setIceEval false) hproc hp]
      exact scrapeDisconnect_raises (s := s.setIceEval false) hjob hlow hdisc href
    · rw [evaluate_raise (s := s.setIceEval false) hproc hp]
      exact scrapeRaise_grants (s := s.setIceEval false) hjob hlow hdisc href
  case refused =>
    refine ⟨_, watchScrape_owed heval, ?_⟩
    rw [evaluate_starts (s := s.setIceEval false) hproc hp, scrapeStart_raise (s := s.setIceEval false) hdisc,
      scrapeRaise_refused (s := s.setIceEval false) hjob (startable_lowered hp) hdisc href]
    refine Eq.trans ?_ (owed_again heval)
    exact congrArg (fun x => ({ s with ice := { s.ice with proc := x }, iceEval := true } : State)) hproc.symm
  case standsMove =>
    refine ⟨_, watchScrape_owed heval, ?_⟩
    rw [evaluate_starts (s := s.setIceEval false) hproc hp, scrapeStart_disconnect (s := s.setIceEval false) hdisc,
      scrapeDisconnect_stands (s := s.setIceEval false) hjob hsrc]
    exact ⟨rfl, rfl⟩
  case standsRaise =>
    refine ⟨_, watchScrape_owed heval, ?_⟩
    rw [evaluate_starts (s := s.setIceEval false) hproc hp, scrapeStart_raise (s := s.setIceEval false) hdisc,
      scrapeRaise_stands (s := s.setIceEval false) hjob hsrc]
    exact ⟨rfl, rfl⟩
  case stands =>
    refine ⟨_, watchScrape_owed heval, ?_⟩
    rcases hproc with hproc | hproc
    · rw [evaluate_disconnect (s := s.setIceEval false) hproc hp, scrapeDisconnect_stands (s := s.setIceEval false) hjob hsrc,
        ← hproc]
      exact ⟨rfl, rfl⟩
    · rw [evaluate_raise (s := s.setIceEval false) hproc hp, scrapeRaise_stands (s := s.setIceEval false) hjob hsrc, ← hproc]
      exact ⟨rfl, rfl⟩
  case givesUp =>
    refine ⟨_, watchScrape_owed heval, ?_⟩
    rw [evaluate_gives_up (s := s.setIceEval false) hproc hp]
    exact ⟨rfl, rfl⟩
  case disconnect =>
    obtain ⟨haborted, hfailed, hdone⟩ := iceReport_disconnect hproc
    refine ⟨haborted, hfailed, fun hno => ?_, fun hp hjob hdisc href => ?_⟩
    · rw [hdone, if_neg hno]
      rfl
    · rw [hdone, if_pos hp]
      exact (scrapeRaise_grants (s := s.setIceEval true) hjob (startable_lowered hp) hdisc href).1
  case lower =>
    obtain ⟨hdone, haborted, hfailed⟩ := iceReport_lower hproc
    exact ⟨hdone, haborted, hfailed, fun h => (watchProc_lower hproc).trans (if_pos h),
      fun h => ⟨_, (watchProc_lower hproc).trans (if_neg h), rfl, rfl⟩⟩
  case goesOn =>
    rw [watchProc_on hproc hraised hrole]
    exact if_pos ((scrapeGoesOn_iff s p).2 hgo)
  case stops =>
    have hends : ¬ s.scrapeGoesOn p = true := by
      rw [scrapeGoesOn_iff, heval, hno]
      exact fun h => h.elim (fun h => nomatch h) fun h => nomatch h
    exact ⟨_, (watchProc_on hproc hraised hrole).trans (if_neg hends), scrapeStop_lowers hproc hjob hraised hrole hup⟩

end IceRows

end Sys2Proof.Machine

/-! ### The selector, the earthing switch and the entry into ROOF_SAFE (R90, R91, R93, R133, R137, R138) -/

namespace Sys2Proof.Machine

section Selector

variable {s t : State} {q : SelPos}

/-- The last result of the selector after the end of a move (R92). -/
def State.moveResult (s : State) (done : Bool) : Option SelectorResult :=
  match s.bsc.moveSource with
  | some src => some ⟨src, done⟩
  | none => s.bsc.selectorResult

theorem moveResult_of_source {src : Source} (h : s.bsc.moveSource = some src) (done : Bool) :
    s.moveResult done = some ⟨src, done⟩ := by
  unfold State.moveResult
  rw [h]

theorem endMove_eq (done : Bool) (s : State) : endMove done s = { s with
    bsc := { s.bsc with moveSource := none, selectorResult := s.moveResult done }, lnk := raiseAll [.selector] s.lnk
    longOps := s.longOps.filter fun o => o.kind ≠ .select } := by
  rw [endMove, notice_eq]
  rfl

/-- The system check changes the fault record, the notices and the reports (R85). -/
theorem systemCheck_form (s : State) : ∃ fault cs reports, systemCheck s = { s with
    fault := fault, lnk := raiseAll cs s.lnk, reports := reports } := by
  by_cases h : s.Mismatch s.ldet.detected
  · exact ⟨_, _, _, systemCheck_mismatch h⟩
  · refine ⟨s.fault, [], s.reports, (systemCheck_agrees h).trans ?_⟩
    rw [raiseAll_nil]

/-- The end of a move at the position sought (R91). -/
theorem selectorRests_eq (q : SelPos) (s : State) : ∃ fault cs reports, selectorRests q s = { s with
    bsc := { s.bsc with selector := .rest q, moveSource := none, selectorResult := s.moveResult true }
    longOps := s.longOps.filter fun o => o.kind ≠ .select, fault := fault, lnk := raiseAll cs s.lnk, reports := reports } := by
  obtain ⟨fault, cs, reports, heq⟩ := systemCheck_form (endMove true (s.modBsc fun x => { x with selector := .rest q }))
  rw [endMove_eq] at heq
  simp only [raiseAll_raiseAll] at heq
  refine ⟨fault, [.selector] ++ cs, reports, Eq.trans ?_ heq⟩
  rw [selectorRests, endMove_eq]

/-- A selector that fails (R91). -/
theorem selectorFails_eq (q : SelPos) (s : State) : selectorFails q s = { s with
    bsc := { s.bsc with selector := .failed q, moveSource := none, selectorResult := s.moveResult false }
    longOps := s.longOps.filter fun o => o.kind ≠ .select, fault := s.captured .selectorFail none none
    lnk := raiseAll [.fault, .selector] s.lnk
    reports := s.reports ++ [.fault .selectorFail none, .selectorFailed] } := by
  rw [selectorFails, endMove_eq, reportFault_eq]
  simp only [raiseAll_raiseAll]
  unfold report
  simp only [State.setReports, List.append_assoc]
  rfl

theorem betweenClasses_iff (left : Option SelPos) (sought : SelPos) : betweenClasses left sought = false
    ↔ ∃ y z, left = some (.sys y) ∧ sought = .sys z ∧ y.cls = z.cls := by
  unfold betweenClasses
  split <;> simp_all

theorem connectedLowered_iff (s : State) : s.connectedLowered = true
    ↔ ∀ p, (s.ch p).disc = .resting .connected → (s.ch p).state = .lowered := by
  simp [State.connectedLowered, mem_pan_all, or_iff_not_imp_left]

/-- The conditions under which a move goes on (R90). -/
theorem moveGoesOn_iff (s : State) (left : Option SelPos) (sought : SelPos) :
    (decide (s.bsc.breaker = .opened) && (!betweenClasses left sought || s.connectedLowered)) = true ↔ s.MoveGoesOn left sought := by
  rw [Bool.and_eq_true, decide_eq_true_eq, Bool.or_eq_true, Bool.not_eq_true', betweenClasses_iff, connectedLowered_iff]
  rfl

theorem watchMove_moving {left : Option SelPos} (h : s.bsc.selector = .moving left q) : watchMove s
    = if (decide (s.bsc.breaker = .opened) && (!betweenClasses left q || s.connectedLowered)) = true then none
      else some (selectorFails q s) := by
  unfold watchMove
  rw [h]

theorem watchMove_still (h : ∀ left sought, s.bsc.selector ≠ .moving left sought) : watchMove s = none := by
  unfold watchMove
  cases hs : s.bsc.selector with
  | moving left sought => exact absurd hs (h left sought)
  | rest q => rfl
  | failed q => rfl

end Selector

section Permit

variable {s t : State}

theorem permitHolds_iff (s : State) : s.permitHolds = true ↔ (∀ p, (s.ch p).state = .lowered ∨ (s.ch p).state = .isolated)
    ∧ s.bsc.breaker = .opened ∧ s.ldet.detected = .raw .dead ∧ s.trv.speed = 0 := by
  simp [State.permitHolds, State.standstill, mem_pan_all, and_assoc]

/-- The withdrawal of the permit (R93). -/
theorem watchPermit_withdraws (hp : s.bsc.permit = true) (h : ¬ s.permitHolds = true) : ∃ fault reports, watchPermit s
    = some { s with
      bsc := { s.bsc with permit := false }, lnk := raiseAll (if s.lines.earthed then [.earth, .fault] else [.earth]) s.lnk
      fault := fault, reports := reports }
    ∧ (s.lines.earthed = false → fault = s.fault ∧ reports = s.reports)
    ∧ (s.lines.earthed = true → fault = s.captured .earthUnexpected none none
        ∧ reports = s.reports ++ [.fault .earthUnexpected none]) := by
  have hset : setPermit false s = { s with bsc := { s.bsc with permit := false }, lnk := raiseAll [.earth] s.lnk } := by
    rw [setPermit, if_neg (by rw [hp]; exact Bool.noConfusion), notice_eq]
    rfl
  have hwatch : watchPermit s = some (earthUnexpected (setPermit false s)) := by
    unfold watchPermit
    rw [hp, Bool.eq_false_iff.2 h]
    rfl
  rw [hwatch, hset]
  unfold earthUnexpected State.earthed
  cases s.lines.earthed with
  | false =>
    exact ⟨s.fault, s.reports, rfl, fun _ => ⟨rfl, rfl⟩, (fun h => nomatch h)⟩
  | true =>
    refine ⟨s.captured .earthUnexpected none none, s.reports ++ [.fault .earthUnexpected none], congrArg some ?_,
      (fun h => nomatch h), fun _ => ⟨rfl, rfl⟩⟩
    refine (reportFault_eq ..).trans ?_
    simp only [raiseAll_raiseAll]
    rfl

theorem watchPermit_stands (h : s.bsc.permit = false ∨ s.permitHolds = true) : watchPermit s = none := by
  unfold watchPermit
  rcases h with h | h <;> simp [h]

end Permit

section RoofSafe

variable {s t : State}

theorem allProtected_congr (hpch : t.pch = s.pch) (hlines : t.lines = s.lines) (hcfg : t.cfg = s.cfg) (hclk : t.clk = s.clk) :
    t.allProtected = s.allProtected := by
  have hprot : t.protected = s.protected := by
    funext p
    unfold State.protected State.lowering State.ch
    rw [hpch, hlines, hcfg, hclk]
  unfold State.allProtected
  rw [hprot]

/-- The heaters at the entry into ROOF_SAFE (R138, R160). -/
def Ice.ceased (i : Ice) : PerPan Heater := ⟨i.heaters.p1.cease, i.heaters.p2.cease, i.heaters.p3.cease, i.heaters.p4.cease⟩

theorem ceased_get (i : Ice) (p : Pan) : i.ceased.get p = ⟨match (i.heaters.get p).out with
    | .on _ | .off => .off
    | .rest b => .rest b, false⟩ := by
  have hcease : ∀ h : Heater, h.cease = ⟨match h.out with
      | .on _ | .off => .off
      | .rest b => .rest b, false⟩ := fun h => by
    unfold Heater.cease HeaterOut.switchOff
    cases h.out <;> rfl
  cases p <;> exact hcease _

theorem iceRoofSafe_eq (s : State) :
    iceRoofSafe s = { s with ice := { s.ice with heaters := s.ice.ceased, proc := .idle } } := rfl

theorem returnAll_eq (s : State) : ∃ action, returnAll s = { s with
    map := { s.map with entries := s.map.entries.map Entry.returned, action := action }
    lnk := raiseAll (if ∃ e ∈ s.map.entries, e.state = .armed then [.entry] else []) s.lnk } := by
  obtain ⟨action, h⟩ := returnWhere_eq (fun _ => true) s
  refine ⟨action, h.trans ?_⟩
  simp only [and_true]
  rfl

theorem cancelledWith_congr {cause : CancelCause} {map : RouteMap} {last : Option LastSeq} (h : CancelledWith cause t map last)
    (hmap : t.map = s.map) (hctx : t.seq.ctx = s.seq.ctx) (hlast : t.seq.last = s.seq.last) (hclk : t.clk = s.clk)
    (htrv : t.trv = s.trv) : CancelledWith cause s map last := by
  unfold CancelledWith at h ⊢
  rw [hmap, hctx, hlast, hclk, htrv] at h
  exact h

/-- The entry into ROOF_SAFE (R137, R138, R160). -/
theorem roofSafe_eq (h : s.seq.mode ≠ .roofSafe) : ∃ freg start arcs keep reports cs map action last, roofSafe s = { s with
    pch := s.allProtected, freg := freg
    bsc := { s.bsc with breaker := s.bsc.breaker.requested, limitStart := start, traction := false, reclose := false }
    map := { map with entries := map.entries.map Entry.returned, action := action }
    seq := { s.seq with mode := .roofSafe, ctx := none, last := last }
    ice := { s.ice with arcs := arcs, heaters := s.ice.ceased, proc := .idle }
    lnk := raiseAll cs s.lnk, longOps := s.longOps.filter keep
    fault := s.captured .roofSafeEntry none (s.activeEntry.map (·.id)), reports := reports, iceEval := true }
    ∧ .roofSafe ∈ cs ∧ CancelledWith .roofSafe s map last := by
  obtain ⟨a, ha⟩ : ∃ a, a = notice .roofSafe ((reportFault .roofSafeEntry none (s.activeEntry.map (·.id)) s).modSeq
    fun q => { q with mode := .roofSafe }) := ⟨_, rfl⟩
  have hsafe : roofSafe s = (returnAll (cancelSequence .roofSafe (iceRoofSafe (forPans protectiveLower
      (clearTraction (openRequest a)))))).setIceEval true := by
    rw [ha, roofSafe, if_neg h]
  rw [notice_eq, reportFault_eq] at ha
  simp only [State.modSeq, raiseAll_raiseAll] at ha
  obtain ⟨start, hb⟩ := clearTraction_openRequest a
  obtain ⟨b, hbdef⟩ : ∃ b, b = clearTraction (openRequest a) := ⟨_, rfl⟩
  rw [← hbdef] at hb hsafe
  obtain ⟨freg, arcs, keep, reports, eval, hc⟩ := protectAll_eq b
  obtain ⟨d, hd⟩ : ∃ d, d = iceRoofSafe (forPans protectiveLower b) := ⟨_, rfl⟩
  rw [← hd] at hsafe
  rw [hc, iceRoofSafe_eq] at hd
  obtain ⟨map, last, eval', he, hfacts⟩ := cancelSequence_eq .roofSafe d
  obtain ⟨e, hedef⟩ : ∃ e, e = cancelSequence .roofSafe d := ⟨_, rfl⟩
  rw [← hedef] at he hsafe
  obtain ⟨action, hf⟩ := returnAll_eq e
  have hmaps : d.map = s.map ∧ d.seq.ctx = s.seq.ctx ∧ d.seq.last = s.seq.last ∧ d.clk = s.clk ∧ d.trv = s.trv := by
    rw [hd, hb, ha]
    exact ⟨rfl, rfl, rfl, rfl, rfl⟩
  obtain ⟨hmap, hctx, hlast, hclk, htrv⟩ := hmaps
  have hprot : b.allProtected = s.allProtected := by
    refine allProtected_congr ?_ ?_ ?_ ?_ <;> rw [hb, ha]
  rw [hf, he, hd, hprot, hb, ha] at hsafe
  simp only [raiseAll_raiseAll] at hsafe
  refine ⟨freg, start, arcs, keep, reports, _, map, action, last, hsafe, ?_,
    cancelledWith_congr hfacts hmap hctx hlast hclk htrv⟩
  simp

end RoofSafe

section RoofSafeReports

variable {s : State} {r : Report}

/-- The reports that bring the roof to ROOF_SAFE (R133, R137). -/
def State.BringsRoofSafe (s : State) (r : Report) : Prop :=
  r = .breakerFailed ∨ r = .fault .earthUnexpected none
    ∨ (∃ p b, r = .lowerTimeout p (some .collecting) b ∧ s.bsc.breaker ≠ .opened)
    ∨ (∃ c, s.seq.ctx = some c ∧ c.stage = .recovering ∧ (r = .selectorFailed ∨ (∃ p role b, r = .lowerTimeout p role b)
        ∨ ∃ p, r = .fault .addTrip (some p) ∧ c.failure.all (fun f => f.reason ≠ .fault .addTrip ∨ f.pan ≠ some p)))

theorem seqLowerTimeout_recovering {c : SeqCtx} (hc : s.seq.ctx = some c) (hst : c.stage = .recovering) (p : Pan)
    (role : Option Duty) (b : Bool) : seqLowerTimeout p role b s = roofSafe s := by
  unfold seqLowerTimeout
  split
  · rfl
  · rw [hc]
    exact if_pos hst

theorem seqPanFault_recovering {c : SeqCtx} (hc : s.seq.ctx = some c) (hst : c.stage = .recovering) (p : Pan) :
    seqReport (.fault .addTrip (some p)) s
      = if c.failure.all (fun f => f.reason ≠ .fault .addTrip ∨ f.pan ≠ some p) then roofSafe s else s := by
  have hfault : seqReport (.fault .addTrip (some p)) s = seqPanFault .addTrip p s := rfl
  rw [hfault]
  unfold seqPanFault
  rw [hc]
  dsimp only
  rw [if_pos hst]
  simp only [true_and]

theorem seqReport_roofSafe (h : s.BringsRoofSafe r) : seqReport r s = roofSafe s := by
  rcases h with rfl | rfl | ⟨p, b, rfl, hb⟩ | ⟨c, hc, hst, rfl | ⟨p, role, b, rfl⟩ | ⟨p, rfl, hother⟩⟩
  · rfl
  · rfl
  · exact if_pos ⟨rfl, hb⟩
  · have hselector : seqReport .selectorFailed s = seqSelectorFailed s := rfl
    rw [hselector]
    unfold seqSelectorFailed
    rw [hc]
    exact if_pos hst
  · exact seqLowerTimeout_recovering hc hst p role b
  · rw [seqPanFault_recovering hc hst, if_pos hother]

/-- The fault that brings the roof to ROOF_SAFE at its event (R93, R137). -/
theorem settle_of_earthUnexpected {u : State} (h : u.reports = [.fault .earthUnexpected none]) :
    (settle u).seq.mode = .roofSafe := by
  rw [settle, reactBound, reactLoop_report h]
  exact roofSafe_of_reacted (roofSafe_mode _)

/-- A record that stands where there is one. -/
theorem captured_of_some {f : FaultRecord} {k : FaultKind} {p : Option Pan} {e : Option Nat} (h : s.fault = some f) :
    s.captured k p e = some f := by
  unfold State.captured
  rw [h]

end RoofSafeReports

section SelectorRows

variable {s : State}

/-- Settles O50. -/
theorem selectorAndEarthEvents : Obligations.SelectorAndEarthEvents := by
  intro s
  refine ⟨fun o q hmove => ?rests, fun q r hrest hr => ?leaves, fun o q hmove hdue hfb => ?expires,
    fun left q hmove => ⟨fun hgo => ?goesOn, fun hno => ?stops⟩, watchMove_still, fun hearth hpermit hnone => ?unexpected,
    fun hearth hpermit => ?permitted, fun hpermit hends => ?withdrawn, fun h => watchPermit_stands (h.imp_right (permitHolds_iff s).2),
    fun r hr => ⟨fun hsafe => ?again, fun hmode => ?enters⟩, fun c f p hc hst hf hreason hpan => ?known⟩
  case rests =>
    generalize ht : (s.modLines fun x => { x with selectorFb := some q }) = t
    have hexec : exec (.selectorFeedback (some q)) s = .next (settle (selectorReading t)) := by
      rw [← ht]
      rfl
    have hread : selectorReading t = selectorRests q t := by
      have hsel : t.bsc.selector = .moving o q := by rw [← ht]; exact hmove
      have hfb : t.lines.selectorFb = some q := by rw [← ht]; rfl
      unfold selectorReading
      rw [hsel]
      exact if_pos hfb
    obtain ⟨fault, cs, reports, heq⟩ := selectorRests_eq q t
    rw [hread, heq] at hexec
    refine ⟨_, hexec, rfl, rfl, fun src hsrc => moveResult_of_source (s := t) ?_ true, ?_, ?_, ?_⟩ <;> rw [← ht]
    · exact hsrc
    all_goals rfl
  case leaves =>
    generalize ht : (s.modLines fun x => { x with selectorFb := r }) = t
    have hexec : exec (.selectorFeedback r) s = .next (settle (selectorReading t)) := by
      rw [← ht]
      rfl
    have hread : selectorReading t = selectorFails q t := by
      have hsel : t.bsc.selector = .rest q := by rw [← ht]; exact hrest
      have hfb : t.lines.selectorFb = r := by rw [← ht]; rfl
      unfold selectorReading
      rw [hsel, hfb]
      exact if_neg hr
    rw [hread, selectorFails_eq] at hexec
    refine ⟨_, hexec, rfl, fun h => ?_, ?_⟩
    · have hnone : t.fault = none := by rw [← ht]; exact h
      exact ⟨_, captured_of_none hnone, rfl⟩
    · rw [← ht]
      rfl
  case expires =>
    have hexec : exec .selectorMoveTimeout s = .next (settle (moveLimit s)) := atLimit_due hdue _ _
    have hlimit : moveLimit s = selectorFails q s := by
      unfold moveLimit
      rw [hmove]
      exact if_neg hfb
    rw [hlimit, selectorFails_eq] at hexec
    exact ⟨_, hexec, rfl, fun src hsrc => moveResult_of_source hsrc false, fun h => ⟨_, captured_of_none h, rfl⟩, rfl⟩
  case goesOn => exact (watchMove_moving hmove).trans (if_pos ((moveGoesOn_iff s left q).2 hgo))
  case stops =>
    have hwatch := (watchMove_moving hmove).trans (if_neg (mt (moveGoesOn_iff s left q).1 hno))
    rw [selectorFails_eq] at hwatch
    exact ⟨_, hwatch, rfl, rfl, fun src hsrc => moveResult_of_source hsrc false, fun h => ⟨_, captured_of_none h, rfl⟩,
      fun f h => captured_of_some h, raises_of_lnk rfl, fun x => by simp, rfl, rfl⟩
  case unexpected =>
    obtain ⟨u, hu⟩ : ∃ u, u = earthReading true s := ⟨_, rfl⟩
    have hexec : exec (.earthSwitchFeedback true) s = .next (settle u) := by
      rw [hu]
      rfl
    rw [earthReading, if_neg (by rw [hearth]; exact Bool.noConfusion), notice_eq, earthUnexpected,
      if_pos (by simp [State.earthed, State.modLines, hpermit]), reportFault_eq] at hu
    have hlines : (settle u).lines = u.lines := (still_inputs (settle_still u)).2.1
    refine ⟨_, hexec, settle_of_earthUnexpected ?_, ?_, fun h => ?_⟩
    · rw [hu]
      exact congrArg (· ++ [Report.fault .earthUnexpected none]) hnone
    · rw [hlines, hu]
      rfl
    · have hfault : u.fault = some _ := (congrArg State.fault hu).trans (captured_of_none h)
      exact ⟨_, (Kept.refl u).settle.fault _ hfault, rfl⟩
  case permitted =>
    have hread : earthReading true s = notice .earth (s.modLines fun x => { x with earthed := true }) := by
      rw [earthReading, if_neg (by rw [hearth]; exact Bool.noConfusion), notice_eq, earthUnexpected,
        if_neg (by simp [State.modLines, hpermit])]
    have hexec : exec (.earthSwitchFeedback true) s = .next (settle (earthReading true s)) := rfl
    rw [hread, notice_eq] at hexec
    refine ⟨_, hexec, raises_of_lnk rfl, rfl, ?_⟩
    exact congrArg (fun b => ({ s with lines := { s.lines with earthed := b } } : State)) hearth.symm
  case withdrawn =>
    have hceased : ¬ s.permitHolds = true := by
      rw [permitHolds_iff]
      rintro ⟨hdown, hopen, hdead, hspeed⟩
      rcases hends with ⟨p, h1, h2⟩ | h | h | h
      · exact (hdown p).elim h1 h2
      · exact h hopen
      · exact h hdead
      · exact h hspeed
    obtain ⟨fault, reports, hwatch, hopen, hearthed⟩ := watchPermit_withdraws hpermit hceased
    refine ⟨_, hwatch, rfl, raises_of_lnk rfl, fun he => ?_, fun he => ?_⟩
    · obtain ⟨rfl, rfl⟩ := hopen he
      rfl
    · obtain ⟨rfl, rfl⟩ := hearthed he
      exact ⟨rfl, fun h => ⟨_, captured_of_none h, rfl⟩, rfl⟩
  case again => rw [seqReport_roofSafe hr, roofSafe, if_pos hsafe]
  case enters =>
    obtain ⟨freg, start, arcs, keep, reports, cs, map, action, last, heq, hnotice, hentries, -, hlast, hnone⟩ := roofSafe_eq hmode
    refine ⟨_, (seqReport_roofSafe hr).trans heq, rfl, noticed_of_raised rfl hnotice,
      fun h => ⟨_, captured_of_none h, rfl, rfl⟩, fun f h => captured_of_some h, rfl, rfl, rfl, rfl, fun p => ?_,
      ceased_get s.ice, rfl, rfl, rfl, rfl, hlast, hnone, ?_, rfl, rfl, rfl, rfl, rfl, rfl⟩
    · have hget : s.allProtected.get p = s.protected p := allProtected_get s p
      obtain ⟨hstate, hjob, hiso⟩ := protected_fields s p
      exact ⟨(congrArg Channel.state hget).trans hstate, fun h => (congrArg Channel.job hget).trans (hjob h),
        fun h => hget.trans (hiso h)⟩
    · exact congrArg (List.map Entry.returned) hentries
  case known =>
    rw [seqPanFault_recovering hc hst, hf, if_neg (by simp [hreason, hpan])]

end SelectorRows

end Sys2Proof.Machine

/-! ### A new front and the map: overruns, returns and arming, and the end of CLEARING (R103 to R105, R112 to R114, R122, R126) -/

namespace Sys2Proof.Machine

section StagesStay

variable {s t u : State}

/-! The stages of a sequence change no record of the authority, nothing of TRV and no frame handed (R122 to R130). -/

@[simp] theorem Stays.setStep (h : Stays s t) (x : StageStep) : Stays s (setStep x t) := h.modCtx _

@[simp] theorem Stays.seqLift (h : Stays s t) (p : Pan) : Stays s (seqLift p t) := by
  unfold Machine.seqLift
  have k := h.requestRaise p .collecting .sequencer
  revert k
  generalize Machine.requestRaise p .collecting .sequencer t = r
  obtain ⟨u, a⟩ := r
  intro k
  cases a <;> simp (maxDischargeDepth := 40) [k]

@[simp] theorem Stays.seqConnect (h : Stays s t) (p : Pan) : Stays s (seqConnect p t) := by
  unfold Machine.seqConnect
  have k := h.requestDisc p .connected .sequencer
  revert k
  generalize Machine.requestDisc p .connected .sequencer t = r
  obtain ⟨u, a⟩ := r
  intro k
  split
  · exact h.seqLift p
  · exact h.seqLift p
  all_goals cases a <;> simp (maxDischargeDepth := 40) [k]

@[simp] theorem Stays.seqRaise (h : Stays s t) : Stays s (seqRaise t) := by
  unfold Machine.seqRaise
  repeat' split
  all_goals simp (maxDischargeDepth := 40) [h]

@[simp] theorem Stays.seqSelect (h : Stays s t) : Stays s (seqSelect t) := by
  have k := fun y => h.requestMove (.sys y) .sequencer
  unfold Machine.seqSelect
  repeat' split
  all_goals first
    | exact h
    | exact h.modCtx _
    | rename_i y _ _ _ _ heq
      have j := k y
      rw [heq] at j
      simp (maxDischargeDepth := 40) [j]

@[simp] theorem Stays.seqLower (h : Stays s t) (f : Pan → Bool) (p : Pan) : Stays s (seqLower f p t) := by
  unfold Machine.seqLower
  split
  · exact h.requestLower _ _
  · exact h

@[simp] theorem Stays.seqLowering (h : Stays s t) : Stays s (seqLowering t) := by
  unfold Machine.seqLowering
  dsimp only
  split
  · split
    all_goals refine Stays.forPans ?_ fun p u => (Stays.refl u).seqLower _ p
    all_goals simp [h]
  · exact h

@[simp] theorem Stays.seqClose (h : Stays s t) : Stays s (seqClose t) := by
  unfold Machine.seqClose
  split
  · next e => exact h.closeRequest e
  · simp [h]

@[simp] theorem Stays.enterStage (h : Stays s t) (x : Stage) : Stays s (enterStage x t) := by
  unfold Machine.enterStage
  split <;> simp (maxDischargeDepth := 40) [h]

@[simp] theorem Stays.enterFrom (h : Stays s t) (l : List Stage) : Stays s (enterFrom l t) := by
  induction l with
  | nil => exact h.endSequence _ _
  | cons x rest ih =>
    unfold Machine.enterFrom
    repeat' split
    · exact h.enterStage x
    · exact ih
    · exact h

@[simp] theorem Stays.nextStage (h : Stays s t) (c : SeqCtx) : Stays s (nextStage c t) := h.enterFrom _

theorem Stays.watchStage (h : Stays s t) (k : watchStage t = some u) : Stays s u := by
  unfold Machine.watchStage at k
  repeat' split at k
  all_goals cases k
  all_goals simp (maxDischargeDepth := 40) [h]

@[simp] theorem Stays.runStages (h : Stays s t) (n : Nat) : Stays s (runStages n t) := by
  induction n generalizing t with
  | zero => exact h
  | succ n ih =>
    unfold Machine.runStages
    split
    · next e => exact ih (h.watchStage e)
    · exact h

/-- The end of CLEARING at a new front, where there is one (R126). -/
@[simp] theorem Stays.endPassed (h : Stays s t) (before : State) : Stays s (endPassed before t) := by
  rcases endPassed_cases before t with e | ⟨-, e⟩ <;> rw [e]
  · exact h
  · exact (h.runStages _).modMap _ id

end StagesStay

section Overruns

variable {s t u : State} {e : Entry} {es : List Entry}

/-- The entry of a system change, whose overrun is a fault (R112). -/
def Entry.changesSystem (e : Entry) : Bool :=
  match e.sect with
  | .systemChange _ _ _ => true
  | .neutral _ | .lowerZone => false

theorem requested_requested (b : Breaker) : b.requested.requested = b.requested := by cases b <;> rfl

/-- The breaker where a request to open it has come, or has not. -/
def Breaker.openedIf (x : Bool) (b : Breaker) : Breaker := if x then b.requested else b

theorem openedIf_openedIf (x y : Bool) (b : Breaker) : (b.openedIf x).openedIf y = b.openedIf (x || y) := by
  cases x <;> cases y <;> simp [Breaker.openedIf, requested_requested]

theorem openRequest_form (s : State) : ∃ start, openRequest s = { s with
    bsc := { s.bsc with breaker := s.bsc.breaker.requested, limitStart := start }
    lnk := raiseAll (if s.bsc.breaker.requested = s.bsc.breaker then [] else [.breaker]) s.lnk } := by
  by_cases hb : s.bsc.breaker = .closed ∨ s.bsc.breaker = .closing
  · have hreq : s.bsc.breaker.requested = .opening := if_pos hb
    refine ⟨s.clk.time, ?_⟩
    rw [openRequest_opens hb, if_neg (fun h => requested_eq_self.1 h hb), hreq]
  · refine ⟨s.bsc.limitStart, ?_⟩
    rw [openRequest_stands hb, if_pos (requested_eq_self.2 hb), requested_eq_self.2 hb, raiseAll_nil]

/-- The causes that overruns raise, from a breaker, with some of them removed and some of these for a system change (R112). -/
def overrunCauses (any change : Bool) (b : Breaker) : List Notice :=
  (if any then [.entry] else []) ++ (if b.openedIf change = b then [] else [.breaker]) ++ (if change then [.fault] else [])

theorem overrunCauses_append (any c d : Bool) (b : Breaker) :
    causeBits (overrunCauses true c b ++ overrunCauses any d (b.openedIf c)) = causeBits (overrunCauses true (c || d) b) := by
  cases any <;> cases c <;> cases d <;> cases b <;> decide

theorem overrunCauses_plain (any : Bool) (b : Breaker) : overrunCauses any false b = if any then [.entry] else [] := by
  simp [overrunCauses, Breaker.openedIf]

/-- The record of an overrun entry's removal (R103, R112). -/
def State.overrunRecord (s : State) (e : Entry) : Removal := ⟨e.id, e.sect, .overrun, s.clk.time, s.trv.front / 1000⟩

/-- From `s` to `u` entries have been removed as overrun, one after another (R103, R112). -/
def State.Overran (s u : State) (es : List Entry) : Prop := ∃ action start fault reports eval,
  u = { s with
    map := ⟨s.map.entries.filter fun d => es.all fun e => decide (d.id ≠ e.id), s.map.nextId, action,
      (es.getLast?.map s.overrunRecord).or s.map.lastRemoval⟩
    bsc := { s.bsc with breaker := s.bsc.breaker.openedIf (es.any Entry.changesSystem), limitStart := start }
    lnk := raiseAll (overrunCauses (!es.isEmpty) (es.any Entry.changesSystem) s.bsc.breaker) s.lnk
    fault := fault, reports := reports, iceEval := eval }
  ∧ (es.any Entry.changesSystem = true → s.fault = none → ∃ f, fault = some f ∧ f.kind = .overrun)
  ∧ (es.any Entry.changesSystem = false → fault = s.fault)
  ∧ ∀ f, s.fault = some f → fault = some f

theorem removeOverrun_eq (s : State) (e : Entry) : s.Overran (removeOverrun s e) [e] := by
  obtain ⟨action, hremove⟩ := removeEntry_eq e .overrun s
  have hfilter : (s.map.entries.filter fun d => [e].all fun e => decide (d.id ≠ e.id))
      = s.map.entries.filter fun d => decide (d.id ≠ e.id) := by simp
  obtain ⟨t, ht⟩ : ∃ t : State, t = { s with
    map := ⟨s.map.entries.filter fun d => decide (d.id ≠ e.id), s.map.nextId, action,
      some ⟨e.id, e.sect, .overrun, s.clk.time, s.trv.front / 1000⟩⟩
    lnk := raiseAll [.entry] s.lnk, iceEval := true } := ⟨_, rfl⟩
  have hremoved : notice .entry (removeEntry e .overrun s) = t := by rw [hremove, notice_eq, ht]
  have hplain : e.changesSystem = false → s.Overran t [e] := by
    intro hchange
    have hany : [e].any Entry.changesSystem = false := by simp [hchange]
    refine ⟨action, s.bsc.limitStart, s.fault, s.reports, true, ?_, fun h => ?_, fun _ => rfl, fun _ h => h⟩
    · rw [hfilter, hany, ht, overrunCauses_plain]
      rfl
    · rw [hany] at h
      exact nomatch h
  have hsystem : e.changesSystem = true → s.Overran (reportFault .overrun none (some e.id) (openRequest t)) [e] := by
    intro hchange
    have hany : [e].any Entry.changesSystem = true := by simp [hchange]
    obtain ⟨start, hopen⟩ := openRequest_form t
    have hfault : (openRequest t).fault = s.fault := by rw [hopen, ht]
    refine ⟨action, start, (openRequest t).captured .overrun none (some e.id),
      s.reports ++ [.fault .overrun none], true, ?_, fun _ h => ?_, fun h => ?_, fun f h => ?_⟩
    · rw [hfilter, hany, reportFault_eq]
      generalize (openRequest t).captured .overrun none (some e.id) = fault
      rw [hopen, ht]
      simp only [raiseAll_raiseAll]
      rfl
    · exact ⟨_, captured_of_none (hfault.trans h), rfl⟩
    · rw [hany] at h
      exact nomatch h
    · unfold State.captured
      rw [hfault, h]
  unfold removeOverrun
  dsimp only
  rw [hremoved]
  split
  · next h => exact hsystem (by rw [Entry.changesSystem, h])
  · next h => exact hplain (by rw [Entry.changesSystem, h])
  · next h => exact hplain (by rw [Entry.changesSystem, h])

theorem State.Overran.nil (s : State) : s.Overran s [] := by
  refine ⟨s.map.action, s.bsc.limitStart, s.fault, s.reports, s.iceEval, ?_, (fun h => nomatch h), fun _ => rfl, fun _ h => h⟩
  have hentries : (s.map.entries.filter fun d => ([] : List Entry).all fun e => decide (d.id ≠ e.id)) = s.map.entries :=
    List.filter_true _
  rw [hentries, List.any_nil, overrunCauses_plain]
  exact (congrArg (fun v => { s with lnk := v }) (raiseAll_nil s.lnk)).symm

theorem State.Overran.cons (h : s.Overran t [e]) (k : t.Overran u es) : s.Overran u (e :: es) := by
  obtain ⟨action, start, fault, reports, eval, ht, hnew, hsame, hold⟩ := h
  obtain ⟨action', start', fault', reports', eval', hu, hnew', hsame', hold'⟩ := k
  have hone : [e].any Entry.changesSystem = e.changesSystem := by simp
  have hfault : t.fault = fault := by rw [ht]
  rw [hfault] at hnew' hsame' hold'
  rw [hone] at hnew hsame
  refine ⟨action', start', fault', reports', eval', ?_, fun hsys hnone => ?_, fun hsys => ?_, fun f hf => hold' f (hold f hf)⟩
  · have hentries : (s.map.entries.filter fun d => [e].all fun e => decide (d.id ≠ e.id)).filter
        (fun d => es.all fun e => decide (d.id ≠ e.id))
        = s.map.entries.filter fun d => (e :: es).all fun e => decide (d.id ≠ e.id) := by
      rw [List.filter_filter]
      exact List.filter_congr fun d _ => by simp [Bool.and_comm]
    have hlnk := raiseAll_congr (overrunCauses_append (!es.isEmpty) e.changesSystem (es.any Entry.changesSystem) s.bsc.breaker)
      s.lnk
    have hlast : (es.getLast?.map s.overrunRecord).or (([e].getLast?.map s.overrunRecord).or s.map.lastRemoval)
        = ((e :: es).getLast?.map s.overrunRecord).or s.map.lastRemoval := by
      rw [List.getLast?_cons (a := e) (l := es)]
      cases es.getLast? <;> rfl
    rw [hu, ht, ← hentries, ← hlast]
    simp only [hone, raiseAll_raiseAll, openedIf_openedIf, List.any_cons, List.isEmpty_cons, Bool.not_false]
    rw [hlnk]
    rfl
  · cases hsys' : e.changesSystem with
    | true =>
      obtain ⟨f, hf, hkind⟩ := hnew hsys' hnone
      exact ⟨f, hold' f hf, hkind⟩
    | false =>
      rw [List.any_cons, hsys', Bool.false_or] at hsys
      exact hnew' hsys ((hsame hsys').trans hnone)
  · rw [List.any_cons, Bool.or_eq_false_iff] at hsys
    exact (hsame' hsys.2).trans (hsame hsys.1)

/-- Entries overrun, one after another (R112). -/
theorem removeOverruns_eq (es : List Entry) (s : State) : s.Overran (es.foldl removeOverrun s) es := by
  induction es generalizing s with
  | nil => exact .nil s
  | cons e es ih => exact (removeOverrun_eq s e).cons (ih (removeOverrun s e))

end Overruns

section Meets

variable {s t u : State} {e : Entry} {es : List Entry} {back : Entry → Bool} {cs : List Notice}

/-- An entry that a movement may have sent back (R105). -/
def Entry.sentBack (back : Entry → Bool) (e : Entry) : Entry := if e.state = .armed ∧ back e = true then disarm e else e

theorem sentBack_fields (back : Entry → Bool) (e : Entry) : (e.sentBack back).id = e.id ∧ (e.sentBack back).sect = e.sect
    ∧ (e.sentBack back).start = e.start ∧ (e.sentBack back).length = e.length
    ∧ ((e.sentBack back).state = .active ↔ e.state = .active) := by
  unfold Entry.sentBack
  split
  · next h => exact ⟨rfl, rfl, rfl, rfl, by simp [disarm, h.1]⟩
  · exact ⟨rfl, rfl, rfl, rfl, Iff.rfl⟩

theorem sentBack_eq_self (back : Entry → Bool) (e : Entry) : e.sentBack back = e ↔ ¬ (e.state = .armed ∧ back e = true) := by
  unfold Entry.sentBack
  split
  · next h =>
    refine iff_of_false (fun heq => ?_) (not_not.2 h)
    exact nomatch (h.1.symm.trans (congrArg Entry.state heq).symm : EntryState.armed = .pending)
  · next h => exact iff_of_true rfl h

/-- The entries that some overruns leave. -/
def State.remaining (s : State) (es : List Entry) : List Entry :=
  s.map.entries.filter fun d => es.all fun e => decide (d.id ≠ e.id)

/-- The entries of a map that a front has met: those it has not overrun, as it moves them (R103 to R105, R112). -/
def State.met (s : State) (es : List Entry) (back : Entry → Bool) : List Entry := (s.remaining es).map (s.moved back)

theorem met_eq (s : State) (es : List Entry) (back : Entry → Bool) :
    s.met es back = ((s.remaining es).map (Entry.sentBack back)).map (armEntry s) := by
  rw [State.met, List.map_map]
  exact List.map_congr_left fun e _ => moved_eq s back e

theorem remaining_nil (s : State) : s.remaining [] = s.map.entries := List.filter_true _

/-- A front that sends back no entry that it would arm leaves the map as it is exactly where it removes, returns and arms none. -/
theorem met_eq_self (hes : ∀ e ∈ es, e ∈ s.map.entries)
    (hback : ∀ e, e.state = .armed → back e = true → s.arms (e.sentBack back) = false) :
    s.met es back = s.map.entries ↔ es = [] ∧ (¬ ∃ e ∈ s.map.entries, e.state = .armed ∧ back e = true)
      ∧ s.met es back = (s.remaining es).map (Entry.sentBack back) := by
  constructor
  · intro h
    have hnil : es = [] := List.eq_nil_iff_forall_not_mem.2 fun e he => by
      have hlen : (s.met es back).length = (s.remaining es).length := List.length_map ..
      rw [h] at hlen
      have hall := List.filter_eq_self.1 (List.Sublist.eq_of_length List.filter_sublist hlen.symm) e (hes e he)
      simp only [List.all_eq_true, decide_eq_true_eq] at hall
      exact hall e he rfl
    subst hnil
    have hmoved : ∀ e ∈ s.map.entries, s.moved back e = e := by
      have hid : s.map.entries.map (s.moved back) = s.map.entries.map id := by
        rw [List.map_id, ← remaining_nil]
        exact h.trans (remaining_nil s).symm
      exact List.map_inj_left.1 hid
    have hkeep : ∀ e ∈ s.map.entries, ¬ (e.state = .armed ∧ back e = true) := fun e he hgo => by
      have hself := hmoved e he
      rw [moved_eq] at hself
      change armEntry s (e.sentBack back) = e at hself
      rw [(armEntry_eq_self s _).2 (Bool.eq_false_iff.1 (hback e hgo.1 hgo.2))] at hself
      exact (sentBack_eq_self back e).1 hself hgo
    refine ⟨rfl, fun ⟨e, he, hgo⟩ => hkeep e he hgo, ?_⟩
    rw [h, remaining_nil, List.map_congr_left fun e he => (sentBack_eq_self back e).2 (hkeep e he), List.map_id']
  · rintro ⟨rfl, hkeep, h⟩
    rw [h, remaining_nil, List.map_congr_left fun e he => (sentBack_eq_self back e).2 fun hgo => hkeep ⟨e, he, hgo⟩,
      List.map_id']

/-- The causes that come with a front that meets the map, beside those given. -/
def State.meetCauses (s : State) (es : List Entry) (back : Entry → Bool) (cs : List Notice) : List Notice :=
  cs ++ (if s.met es back = s.map.entries then [] else [.entry])
    ++ (if s.bsc.breaker.openedIf (es.any Entry.changesSystem) = s.bsc.breaker then [] else [.breaker])
    ++ (if es.any Entry.changesSystem then [.fault] else [])

/-- From `s` to `u` a new front has met the map: it has removed, returned and armed, and some causes came with it (R112 to R114). -/
def State.Meets (s u : State) (es : List Entry) (back : Entry → Bool) (cs : List Notice) : Prop :=
  ∃ action start fault reports eval, u = { s with
    map := ⟨s.met es back, s.map.nextId, action, (es.getLast?.map s.overrunRecord).or s.map.lastRemoval⟩
    bsc := { s.bsc with breaker := s.bsc.breaker.openedIf (es.any Entry.changesSystem), limitStart := start }
    lnk := raiseAll (s.meetCauses es back cs) s.lnk
    fault := fault, reports := reports, iceEval := eval }
  ∧ (es.any Entry.changesSystem = true → s.fault = none → ∃ f, fault = some f ∧ f.kind = .overrun)

/-- ENTRY once for several changes of the map. -/
theorem entryBits_merge {A B C D : Prop} [Decidable A] [Decidable B] [Decidable C] [Decidable D] (hD : D ↔ A ∧ ¬ B ∧ C) :
    causeBits (if A then [] else [.entry]) ||| causeBits (if B then [.entry] else [])
      ||| causeBits (if C then [] else [.entry]) = causeBits (if D then [] else [.entry]) := by
  rw [if_congr hD rfl rfl]
  by_cases hA : A <;> by_cases hB : B <;> by_cases hC : C <;> simp only [hA, hB, hC, if_true, if_false, not_true, not_false_iff,
    and_true, and_false] <;> decide

theorem overrunCauses_eq (es : List Entry) (b : Breaker) : overrunCauses (!es.isEmpty) (es.any Entry.changesSystem) b
    = (if es = [] then [] else [.entry]) ++ (if b.openedIf (es.any Entry.changesSystem) = b then [] else [.breaker])
      ++ (if es.any Entry.changesSystem then [.fault] else []) := by
  cases es <;> rfl

/-- The causes of the removals, the returns and the arming of a movement, in two orders that raise the same (R198). -/
theorem meetCauses_bits (hes : ∀ e ∈ es, e ∈ s.map.entries)
    (hback : ∀ e, e.state = .armed → back e = true → s.arms (e.sentBack back) = false) {x : List Entry}
    (hx : es = [] → x = s.map.entries) : causeBits (s.meetCauses es back cs)
    = causeBits (cs ++ (if ∃ e ∈ x, e.state = .armed ∧ back e = true then [.entry] else [])
      ++ (overrunCauses (!es.isEmpty) (es.any Entry.changesSystem) s.bsc.breaker
      ++ (if s.met es back = (s.remaining es).map (Entry.sentBack back) then [] else [.entry]))) := by
  have hD : s.met es back = s.map.entries ↔ es = [] ∧ (¬ ∃ e ∈ x, e.state = .armed ∧ back e = true)
      ∧ s.met es back = (s.remaining es).map (Entry.sentBack back) :=
    (met_eq_self hes hback).trans (and_congr_right fun hnil => by rw [hx hnil])
  rw [overrunCauses_eq, State.meetCauses]
  simp only [causeBits_append, ← entryBits_merge hD]
  ac_rfl

/-- A fix meets the map with its overruns, then its returns, then arming (R113, R114). -/
theorem fixMeets (hover : s.Overran t es) (hes : ∀ e ∈ es, e ∈ s.map.entries) :
    s.Meets (armAll (returnWhere (fun e => !s.withinArm e) t)) es (fun e => !s.withinArm e) [] := by
  obtain ⟨action, start, fault, reports, eval, ht, hnew, -⟩ := hover
  obtain ⟨action1, hreturn⟩ := returnWhere_eq (fun e => !s.withinArm e) t
  obtain ⟨action2, harm⟩ := armAll_eq (returnWhere (fun e => !s.withinArm e) t)
  refine ⟨action2, start, fault, reports, eval, ?_, hnew⟩
  have harmEntry : armEntry (returnWhere (fun e => !s.withinArm e) t) = armEntry s := by
    funext e
    rw [hreturn, ht]
    exact armEntry_congr rfl rfl rfl rfl e
  have hentries : (returnWhere (fun e => !s.withinArm e) t).map.entries
      = (s.remaining es).map (Entry.sentBack fun e => !s.withinArm e) := by
    rw [hreturn, ht]
    rfl
  have hback : ∀ e : Entry, e.state = .armed → (!s.withinArm e) = true → s.arms (e.sentBack fun e => !s.withinArm e) = false := by
    intro e harmed hfar
    have hfields := sentBack_fields (fun e => !s.withinArm e) e
    rw [Bool.eq_false_iff]
    intro harms
    have hnear := ((arms_iff s _).1 harms).2.1
    rw [hfields.2.2.1] at hnear
    rw [Bool.not_eq_true', Bool.eq_false_iff] at hfar
    exact hfar (decide_eq_true hnear)
  have hlnk : raiseAll (if s.met es (fun e => !s.withinArm e) = (s.remaining es).map (Entry.sentBack fun e => !s.withinArm e)
        then [] else [.entry])
      (raiseAll (if ∃ e ∈ s.remaining es, e.state = .armed ∧ (!s.withinArm e) = true then [.entry] else [])
        (raiseAll (overrunCauses (!es.isEmpty) (es.any Entry.changesSystem) s.bsc.breaker) s.lnk))
      = raiseAll (s.meetCauses es (fun e => !s.withinArm e) []) s.lnk := by
    rw [raiseAll_raiseAll, raiseAll_raiseAll]
    refine raiseAll_congr ?_ _
    rw [meetCauses_bits (cs := []) hes hback (x := s.remaining es) (fun h => by rw [h, remaining_nil])]
    simp only [causeBits_append, List.nil_append]
    ac_rfl
  rw [harm, harmEntry, hentries, ← met_eq, hreturn, ht]
  exact congrArg (fun v => { s with
    map := ⟨s.met es fun e => !s.withinArm e, s.map.nextId, action2, (es.getLast?.map s.overrunRecord).or s.map.lastRemoval⟩
    bsc := { s.bsc with breaker := s.bsc.breaker.openedIf (es.any Entry.changesSystem), limitStart := start }
    lnk := v, fault := fault, reports := reports, iceEval := eval }) hlnk

/-- The directions at whose change the ARMED entries return (R105). -/
def State.turnsBack (s : State) (before : Direction) (_ : Entry) : Bool :=
  decide (before = .normal ∧ s.trv.direction = .reversing)

/-- The direction consequences of an accepted pulse (R8, R105). -/
theorem mapPulse_turns (before : Direction) (s : State) : ∃ t action, mapPulse before s = armAll (removeOverruns t) ∧ t = { s with
    map := { s.map with
      entries := s.map.entries.map (Entry.sentBack (s.turnsBack before)), action := action }
    lnk := raiseAll ((if s.trv.direction = before then [] else [.map])
      ++ (if ∃ e ∈ s.map.entries, e.state = .armed ∧ s.turnsBack before e = true then [.entry] else [])) s.lnk } := by
  have hstand : ¬ (before = .normal ∧ s.trv.direction = .reversing) →
      s.map.entries.map (Entry.sentBack (s.turnsBack before)) = s.map.entries
        ∧ ¬ ∃ e ∈ s.map.entries, e.state = .armed ∧ s.turnsBack before e = true := by
    intro h
    have hno : ∀ e, ¬ s.turnsBack before e = true := fun e hb => h (of_decide_eq_true hb)
    exact ⟨(List.map_congr_left fun e _ => (sentBack_eq_self _ e).2 fun hb => hno e hb.2).trans (List.map_id' _),
      fun ⟨e, _, hb⟩ => hno e hb.2⟩
  unfold mapPulse
  dsimp only
  cases before <;> cases hd : s.trv.direction <;> rw [hd] at hstand
  case normal.reversing =>
    obtain ⟨action, heq⟩ := returnWhere_eq (fun _ => true) (notice .map s)
    refine ⟨_, action, rfl, heq.trans ?_⟩
    have hturn : s.turnsBack .normal = fun _ => true := funext fun _ => decide_eq_true ⟨rfl, hd⟩
    rw [notice_eq, hturn, raiseAll_raiseAll]
    rfl
  case reversing.normal =>
    obtain ⟨hmap, hnone⟩ := hstand (by decide)
    refine ⟨_, s.map.action, rfl, ?_⟩
    rw [hmap, if_neg hnone, notice_eq]
    rfl
  all_goals
    obtain ⟨hmap, hnone⟩ := hstand (by decide)
    refine ⟨_, s.map.action, rfl, ?_⟩
    rw [hmap, if_neg hnone, if_pos rfl]
    exact (congrArg (fun v => { s with lnk := v }) (raiseAll_nil s.lnk)).symm

/-- The entries that the present front overruns (R112). -/
def State.overruns (s : State) : List Entry := s.map.entries.filter s.overrun

/-- An accepted pulse meets the map with the direction, then its overruns, then arming (R8, R105, R112, R104). -/
theorem pulseMeets (before : Direction) (s : State) : s.Meets (mapPulse before s) s.overruns
    (s.turnsBack before) (if s.trv.direction = before then [] else [.map]) := by
  obtain ⟨t, action, hpulse, ht⟩ := mapPulse_turns before s
  have hback : ∀ e : Entry, e.state = .armed → s.turnsBack before e = true → s.arms (e.sentBack (s.turnsBack before)) = false :=
    fun e _ hturn => by
      rw [Bool.eq_false_iff]
      intro harms
      have hnormal := ((arms_iff s _).1 harms).2.2.1
      have hreverse := (of_decide_eq_true hturn).2
      exact nomatch hreverse.symm.trans hnormal
  rw [hpulse]
  generalize s.turnsBack before = back at ht hback ⊢
  have hremoved := removeOverruns_eq (t.map.entries.filter t.overrun) t
  change t.Overran (removeOverruns t) _ at hremoved
  have hentriesT : t.map.entries = s.map.entries.map (Entry.sentBack back) := by rw [ht]
  have hoverrun : ∀ e, t.overrun (e.sentBack back) = s.overrun e := fun e => by
    obtain ⟨-, -, hstart, hlength, hactive⟩ := sentBack_fields back e
    have hused : t.usablePans = s.usablePans := by rw [ht]; rfl
    have htrv : t.trv = s.trv := by rw [ht]
    have hcfg : t.cfg = s.cfg := by rw [ht]
    unfold State.overrun Entry.endMm
    rw [hstart, hlength, hused, htrv, hcfg, decide_eq_decide.2 (not_congr hactive)]
  have hes : t.map.entries.filter t.overrun = s.overruns.map (Entry.sentBack back) := by
    rw [hentriesT, List.filter_map]
    exact congrArg _ (List.filter_congr fun e _ => hoverrun e)
  rw [hes] at hremoved
  obtain ⟨action1, start, fault, reports, eval, hu, hnew, -⟩ := hremoved
  have hrest : t.remaining (s.overruns.map (Entry.sentBack back)) = (s.remaining s.overruns).map (Entry.sentBack back) := by
    unfold State.remaining
    rw [hentriesT, List.filter_map]
    refine congrArg _ (List.filter_congr fun e _ => ?_)
    simp [Function.comp_def, (sentBack_fields back _).1]
  have hchange : (s.overruns.map (Entry.sentBack back)).any Entry.changesSystem = s.overruns.any Entry.changesSystem := by
    rw [List.any_map]
    refine congrArg (List.any _) (funext fun e => ?_)
    simp only [Function.comp_apply, Entry.changesSystem, (sentBack_fields back e).2.1]
  have hlast : ((s.overruns.map (Entry.sentBack back)).getLast?.map t.overrunRecord).or t.map.lastRemoval
      = (s.overruns.getLast?.map s.overrunRecord).or s.map.lastRemoval := by
    rw [List.getLast?_map, Option.map_map, ht]
    refine congrArg (fun f => (s.overruns.getLast?.map f).or s.map.lastRemoval) (funext fun e => ?_)
    simp only [Function.comp_apply, State.overrunRecord, (sentBack_fields back e).1, (sentBack_fields back e).2.1]
  obtain ⟨action2, harm⟩ := armAll_eq (removeOverruns t)
  have harmEntry : armEntry (removeOverruns t) = armEntry s := by
    funext e
    rw [hu, ht]
    exact armEntry_congr rfl rfl rfl rfl e
  have hentries : (removeOverruns t).map.entries = (s.remaining s.overruns).map (Entry.sentBack back) := by
    rw [hu]
    exact hrest
  have hlnk : raiseAll (if s.met s.overruns back = (s.remaining s.overruns).map (Entry.sentBack back) then [] else [.entry])
      (raiseAll (overrunCauses (!(s.overruns.map (Entry.sentBack back)).isEmpty) (s.overruns.any Entry.changesSystem) s.bsc.breaker)
        (raiseAll ((if s.trv.direction = before then [] else [.map])
          ++ (if ∃ e ∈ s.map.entries, e.state = .armed ∧ back e = true then [.entry] else [])) s.lnk))
      = raiseAll (s.meetCauses s.overruns back (if s.trv.direction = before then [] else [.map])) s.lnk := by
    rw [raiseAll_raiseAll, raiseAll_raiseAll, List.isEmpty_map]
    refine raiseAll_congr ?_ _
    have hmem : ∀ e ∈ s.overruns, e ∈ s.map.entries := fun e he => List.mem_of_mem_filter he
    rw [meetCauses_bits hmem hback (x := s.map.entries) fun _ => rfl]
  rw [hchange] at hnew
  refine ⟨action2, start, fault, reports, eval, ?_, fun hsys hnone => hnew hsys (by rw [ht]; exact hnone)⟩
  rw [harm, harmEntry, hentries, ← met_eq, hu, hlast, hchange, ht]
  exact congrArg (fun v => { s with
    map := ⟨s.met s.overruns back, s.map.nextId, action2, (s.overruns.getLast?.map s.overrunRecord).or s.map.lastRemoval⟩
    bsc := { s.bsc with breaker := s.bsc.breaker.openedIf (s.overruns.any Entry.changesSystem), limitStart := start }
    lnk := v, fault := fault, reports := reports, iceEval := eval }) hlnk

end Meets

end Sys2Proof.Machine

/-! ### POSITION_FIX and the travel pulse (R3 to R6, R8, R10, R11, R103 to R105, R112 to R114, R122, R126) -/

namespace Sys2Proof.Machine

section EndOfClearing

variable {s v : State} {c : SeqCtx}

/-- After CLEARING no stage is performed with the roof not live (R127, R129, R130). -/
theorem nextStage_clearing (hc : s.seq.ctx = some c) (hstage : c.stage = .clearing) (hlive : c.roofLive = false) :
    nextStage c s = endSequence .done .done s := by
  have hafter : ∀ x ∈ stagesAfter c.stage c.form.stages, x = .raising ∨ x = .confirming ∨ x = .closing := by
    rw [hstage]
    cases c.form <;> decide
  have hskip : ∀ l : List Stage, (∀ x ∈ l, x = .raising ∨ x = .confirming ∨ x = .closing) →
      enterFrom l s = endSequence .done .done s := by
    intro l hl
    induction l with
    | nil => rfl
    | cons x rest ih =>
      have hidle : s.performed c x = false := by
        rcases hl x List.mem_cons_self with rfl | rfl | rfl <;> simp [State.performed, hlive]
      unfold enterFrom
      rw [hc]
      dsimp only
      rw [if_neg (by rw [hidle]; decide)]
      exact ih fun y hy => hl y (List.mem_cons_of_mem _ hy)
  exact hskip _ hafter

/-- CLEARING ends the sequence where its threshold is reached with the roof not live (R126, R130). -/
theorem runStages_clearing (hc : v.seq.ctx = some c) (hstage : c.stage = .clearing) (hlive : c.roofLive = false)
    (hfront : v.clearingThreshold c ≤ v.trv.front) : runStages stageBound v = endSequence .done .done v := by
  have hwatch : watchStage v = some (endSequence .done .done v) := by
    unfold watchStage
    rw [hc]
    dsimp only
    rw [hstage]
    dsimp only
    rw [if_pos hfront, nextStage_clearing hc hstage hlive]
  have hidle : watchStage (endSequence .done .done v) = none := by
    obtain ⟨action, heq⟩ := endSequence_eq hc .done .done
    unfold watchStage
    rw [heq]
  unfold stageBound runStages
  rw [hwatch]
  dsimp only
  unfold runStages
  rw [hidle]

/-- A front that does not end CLEARING, or removes no entry, ends no sequence before the reactions (R126). -/
theorem endPassed_stands {before : State} (h : ∀ c, before.seq.ctx = some c → c.stage = .clearing →
    before.clearingThreshold c ≤ before.trv.front → before.map.entries.length ≤ v.map.entries.length) : endPassed before v = v := by
  unfold endPassed
  split
  · next c hc => exact if_neg fun hpass => absurd hpass.2.2 (Nat.not_lt.2 (h c hc hpass.1 hpass.2.1))
  · rfl

/-- A front that removes an entry and ends CLEARING with the roof not live ends the sequence, the last removal standing (R103,
R126). -/
theorem endPassed_ends {before : State} (hc : before.seq.ctx = some c) (hseq : v.seq = before.seq)
    (hstage : c.stage = .clearing) (hlive : c.roofLive = false) (hfront : before.clearingThreshold c ≤ before.trv.front)
    (hsame : v.clearingThreshold c ≤ v.trv.front) (hless : v.map.entries.length < before.map.entries.length) : ∃ action,
    endPassed before v = { v with
      map := ⟨v.map.entries.filter fun d => d.id ≠ c.entry.id, v.map.nextId, action, v.map.lastRemoval⟩
      seq := { v.seq with ctx := none, last := some (c.toLast .done v.clk.time) }
      lnk := raiseAll [.entry] v.lnk, iceEval := true } := by
  have hcv : v.seq.ctx = some c := by rw [hseq, hc]
  obtain ⟨action, heq⟩ := endSequence_eq hcv .done .done
  refine ⟨action, ?_⟩
  unfold endPassed
  rw [hc]
  dsimp only
  rw [if_pos ⟨hstage, hfront, hless⟩, runStages_clearing hcv hstage hlive hsame, heq]
  rfl

end EndOfClearing

section Fronted

variable {s u v : State} {trv : Travel} {auth : Authority} {lines : Lines} {e : Entry} {gone : Option SeqCtx}

/-- A state with another record of TRV, of the authority and of the input lines. -/
def State.fronted (s : State) (trv : Travel) (auth : Authority) (lines : Lines) : State :=
  { s with trv := trv, auth := auth, lines := lines }

theorem fronted_overrun (hoff : trv.offsets = s.trv.offsets) (e : Entry) :
    (s.fronted trv auth lines).overrun e = true ↔ s.Overruns trv.front e := by
  have h : (s.fronted trv auth lines).overrun e = (decide (e.state ≠ .active)
      && decide ((e.start + e.length) * 1000 + largestOffset trv.offsets s.usablePans + s.cfg.items.clearMargin * 1000
        ≤ trv.front)) := rfl
  rw [h, hoff, Bool.and_eq_true, decide_eq_true_iff, decide_eq_true_iff]
  rfl

/-- The last removal of a map that a front has met is that of the last entry it overruns (R103, R112). -/
theorem removedLast_of (hoff : trv.offsets = s.trv.offsets)
    (hlast : u.map.lastRemoval = ((s.fronted trv auth lines).overruns.getLast?.map (s.fronted trv auth lines).overrunRecord).or
      s.map.lastRemoval) : s.RemovedLast u trv.front := by
  have hover := fronted_overrun (s := s) (auth := auth) (lines := lines) hoff
  have hes : (s.fronted trv auth lines).overruns = s.map.entries.filter (s.fronted trv auth lines).overrun := rfl
  constructor
  · intro before e after hentries he hafter
    have hnone : after.filter (s.fronted trv auth lines).overrun = [] :=
      List.filter_eq_nil_iff.2 fun d hd h => hafter d hd ((hover d).1 h)
    rw [hes, hentries, List.filter_append, List.filter_cons_of_pos ((hover e).2 he), hnone, List.getLast?_concat] at hlast
    exact hlast
  · intro hnone
    rw [hes, List.filter_eq_nil_iff.2 fun e he h => hnone e he ((hover e).1 h)] at hlast
    exact hlast

/-- The entries that a front overruns, where it tests for them. -/
def State.overrunsIf (b : State) (tests : Bool) : List Entry := if tests then b.overruns else []

theorem overrunsIf_eq_nil {b : State} {tests : Bool} :
    b.overrunsIf tests = [] ↔ ¬ (tests = true ∧ ∃ e ∈ b.map.entries, b.overrun e = true) := by
  unfold State.overrunsIf State.overruns
  cases tests with
  | true => simp [List.filter_eq_nil_iff]
  | false => simp

theorem length_met_lt {b : State} {es : List Entry} (back : Entry → Bool) (hes : ∃ e ∈ es, e ∈ b.map.entries) :
    (b.met es back).length < b.map.entries.length := by
  obtain ⟨e, he, hmem⟩ := hes
  rw [State.met, List.length_map, State.remaining]
  refine List.length_filter_lt_length_iff_exists.2 ⟨e, hmem, fun hall => ?_⟩
  rw [List.all_eq_true] at hall
  exact of_decide_eq_true (hall e he) rfl

/-- The sequence where a new front has ended it DONE, or has not (R130, R141). -/
def State.seqPast (s : State) (gone : Option SeqCtx) : Sequencer :=
  match gone with
  | none => s.seq
  | some c => { s.seq with ctx := none, last := some (c.toLast .done s.clk.time) }

theorem seqPast_endsDone (hseq : u.seq = s.seqPast gone) : s.EndsDone u gone := by
  constructor
  · rintro rfl
    exact hseq
  · rintro c rfl
    rw [hseq]
    refine ⟨rfl, rfl, _, rfl, ?_⟩
    unfold SeqCtx.toLast
    cases c.failure <;> exact ⟨rfl, rfl, rfl, rfl⟩

/-- The entries without that of a sequence that has ended. -/
def entriesPast (gone : Option SeqCtx) (entries : List Entry) : List Entry :=
  entries.filter fun d => gone.all fun c => decide (d.id ≠ c.entry.id)

/-- A cause that has been raised is raised once (R198). -/
theorem causeBits_repeated (cs xs ys : List Notice) (c : Notice) :
    causeBits (cs ++ [c] ++ xs ++ ys ++ [c]) = causeBits (cs ++ [c] ++ xs ++ ys) := by
  simp only [causeBits_append]
  ext i hi
  simp only [BitVec.getElem_or]
  cases (causeBits [c])[i] <;> simp

/-- A new front has met the map, and has ended CLEARING with the sequence or has not (R112, R126). -/
theorem front_passes {es : List Entry} {back : Entry → Bool} {cs : List Notice} {tests : Bool}
    (hoff : trv.offsets = s.trv.offsets) (hes : es = (s.fronted trv auth lines).overrunsIf tests)
    (hmeets : (s.fronted trv auth lines).Meets v es back cs) (hgone : s.EndsAtFront trv.front (tests = true) gone) :
    ∃ action start fault reports eval entries, entries = entriesPast gone ((s.fronted trv auth lines).met es back)
      ∧ endPassed (s.fronted trv auth lines) v = { s.fronted trv auth lines with
        map := ⟨entries, s.map.nextId, action,
          (es.getLast?.map (s.fronted trv auth lines).overrunRecord).or s.map.lastRemoval⟩
        bsc := { s.bsc with breaker := s.bsc.breaker.openedIf (es.any Entry.changesSystem), limitStart := start }
        seq := s.seqPast gone
        lnk := raiseAll (cs ++ (if entries = s.map.entries then [] else [.entry])
          ++ (if s.bsc.breaker.openedIf (es.any Entry.changesSystem) = s.bsc.breaker then [] else [.breaker])
          ++ (if es.any Entry.changesSystem then [.fault] else [])) s.lnk
        fault := fault, reports := reports, iceEval := eval } := by
  obtain ⟨action, start, fault, reports, eval, hv, -⟩ := hmeets
  have hover := fronted_overrun (s := s) (auth := auth) (lines := lines) hoff
  have hnil : es = [] ↔ ¬ (tests = true ∧ ∃ e ∈ s.map.entries, s.Overruns trv.front e) := by
    rw [hes, overrunsIf_eq_nil]
    exact not_congr (and_congr_right fun _ => exists_congr fun e => and_congr_right fun _ => hover e)
  rcases hgone with ⟨rfl, hnot⟩ | ⟨hctx, hclears, hlive⟩
  · have hstands : endPassed (s.fronted trv auth lines) v = v := by
      refine endPassed_stands fun c hc hstage hfront => ?_
      have hempty : es = [] := hnil.2 fun h => hnot ⟨h.1, h.2, c, hc, hstage, hfront⟩
      have hlen : v.map.entries.length = (s.fronted trv auth lines).map.entries.length := by
        rw [hv, hempty]
        exact (List.length_map ..).trans (congrArg List.length (remaining_nil _))
      exact hlen.ge
    refine ⟨action, start, fault, reports, eval, _, (List.filter_true _).symm, ?_⟩
    rw [hstands, hv]
    rfl
  · obtain ⟨htests, hany, c, hc, hstage, hfront⟩ := hclears
    rw [hc] at hctx
    subst hctx
    have hne : es ≠ [] := fun h => hnil.1 h ⟨htests, hany⟩
    have hsome : ∃ e ∈ es, e ∈ s.map.entries := by
      obtain ⟨e, he⟩ := List.exists_mem_of_ne_nil es hne
      refine ⟨e, he, ?_⟩
      rw [hes, State.overrunsIf, if_pos htests] at he
      exact List.mem_of_mem_filter he
    have hless : ((s.fronted trv auth lines).met es back).length < s.map.entries.length := length_met_lt back hsome
    have hmet : (s.fronted trv auth lines).met es back ≠ (s.fronted trv auth lines).map.entries :=
      fun h => absurd (congrArg List.length h) hless.ne
    have hpast : entriesPast (some c) ((s.fronted trv auth lines).met es back) ≠ s.map.entries :=
      fun h => absurd (congrArg List.length h) ((List.length_filter_le ..).trans_lt hless).ne
    obtain ⟨action', hends⟩ := endPassed_ends (before := s.fronted trv auth lines) (v := v) hc (by rw [hv]) hstage (hlive c rfl)
      hfront (by rw [hv]; exact hfront) (by rw [hv]; exact hless)
    refine ⟨action', start, fault, reports, true, _, rfl, ?_⟩
    have hbits : raiseAll [.entry] (raiseAll ((s.fronted trv auth lines).meetCauses es back cs) s.lnk)
        = raiseAll (cs ++ [.entry] ++ (if s.bsc.breaker.openedIf (es.any Entry.changesSystem) = s.bsc.breaker then [] else [.breaker])
          ++ (if es.any Entry.changesSystem then [.fault] else [])) s.lnk := by
      rw [raiseAll_raiseAll, State.meetCauses, if_neg hmet]
      refine raiseAll_congr ?_ _
      change causeBits (cs ++ [.entry]
        ++ (if s.bsc.breaker.openedIf (es.any Entry.changesSystem) = s.bsc.breaker then [] else [.breaker])
        ++ (if es.any Entry.changesSystem then [.fault] else []) ++ [.entry]) = _
      exact causeBits_repeated ..
    rw [hends, if_neg hpast, hv, ← hbits]
    rfl

theorem moved_id (b : State) (back : Entry → Bool) (e : Entry) : (b.moved back e).id = e.id := by
  rw [moved_eq, (armEntry_fields b _).1]
  exact (sentBack_fields back e).1

/-- With unique ids the entries that a front leaves are those it does not overrun, without that of the sequence that ends. -/
theorem entriesPast_met {tests : Bool} {back : Entry → Bool} {keep : Entry → Prop} [DecidablePred keep]
    (hoff : trv.offsets = s.trv.offsets) (hids : (s.map.entries.map (·.id)).Nodup)
    (hkeep : ∀ e, keep e ↔ ¬ (tests = true ∧ s.Overruns trv.front e)) :
    entriesPast gone ((s.fronted trv auth lines).met ((s.fronted trv auth lines).overrunsIf tests) back)
      = (s.map.entries.filter fun e => keep e ∧ gone.all (fun c => decide (e.id ≠ c.entry.id)) = true).map
          ((s.fronted trv auth lines).moved back) := by
  have hover := fronted_overrun (s := s) (auth := auth) (lines := lines) hoff
  have hmem : ∀ d, d ∈ (s.fronted trv auth lines).overrunsIf tests ↔ tests = true ∧ d ∈ s.map.entries ∧ s.Overruns trv.front d := by
    intro d
    unfold State.overrunsIf State.overruns
    cases tests with
    | true =>
      rw [if_pos rfl, List.mem_filter, hover]
      exact (and_iff_right rfl).symm
    | false => simp
  have hrest : (s.fronted trv auth lines).remaining ((s.fronted trv auth lines).overrunsIf tests)
      = s.map.entries.filter fun e => decide (keep e) := by
    refine List.filter_congr fun d hd => Bool.eq_iff_iff.2 ?_
    rw [List.all_eq_true, decide_eq_true_iff, hkeep]
    constructor
    · exact fun hall hgo => of_decide_eq_true (hall d ((hmem d).2 ⟨hgo.1, hd, hgo.2⟩)) rfl
    · refine fun hstays e he => decide_eq_true fun hid => hstays ?_
      obtain ⟨htests, hentry, hgo⟩ := (hmem e).1 he
      rw [List.inj_on_of_nodup_map hids hd hentry hid]
      exact ⟨htests, hgo⟩
  rw [State.met, hrest, entriesPast, List.filter_map, List.filter_filter]
  refine congrArg _ (List.filter_congr fun e _ => ?_)
  rw [Function.comp_apply, Bool.decide_and, Bool.and_comm]
  simp only [moved_id, Bool.decide_eq_true]

/-- What a new front leaves in every case (R103, R112, R200). -/
theorem front_keeps {es : List Entry} {back : Entry → Bool} {cs : List Notice}
    (hmeets : (s.fronted trv auth lines).Meets v es back cs) (hu : u = (endPassed (s.fronted trv auth lines) v).setIceEval true) :
    u.trv = trv ∧ u.clk = s.clk ∧ u.lines = lines ∧ u.cfg = s.cfg ∧ u.ldet = s.ldet ∧ u.pending = s.pending
      ∧ u.map.nextId = s.map.nextId
      ∧ u.map.lastRemoval = (es.getLast?.map (s.fronted trv auth lines).overrunRecord).or s.map.lastRemoval
      ∧ (∀ l, (u.lnk.get l).tx = (s.lnk.get l).tx)
      ∧ (es.any Entry.changesSystem = true → s.fault = none → ∃ f, u.fault = some f ∧ f.kind = .overrun) := by
  obtain ⟨action, start, fault, reports, eval, hv, hnew⟩ := hmeets
  have hkept : Kept v u := by
    rw [hu]
    exact ((Kept.refl v).endPassed _).setIceEval _
  have hstays : Stays v u := by
    rw [hu]
    exact ((Stays.refl v).endPassed _).setIceEval _
  have hlast : u.map.lastRemoval = v.map.lastRemoval := by
    rw [hu]
    rcases endPassed_cases (s.fronted trv auth lines) v with h | ⟨-, h⟩ <;> rw [h] <;> rfl
  obtain ⟨hnext, -, hldet, hcfg, -⟩ := still_fields hkept.still
  obtain ⟨hclk, hlines, hpending⟩ := still_inputs hkept.still
  rw [hv] at hnext hldet hcfg hclk hlines hpending hlast
  refine ⟨hstays.trv.trans (by rw [hv]; rfl), hclk, hlines, hcfg, hldet, hpending, hnext, hlast, fun l => ?_, fun hsys hnone => ?_⟩
  · rw [hstays.tx, hv]
    change ((raiseAll _ s.lnk).get l).tx = _
    rw [raiseAll_get]
  · obtain ⟨f, hf, hkind⟩ := hnew hsys hnone
    exact ⟨f, hkept.fault f (by rw [hv]; exact hf), hkind⟩

/-- A front overruns a system change exactly where the model reports one (R112). -/
theorem overrunsIf_changes {tests : Bool} (hoff : trv.offsets = s.trv.offsets) :
    ((s.fronted trv auth lines).overrunsIf tests).any Entry.changesSystem = true
      ↔ tests = true ∧ s.map.entries.any (s.overrunsChange trv.front) = true := by
  have hover := fronted_overrun (s := s) (auth := auth) (lines := lines) hoff
  have hchange : ∀ e, s.overrunsChange trv.front e = true ↔ e.changesSystem = true ∧ s.Overruns trv.front e := by
    intro e
    unfold State.overrunsChange Entry.changesSystem State.Overruns
    cases e.sect <;> simp
  unfold State.overrunsIf State.overruns
  cases tests with
  | false => simp
  | true =>
    simp only [if_true, true_and, List.any_eq_true, List.mem_filter, hover, hchange]
    exact exists_congr fun e => and_assoc.trans (and_congr_right fun _ => and_comm)

theorem overrunsIf_change_mem {tests : Bool} (hoff : trv.offsets = s.trv.offsets) (htests : tests = true)
    (he : e ∈ s.map.entries) (hgo : s.Overruns trv.front e) {y : LineSys} {w : Bool} {k : Nat}
    (hsect : e.sect = .systemChange y w k) :
    ((s.fronted trv auth lines).overrunsIf tests).any Entry.changesSystem = true := by
  refine (overrunsIf_changes hoff).2 ⟨htests, List.any_eq_true.2 ⟨e, he, ?_⟩⟩
  unfold State.overrunsChange
  rw [hsect]
  simpa [State.Overruns] using hgo

end Fronted

section PositionFix

variable {s : State} {l : Link} {tag : Byte} {m : Nat}

/-- A fix meets the map with overruns where it is forward, and without them elsewhere (R113, R114). -/
theorem mapFix_meets (b : State) (tests : Bool) : b.Meets (mapFix tests b) (b.overrunsIf tests) (fun e => !b.withinArm e) [] := by
  cases tests with
  | true => exact fixMeets (removeOverruns_eq _ b) fun e he => List.mem_of_mem_filter he
  | false => exact fixMeets (.nil b) fun e he => nomatch he

/-- Settles O26. A taken fix meets the map under the front it sets; where that ends CLEARING, the sequence ends behind it. -/
theorem positionFixSetsTheOdometer : Obligations.PositionFixSetsTheOdometer := by
  intro l tag m s hfree
  obtain ⟨x, hx⟩ := superviseFrame_eq l s
  refine ⟨fun hheld => ?_, fun hheld hpending => ?_, fun hheld hmode hm => ?_, fun hheld hmode hm => ?taken⟩
  · exact exec_roof_refused (x := .positionFix m) rfl rfl hfree (by simp [runCmd, cmdPositionFix, hheld]) rfl (fun h => nomatch h)
  · exact exec_roof_refused (x := .positionFix m) rfl rfl hfree (by simp [runCmd, cmdPositionFix, hheld, hpending]) rfl
      (fun h => nomatch h)
  · exact exec_roof_refused (x := .positionFix m) rfl rfl hfree
      (by simp [runCmd, cmdPositionFix, hheld, hmode, Config.routeMax, hm]) rfl (fun h => nomatch h)
  have hrun : runCmd l tag (.positionFix m) (superviseFrame l s) = query (takeFix m (superviseFrame l s)) [] := by
    simp [runCmd, cmdPositionFix, hheld, hmode, Config.routeMax, Nat.not_lt.2 hm]
  have hexec := exec_roof_ok (r := .positionFix l tag m) rfl rfl hfree hrun
  obtain ⟨b, hb⟩ : ∃ b, b = s.fronted { s.trv with front := m * 1000 } { s.auth with supervision := x } s.lines := ⟨_, rfl⟩
  obtain ⟨tests, htests⟩ : ∃ tests, tests = decide (s.trv.front ≤ m * 1000) := ⟨_, rfl⟩
  have hforward : tests = true ↔ s.trv.front ≤ m * 1000 := by rw [htests, decide_eq_true_iff]
  have hmeets := mapFix_meets b tests
  obtain ⟨u, hu⟩ : ∃ u, u = (endPassed b (mapFix tests b)).setIceEval true := ⟨_, rfl⟩
  have hfix : takeFix m (superviseFrame l s) = u := by
    rw [hu, hb, htests, hx]
    rfl
  rw [hfix] at hexec
  rw [hb] at hmeets hu
  have hoff : ({ s.trv with front := m * 1000 } : Travel).offsets = s.trv.offsets := rfl
  obtain ⟨htrv, hclk, hlines, hcfg, hldet, hpend, hnext, hlast, htx, hfault⟩ := front_keeps hmeets hu
  have hresponse := response_settled (tag := tag) (code := 0x05) (st := .ok) (bytes := []) (htx l)
  have hsettled := ((Kept.refl (u.answered l tag (Cmd.positionFix m).code .ok [])).settle).fields
  obtain ⟨scfg, slines, sldet, sclk, strv, -, snext, spend⟩ := hsettled
  have hanswered : (u.answered l tag (Cmd.positionFix m).code .ok []).trv = { s.trv with front := m * 1000 } := htrv
  rw [hanswered] at strv
  simp only [Travel.still, Travel.mk.injEq] at strv
  obtain ⟨sfront, shistory, sacc, sspeed, -⟩ := strv
  refine ⟨_, _, hexec, rfl, sfront, shistory, sacc, sspeed, scfg.trans hcfg, sldet.trans hldet,
    slines.trans hlines, sclk.trans hclk, snext.trans hnext, spend.trans hpend, hresponse, htrv, fun hfwd => ?last,
    fun hback => ?stands, fun e he hfwd hgo y w k hsect hnone => ?fault, fun gone hgone => ?gone⟩
  case last =>
    rw [hforward.2 hfwd] at hlast
    exact removedLast_of (u := u) hoff hlast
  case stands =>
    have hno : tests = false := by rw [htests, decide_eq_false_iff_not]; exact Nat.not_le.2 hback
    rw [hno] at hlast
    exact hlast
  case fault => exact hfault (overrunsIf_change_mem hoff (hforward.2 hfwd) he hgo hsect) hnone
  case gone =>
    obtain ⟨action, start, fault, reports, eval, entries, hentries, hpass⟩ := front_passes hoff rfl hmeets
      (by rw [hforward]; exact hgone)
    rw [hpass] at hu
    refine ⟨seqPast_endsDone (u := u) (by rw [hu]; rfl), by rw [hu]; rfl, by rw [hu]; rfl, by rw [hu]; rfl, ?_, by rw [hu, hx]; rfl,
      fun hids => ?_, fun e he hfwd hgo y w k hsect => ?_⟩
    · have hlnk := congrArg State.lnk hu
      refine answers_of_bits (u := u) hlnk ?_
      have hsame : (u.answered l tag (Cmd.positionFix m).code .ok []).map.entries = entries := by rw [hu]; rfl
      have hbreaker : (u.answered l tag (Cmd.positionFix m).code .ok []).bsc.breaker = s.bsc.breaker.openedIf _ :=
        congrArg (·.bsc.breaker) hu
      rw [hsame, hbreaker]
      have hchange := (overrunsIf_changes (auth := { s.auth with supervision := x }) (lines := s.lines) (tests := tests) hoff).trans
        (and_congr_left fun _ => hforward)
      rw [if_congr hchange rfl rfl]
      rfl
    · have hsame : (u.answered l tag (Cmd.positionFix m).code .ok []).map.entries = entries := by rw [hu]; rfl
      have hanswered : (u.answered l tag (Cmd.positionFix m).code .ok []).trv = { s.trv with front := m * 1000 } := htrv
      rw [hsame, hanswered, hentries]
      refine (entriesPast_met (keep := fun e => e.state = .active ∨ m * 1000 < s.trv.front
        ∨ m * 1000 < (e.start + e.length) * 1000 + largestOffset s.trv.offsets s.usablePans + s.cfg.items.clearMargin * 1000)
        hoff hids fun e => ?_).trans ?_
      · rw [hforward]
        unfold State.Overruns
        by_cases he : e.state = .active
        · simp [he]
        · simp only [he, false_or, not_false_eq_true, ne_eq, true_and, not_and, Nat.not_le]
          omega
      · refine congrArg (fun f => List.map ((s.fronted { s.trv with front := m * 1000 } { s.auth with supervision := x }
          s.lines).moved f) _) (funext fun e => ?_)
        rw [State.withinArm, ← decide_not]
        exact decide_eq_decide.2 Nat.not_le
    · have hany := overrunsIf_change_mem (auth := { s.auth with supervision := x }) (lines := s.lines) hoff (hforward.2 hfwd) he hgo
        hsect
      rw [hany] at hu
      constructor
      · intro hclosed
        rw [hu]
        change s.bsc.breaker.openedIf true = .opening
        rw [hclosed]
        rfl
      · rw [hu]
        rfl

end PositionFix

section TravelPulse

variable {s : State} {dir : TravelDir} {x : PulseLine} {v : PulseState}

/-- An event of the travel pulse line that accepts no pulse (R3). -/
theorem travelPulse_passes (h : s.lines.travelPulse.accepts s.cfg.items.pulseMinWidth x = false)
    (hafter : s.lines.travelPulse.after s.cfg.items.pulseMinWidth x = v) :
    exec (.travelPulse dir x) s = .next { s with lines := { s.lines with travelPulse := v } } := by
  have hexec : exec (.travelPulse dir x) s = execTravelPulse dir x s := rfl
  rw [hexec, execTravelPulse, h, hafter]
  rfl

/-- An accepted travel pulse (R3 to R8). -/
theorem travelPulse_accepts (h : s.lines.travelPulse.accepts s.cfg.items.pulseMinWidth x = true)
    (hafter : s.lines.travelPulse.after s.cfg.items.pulseMinWidth x = v) :
    exec (.travelPulse dir x) s = .next (settle (takePulse dir { s with lines := { s.lines with travelPulse := v } })) := by
  have hexec : exec (.travelPulse dir x) s = execTravelPulse dir x s := rfl
  rw [hexec, execTravelPulse, h, hafter]
  rfl

theorem pulseForward_iff (leading : End) (dir : TravelDir) :
    pulseForward leading dir = true ↔ (leading = .endA ∧ dir = .aForward ∨ leading = .endB ∧ dir = .bForward) := by
  cases leading <;> cases dir <;> decide

/-- TRV at an accepted pulse (R5, R6, R8). -/
theorem pulse_fields (forward : Bool) (len : Nat) (t : Travel) : (t.pulse forward len).offsets = t.offsets
    ∧ (t.pulse forward len).front = (if forward then min 4294967295 (t.front + len) else t.front - len)
    ∧ (t.pulse forward len).acc = t.acc + len
    ∧ (t.pulse forward len).fwdRun = (if forward then min 2000 (t.fwdRun + len) else 0)
    ∧ (t.pulse forward len).revRun = (if forward then 0 else min 2000 (t.revRun + len))
    ∧ (t.pulse forward len).direction = (match t.direction with
        | .normal => if (t.pulse forward len).revRun = 2000 then .reversing else .normal
        | .reversing => if (t.pulse forward len).fwdRun = 2000 then .normal else .reversing)
    ∧ { t.pulse forward len with front := t.front, acc := t.acc, fwdRun := t.fwdRun, revRun := t.revRun,
                                 direction := t.direction } = t := by
  refine ⟨rfl, rfl, rfl, ?_, ?_, ?_, rfl⟩
  · cases forward <;> rfl
  · cases forward <;> rfl
  · unfold Travel.pulse nextDirection
    cases t.direction <;> cases forward <;> simp [Config.runMax]

/-- Settles O41. An accepted pulse meets the map under the front it sets; where that ends CLEARING, the sequence ends behind it. -/
theorem travelPulseMovesTheFront : Obligations.TravelPulseMovesTheFront := by
  intro dir us s
  refine ⟨travelPulse_passes (pulse_goesInactive ..).2 (pulse_goesInactive ..).1, fun hacc => ⟨?_, ?_⟩, fun hoff => ?_,
    fun w hw => ?_, fun w hw hshort => ?_, fun w hw hlong forward hforward => ?taken⟩
  · refine (travelPulse_passes (v := .accepted) (pulse_goesActive ..) (by rw [hacc]; rfl)).trans ?_
    rw [← hacc]
  · refine (travelPulse_passes (v := .accepted) (by rw [hacc]; rfl) (by rw [hacc]; rfl)).trans ?_
    rw [← hacc]
  · exact travelPulse_passes (pulse_goesActive ..) (by rw [hoff]; rfl)
  · refine (travelPulse_passes (v := .active w) (pulse_goesActive ..) (by rw [hw]; rfl)).trans ?_
    rw [← hw]
  · obtain ⟨hafter, hno⟩ := pulse_short hw hshort
    exact travelPulse_passes hno hafter
  obtain ⟨hafter, hyes⟩ := pulse_long hw hlong
  have hexec := travelPulse_accepts (dir := dir) hyes hafter
  have hdir : pulseForward s.auth.leading dir = forward := by
    rw [Bool.eq_iff_iff, pulseForward_iff, hforward]
  obtain ⟨lines, hlinesEq⟩ : ∃ lines, lines = { s.lines with travelPulse := .accepted } := ⟨_, rfl⟩
  obtain ⟨trv, htrvEq⟩ : ∃ trv, trv = Travel.pulse forward s.cfg.items.pulseLength s.trv := ⟨_, rfl⟩
  obtain ⟨hoff, hfront, hacc, hfwd, hrev, hdirection, hrest⟩ := pulse_fields forward s.cfg.items.pulseLength s.trv
  rw [← htrvEq] at hoff hfront hacc hfwd hrev hdirection hrest
  have hmeets := pulseMeets s.trv.direction (s.fronted trv s.auth lines)
  obtain ⟨u, hu⟩ : ∃ u, u = (endPassed (s.fronted trv s.auth lines) (mapPulse s.trv.direction (s.fronted trv s.auth lines))).setIceEval
    true := ⟨_, rfl⟩
  have htake : takePulse dir { s with lines := { s.lines with travelPulse := .accepted } } = u := by
    rw [hu, htrvEq, ← hdir, hlinesEq]
    rfl
  rw [htake] at hexec
  obtain ⟨htrv, -, hlines, -, -, -, hnext, hlast, -, hfault⟩ := front_keeps hmeets hu
  refine ⟨u, hexec, hlines.trans hlinesEq, ?_, ?_, ?_, ?_, ?_, ?_, hnext, ?_, fun e he hgo y w k hsect hnone => ?fault,
    fun gone hgone => ?gone⟩
  case fault =>
    rw [htrv] at hgo
    exact hfault (overrunsIf_change_mem (tests := true) hoff rfl he hgo hsect) hnone
  case gone =>
    rw [htrv] at hgone
    obtain ⟨action, start, fault, reports, eval, entries, hentries, hpass⟩ := front_passes (tests := true) hoff rfl hmeets
      (by simpa using hgone)
    rw [hpass] at hu
    have hsame : u.map.entries = entries := by rw [hu]; rfl
    have hbreaker : u.bsc.breaker = s.bsc.breaker.openedIf _ := congrArg (·.bsc.breaker) hu
    refine ⟨seqPast_endsDone (u := u) (by rw [hu]; rfl), ?_, fun hids => ?_, fun e he hgo y w k hsect => ?_, by rw [hu]; rfl⟩
    · have hlnk := congrArg State.lnk hu
      rw [hsame, hbreaker, htrv]
      refine (raises_of_lnk (u := u) (s := s) hlnk).congr fun _ => ?_
      have hchange := (overrunsIf_changes (auth := s.auth) (lines := lines) (tests := true) hoff).trans (and_iff_right rfl)
      rw [if_congr hchange.symm rfl rfl]
      rfl
    · rw [hsame, htrv, hentries]
      refine (entriesPast_met (tests := true) (keep := fun e => e.state = .active
        ∨ trv.front < (e.start + e.length) * 1000 + largestOffset s.trv.offsets s.usablePans + s.cfg.items.clearMargin * 1000)
        hoff hids fun e => ?_).trans ?_
      · unfold State.Overruns
        by_cases he : e.state = .active
        · simp [he]
        · simp [he]
      · rfl
    · rw [htrv] at hgo
      have hany := overrunsIf_change_mem (auth := s.auth) (lines := lines) (tests := true) hoff rfl he hgo hsect
      constructor
      · intro hclosed
        rw [hbreaker, hclosed]
        rw [hany]
        rfl
      · rw [hu]
        rfl
  all_goals rw [htrv]
  · exact hfront
  · exact hacc
  · exact hfwd
  · exact hrev
  · exact hdirection
  · exact hrest
  · exact removedLast_of (u := u) hoff hlast

end TravelPulse

end Sys2Proof.Machine

/-! ### The line-lost watch and the auto-reclose (R86 to R88) -/

namespace Sys2Proof.Machine

section CloseRequest

variable {s : State}

/-- A close request closes an open breaker where the interlock holds (R80). -/
theorem closeRequest_closes (hlock : s.interlock = true) (hopen : s.bsc.breaker = .opened) : closeRequest s = some { s with
    bsc := { s.bsc with breaker := .closing, limitStart := s.clk.time }, lnk := raiseAll [.breaker] s.lnk } := by
  have hother : s.bsc.breaker ≠ .closing := by rw [hopen]; exact fun h => nomatch h
  unfold closeRequest
  rw [if_pos hlock, hopen]
  exact congrArg some ((setBreaker_moves (s := s.modBsc fun q => { q with limitStart := s.now }) hother (.inr rfl)).trans rfl)

/-- A close request leaves a breaker that is closing or closed where the interlock holds (R80). -/
theorem closeRequest_stands (hlock : s.interlock = true) (hshut : s.bsc.breaker = .closing ∨ s.bsc.breaker = .closed) :
    closeRequest s = some s := by
  unfold closeRequest
  rw [if_pos hlock]
  rcases hshut with h | h <;> rw [h]

/-- A close request is refused without the interlock, and of a breaker that opens or has failed (R80). -/
theorem closeRequest_refused (h : s.interlock = false ∨ s.bsc.breaker = .opening ∨ s.bsc.breaker = .failed) :
    closeRequest s = none := by
  unfold closeRequest
  rcases h with h | h | h
  · rw [h]
    rfl
  · rw [h]
    exact ite_self _
  · rw [h]
    exact ite_self _

end CloseRequest

section LineLost

variable {s : State}

theorem collectsFreely_iff (s : State) : s.CollectsFreely
    ↔ s.collectorRaised.isSome = true ∧ s.seq.mode = .inService ∧ s.entryActive = false := by
  have hraised : s.collectorRaised.isSome = true ↔ ∃ p, (s.ch p).state = .raised ∧ (s.ch p).role = some .collecting := by
    rw [Option.isSome_iff_ne_none, ne_eq, collectorRaised_eq_none_iff, not_not]
  have hactive : s.entryActive = false ↔ ∀ e ∈ s.map.entries, e.state ≠ .active := by
    rw [← Bool.not_eq_true, entryActive_iff, not_not]
  exact (hraised.and (Iff.rfl.and hactive)).symm

theorem inProtectedZone_iff (s : State) (e : Entry) : s.InProtectedZone e ↔ protectedZone s e = true := by
  unfold State.InProtectedZone protectedZone
  rw [Bool.and_eq_true, decide_eq_true_iff, decide_eq_true_iff]
  refine and_congr ?_ Iff.rfl
  unfold travelled Entry.startMm
  generalize s.trv.speed * (s.cfg.items.openTime + s.cfg.items.lowerAllowTime) / 1000 = x
  omega

theorem watchRuns_iff (s : State) : s.WatchRuns ↔ s.lineLostHolds = true := by
  have hzone : (∀ e ∈ s.map.entries, ¬ s.InProtectedZone e) ↔ (s.map.entries.all fun e => !protectedZone s e) = true := by
    rw [List.all_eq_true]
    exact forall₂_congr fun e _ => by rw [inProtectedZone_iff, Bool.not_eq_true', Bool.not_eq_true]
  unfold State.WatchRuns State.lineLostHolds
  rw [collectsFreely_iff, hzone]
  simp only [Bool.and_eq_true, decide_eq_true_iff, Bool.not_eq_true']
  tauto

theorem recloseRuns_iff (s : State) : s.RecloseRuns ↔ s.recloseHolds = true := by
  have hsystem : (match s.systemPosition with
      | some y => decide (s.ldet.detected = .raw (.sys y))
      | none => false) = true ↔ ∃ y, s.bsc.selector = .rest (.sys y) ∧ s.ldet.detected = .raw (.sys y) := by
    simp only [← systemPosition_eq_some]
    cases s.systemPosition <;> simp
  unfold State.RecloseRuns State.recloseHolds
  rw [collectsFreely_iff, ← hsystem]
  simp only [Bool.and_eq_true, decide_eq_true_iff, Bool.not_eq_true']
  tauto

theorem watchLineLost_runs (h : s.WatchRuns) :
    (s.bsc.watch = .stopped → watchLineLost s = some { s with bsc := { s.bsc with watch := .running s.clk.time } })
      ∧ (s.bsc.watch ≠ .stopped → watchLineLost s = none) := by
  unfold watchLineLost
  rw [(watchRuns_iff s).1 h]
  cases s.bsc.watch with
  | stopped => exact ⟨fun _ => rfl, fun h => absurd rfl h⟩
  | running t => exact ⟨(fun h => nomatch h), fun _ => rfl⟩
  | spent => exact ⟨(fun h => nomatch h), fun _ => rfl⟩

theorem watchLineLost_ceased (h : ¬ s.WatchRuns) : (s.bsc.watch = .stopped → watchLineLost s = none)
    ∧ (s.bsc.watch ≠ .stopped → watchLineLost s = some { s with bsc := { s.bsc with watch := .stopped } }) := by
  unfold watchLineLost
  rw [Bool.eq_false_iff.2 fun hholds => h ((watchRuns_iff s).2 hholds)]
  cases s.bsc.watch with
  | stopped => exact ⟨fun _ => rfl, fun h => absurd rfl h⟩
  | running t => exact ⟨(fun h => nomatch h), fun _ => rfl⟩
  | spent => exact ⟨(fun h => nomatch h), fun _ => rfl⟩

theorem watchReclose_runs (h : s.RecloseRuns) :
    (s.bsc.recloseTimer = none → watchReclose s = some { s with bsc := { s.bsc with recloseTimer := some s.clk.time } })
      ∧ (s.bsc.recloseTimer ≠ none → watchReclose s = none) := by
  unfold watchReclose
  rw [(recloseRuns_iff s).1 h]
  cases s.bsc.recloseTimer with
  | none => exact ⟨fun _ => rfl, fun h => absurd rfl h⟩
  | some t => exact ⟨(fun h => nomatch h), fun _ => rfl⟩

theorem watchReclose_ceased (h : ¬ s.RecloseRuns) : (s.bsc.recloseTimer = none → watchReclose s = none)
    ∧ (s.bsc.recloseTimer ≠ none → watchReclose s = some { s with bsc := { s.bsc with recloseTimer := none } }) := by
  unfold watchReclose
  rw [Bool.eq_false_iff.2 fun hholds => h ((recloseRuns_iff s).2 hholds)]
  cases s.bsc.recloseTimer with
  | none => exact ⟨fun _ => rfl, fun h => absurd rfl h⟩
  | some t => exact ⟨(fun h => nomatch h), fun _ => rfl⟩

/-- The line-lost watch reaches its limit (R87): the breaker is opened with a fault, and the reclose armed, or traction-wanted
cleared where a reclose lies less than 60 s back. -/
theorem lineLostExpires_eq (s : State) : ∃ start cs reports, .lineLost ∈ cs ∧ lineLostExpires s = { s with
    bsc := { s.bsc with
      breaker := s.bsc.breaker.requested, limitStart := start, watch := .spent
      traction := s.bsc.traction && !s.bsc.lastReclose.any (fun r => (s.clk.time - r).toNat < 60000)
      reclose := !s.bsc.lastReclose.any fun r => (s.clk.time - r).toNat < 60000 }
    fault := (openRequest s).captured .lineLost none none, lnk := raiseAll cs s.lnk, reports := reports } := by
  obtain ⟨start, hopen⟩ := openRequest_form s
  obtain ⟨cs, hcs⟩ : ∃ cs, cs = (if s.bsc.breaker.requested = s.bsc.breaker then [] else [Notice.breaker])
      ++ [.fault] ++ [.lineLost] := ⟨_, rfl⟩
  obtain ⟨t, ht⟩ : ∃ t, t = notice .lineLost (reportFault .lineLost none none (openRequest s)) := ⟨_, rfl⟩
  have hform : t = { s with
      bsc := { s.bsc with breaker := s.bsc.breaker.requested, limitStart := start }
      fault := (openRequest s).captured .lineLost none none, lnk := raiseAll cs s.lnk
      reports := s.reports ++ [.fault .lineLost none] } := by
    rw [ht, notice_eq, reportFault_eq]
    generalize (openRequest s).captured .lineLost none none = fault
    rw [hopen, hcs, raiseAll_raiseAll, raiseAll_raiseAll]
  have hmem : Notice.lineLost ∈ cs := by rw [hcs]; simp
  have hexpires : lineLostExpires s = (if s.bsc.lastReclose.any (fun r => (s.clk.time - r).toNat < 60000) = true
      then clearTraction t else t.modBsc fun q => { q with reclose := true }).modBsc fun q => { q with watch := .spent } := by
    unfold lineLostExpires
    rw [← ht]
    cases s.bsc.lastReclose <;> rfl
  rw [hexpires]
  cases s.bsc.lastReclose.any fun r => (s.clk.time - r).toNat < 60000 with
  | true =>
    rw [if_pos rfl, clearTraction_eq, hform]
    refine ⟨start, cs ++ (if s.bsc.traction then [.breaker] else []), s.reports ++ [.fault .lineLost none],
      List.mem_append_left _ hmem, ?_⟩
    rw [raiseAll_raiseAll]
    simp [State.modBsc]
  | false =>
    rw [if_neg (by decide), hform]
    refine ⟨start, cs, s.reports ++ [.fault .lineLost none], hmem, ?_⟩
    simp [State.modBsc]

/-- The reclose timer reaches its limit (R88). -/
theorem autoRecloses_eq (s : State) : ∃ start, autoRecloses s = { s with
    bsc := { s.bsc with
      breaker := if s.interlock = true ∧ s.bsc.breaker = .opened then .closing else s.bsc.breaker, limitStart := start
      lastReclose := some s.clk.time, reclose := false, recloseTimer := none }
    lnk := raiseAll (if s.interlock = true ∧ s.bsc.breaker = .opened then [.breaker] else []) s.lnk } := by
  obtain ⟨t, ht⟩ : ∃ t, t = { s with bsc := { s.bsc with
    lastReclose := some s.clk.time, reclose := false, recloseTimer := none } } := ⟨_, rfl⟩
  have hrecloses : autoRecloses s = (closeRequest t).getD t := by rw [ht]; rfl
  have hlock : t.interlock = s.interlock := by rw [ht]; rfl
  have hbreaker : t.bsc.breaker = s.bsc.breaker := by rw [ht]
  rw [hrecloses]
  by_cases hcloses : s.interlock = true ∧ s.bsc.breaker = .opened
  · refine ⟨s.clk.time, ?_⟩
    rw [closeRequest_closes (hlock.trans hcloses.1) (hbreaker.trans hcloses.2), if_pos hcloses, if_pos hcloses, ht]
    rfl
  · refine ⟨s.bsc.limitStart, ?_⟩
    rw [if_neg hcloses, if_neg hcloses, raiseAll_nil]
    have hstands : (closeRequest t).getD t = t := by
      unfold closeRequest
      rw [hlock, hbreaker]
      split
      · next hlocked =>
        split
        · next hopen => exact absurd ⟨hlocked, hopen⟩ hcloses
        all_goals rfl
      · rfl
    rw [hstands, ht]

/-- What a lost line leaves (R87). -/
theorem lineLostWatchExpiry_acts (hdue : s.watchDue = true) :
    ∃ u, exec .lineLostWatchExpiry s = .next (settle u) ∧ u.Noticed .lineLost ∧ u.bsc.watch = .spent
      ∧ u.bsc.breaker = (if s.bsc.breaker = .closed ∨ s.bsc.breaker = .closing then .opening else s.bsc.breaker)
      ∧ (s.bsc.lastReclose = none → u.bsc.reclose = true ∧ u.bsc.traction = s.bsc.traction)
      ∧ (∀ r, s.bsc.lastReclose = some r → (s.clk.time - r).toNat < 60000 →
          u.bsc.reclose = false ∧ u.bsc.traction = false)
      ∧ (∀ r, s.bsc.lastReclose = some r → 60000 ≤ (s.clk.time - r).toNat →
          u.bsc.reclose = true ∧ u.bsc.traction = s.bsc.traction)
      ∧ (s.fault = none → ∃ f, u.fault = some f ∧ f.kind = .lineLost) ∧ u.pch = s.pch ∧ u.map = s.map := by
  obtain ⟨start, cs, reports, hmem, heq⟩ := lineLostExpires_eq s
  have hexec : exec .lineLostWatchExpiry s = .next (settle (lineLostExpires s)) := atLimit_due hdue lineLostExpires s
  obtain ⟨u, hu⟩ : ∃ u, u = lineLostExpires s := ⟨_, rfl⟩
  rw [← hu] at heq hexec
  have hfault : (openRequest s).fault = s.fault := by
    obtain ⟨start, hopen⟩ := openRequest_form s
    rw [hopen]
  refine ⟨u, hexec, noticed_of_raised (congrArg State.lnk heq) hmem, ?_, ?_, fun hnone => ?_, fun r hr hrecent => ?_,
    fun r hr hlong => ?_, fun hnone => ⟨_, (congrArg State.fault heq).trans (captured_of_none (hfault.trans hnone)), rfl⟩, ?_, ?_⟩
  all_goals rw [heq]
  · rfl
  · simp [hnone]
  · have hany : s.bsc.lastReclose.any (fun r => (s.clk.time - r).toNat < 60000) = true := by
      rw [hr]
      exact decide_eq_true hrecent
    simp only [hany, Bool.not_true, Bool.and_false, and_self]
  · have hany : s.bsc.lastReclose.any (fun r => (s.clk.time - r).toNat < 60000) = false := by
      rw [hr]
      exact decide_eq_false (Nat.not_lt.2 hlong)
    simp only [hany, Bool.not_false, Bool.and_true, and_self]

theorem autoReclose_acts (hdue : s.recloseDue = true) :
    ∃ u, exec .autoReclose s = .next (settle u) ∧ u.bsc.lastReclose = some s.clk.time ∧ u.bsc.reclose = false
      ∧ u.bsc.recloseTimer = none
      ∧ (s.interlock = true → s.bsc.breaker = .opened → u.bsc.breaker = .closing)
      ∧ (s.interlock = false → u.bsc.breaker = s.bsc.breaker)
      ∧ s.Raises u (fun _ => if u.bsc.breaker = s.bsc.breaker then [] else [.breaker])
      ∧ { u with bsc := s.bsc, lnk := s.lnk, longOps := s.longOps } = s := by
  obtain ⟨start, heq⟩ := autoRecloses_eq s
  have hexec : exec .autoReclose s = .next (settle (autoRecloses s)) := atLimit_due hdue autoRecloses s
  obtain ⟨u, hu⟩ : ∃ u, u = autoRecloses s := ⟨_, rfl⟩
  rw [← hu] at heq hexec
  refine ⟨u, hexec, ?_, ?_, ?_, fun hlock hopen => ?_, fun hlock => ?_, ?_, ?_⟩
  · rw [heq]
  · rw [heq]
  · rw [heq]
  · rw [heq]
    exact if_pos ⟨hlock, hopen⟩
  · rw [heq]
    exact if_neg fun h => absurd (hlock.symm.trans h.1) (by decide)
  · refine (raises_of_lnk (u := u) (congrArg State.lnk heq)).congr fun _ => ?_
    rw [heq]
    by_cases hcloses : s.interlock = true ∧ s.bsc.breaker = .opened
    · simp [hcloses]
    · simp [if_neg hcloses]
  · rw [heq]

end LineLost

end Sys2Proof.Machine

/-! ### The lower requests of SEQ, the failure of a stage, the retry and the end of a sequence (R103, R124, R128, R130, R132) -/

namespace Sys2Proof.Machine

section SeqLowers

variable {s t u : State} {f g : Pan → Bool} {p : Pan}

/-- The arbiter admits SEQ always (R56). -/
theorem admits_sequencer (s : State) (p : Pan) : s.admits p .sequencer = true :=
  (admits_iff s p .sequencer).2 fun _ _ h => nomatch h

/-- The state of a pantograph that has been lowered at once (R45, R47). -/
def State.downState (s : State) (p : Pan) : PanState :=
  if (s.ch p).state.isRaised then (if s.lines.lowered.get p then .lowered else .lowering) else (s.ch p).state

/-- From `s` to `u` SEQ has sent lower requests for the pantographs of a set (R47, R124, R132). -/
structure SeqLowers (f : Pan → Bool) (s u : State) : Prop where
  form : ∃ pch freg breaker start arcs longOps reports eval cs, u = { s with
    pch := pch, freg := freg, bsc := { s.bsc with breaker := breaker, limitStart := start }
    ice := { s.ice with arcs := arcs }, lnk := raiseAll cs s.lnk, longOps := longOps, reports := reports, iceEval := eval }
  others : ∀ p, f p = false → u.ch p = s.ch p
  lowers : ∀ p, f p = true → (s.ch p).state.isRaised = true → (u.ch p).lowerReq = true ∨ (u.ch p).state.isRaised = false
  breaker : u.bsc.breaker = s.bsc.breaker ∨ u.bsc.breaker = s.bsc.breaker.requested
  down : (s.bsc.breaker = .opened ∨ ∀ p, f p = true → (s.ch p).state.isRaised = true → (s.ch p).role = some .scrape) →
    u.bsc = s.bsc ∧ ∀ p, f p = true → (u.ch p).state = s.downState p

theorem SeqLowers.none (hf : ∀ p, f p = false) : SeqLowers f s s where
  form := ⟨s.pch, s.freg, s.bsc.breaker, s.bsc.limitStart, s.ice.arcs, s.longOps, s.reports, s.iceEval, [], by rw [raiseAll_nil]⟩
  others := fun _ _ => rfl
  lowers := fun p hp => absurd (hp.symm.trans (hf p)) (by decide)
  breaker := .inl rfl
  down := fun _ => ⟨rfl, fun p hp => absurd (hp.symm.trans (hf p)) (by decide)⟩

theorem SeqLowers.lines (h : SeqLowers f s u) : u.lines = s.lines := by
  obtain ⟨_, _, _, _, _, _, _, _, _, hu⟩ := h.form
  rw [hu]

theorem SeqLowers.trans (h : SeqLowers f s t) (k : SeqLowers g t u) (hdisj : ∀ p, f p = true → g p = false) :
    SeqLowers (fun p => f p || g p) s u where
  form := by
    obtain ⟨_, _, _, _, _, _, _, _, cs, ht⟩ := h.form
    obtain ⟨pch, freg, breaker, start, arcs, longOps, reports, eval, ds, hu⟩ := k.form
    refine ⟨pch, freg, breaker, start, arcs, longOps, reports, eval, cs ++ ds, ?_⟩
    rw [hu, ht, raiseAll_raiseAll]
  others := fun p hp => by
    obtain ⟨hf, hg⟩ := Bool.or_eq_false_iff.1 hp
    exact (k.others p hg).trans (h.others p hf)
  lowers := fun p hp hup => by
    cases hf : f p with
    | true =>
      rw [k.others p (hdisj p hf)]
      exact h.lowers p hf hup
    | false =>
      rw [hf, Bool.false_or] at hp
      exact k.lowers p hp (by rw [h.others p hf]; exact hup)
  breaker := by
    rcases k.breaker with hk | hk <;> rcases h.breaker with hh | hh
    · exact .inl (hk.trans hh)
    · exact .inr (hk.trans hh)
    · exact .inr (hk.trans (by rw [hh]))
    · exact .inr (hk.trans (by rw [hh, requested_requested]))
  down := fun hs => by
    have hdownH := h.down (hs.imp_right fun hs p hp => hs p (Bool.or_eq_true_iff.2 (.inl hp)))
    have hfree : ∀ p, g p = true → f p = false := fun p hg => by
      rw [← Bool.not_eq_true]
      exact fun hf => absurd ((hdisj p hf).symm.trans hg) (by decide)
    have hdownK := k.down (by
      rcases hs with hs | hs
      · exact .inl (by rw [hdownH.1]; exact hs)
      · refine .inr fun p hg hup => ?_
        rw [h.others p (hfree p hg)] at hup ⊢
        exact hs p (Bool.or_eq_true_iff.2 (.inr hg)) hup)
    refine ⟨hdownK.1.trans hdownH.1, fun p hp => ?_⟩
    cases hg : g p with
    | true =>
      rw [hdownK.2 p hg, State.downState, State.downState, h.others p (hfree p hg), h.lines]
    | false =>
      rw [hg, Bool.or_false] at hp
      rw [k.others p hg]
      exact hdownH.2 p hp

/-- A channel is set and nothing else of the roof moves. -/
theorem ch_of_set {c : Channel} (hpch : u.pch = s.pch.set p c) : u.ch p = c ∧ ∀ q, q ≠ p → u.ch q = s.ch q := by
  unfold State.ch
  rw [hpch]
  exact ⟨PerPan.get_set_same .., fun q hq => by rw [PerPan.get_set, if_neg hq]⟩

/-- One lower request of SEQ that takes its channel and moves nothing more. -/
theorem SeqLowers.of_set {c : Channel} {freg : PerPan Force} {arcs : PerPan ArcRing} {longOps : List LongOp}
    {reports : List Report} {eval : Bool} {cs : List Notice} (hu : u = { s with
      pch := s.pch.set p c, freg := freg, ice := { s.ice with arcs := arcs }, lnk := raiseAll cs s.lnk, longOps := longOps
      reports := reports, iceEval := eval })
    (hlower : (s.ch p).state.isRaised = true → c.lowerReq = true ∨ c.state.isRaised = false)
    (hdown : c.state = s.downState p) : SeqLowers (fun q => decide (q = p)) s u := by
  obtain ⟨hp, hq⟩ := ch_of_set (s := s) (u := u) (p := p) (c := c) (by rw [hu])
  refine ⟨⟨_, freg, s.bsc.breaker, s.bsc.limitStart, arcs, longOps, reports, eval, cs, hu⟩, fun q h => hq q (of_decide_eq_false h),
    fun q h hup => ?_, .inl (by rw [hu]), fun _ => ⟨by rw [hu], fun q h => ?_⟩⟩
  · obtain rfl := of_decide_eq_true h
    rw [hp]
    exact hlower hup
  · obtain rfl := of_decide_eq_true h
    rw [hp]
    exact hdown

theorem downState_up (h : (s.ch p).state.isRaised = true) :
    s.downState p = if s.lines.lowered.get p then .lowered else .lowering := if_pos h

theorem downState_down (h : (s.ch p).state.isRaised = false) : s.downState p = (s.ch p).state :=
  if_neg (by rw [h]; decide)

theorem lowers_state (s : State) (p : Pan) (src : Source) (c : Channel) :
    (s.lowers p src c).state = if s.lines.lowered.get p then .lowered else .lowering := by
  unfold State.lowers
  split <;> rfl

/-- A lower request of SEQ (R47, R56). -/
theorem requestLower_lowers (p : Pan) (s : State) : SeqLowers (fun q => decide (q = p)) s (requestLower p .sequencer s).1 := by
  have hadm := admits_sequencer s p
  have hup : ∀ {x : PanState}, (s.ch p).state = x → x.isRaised = false → (s.ch p).state.isRaised = false := fun h h' => by
    rw [h, h']
  cases hst : (s.ch p).state with
  | dropped | isolated =>
    rw [requestLower_unavailable hadm (by simp [hst])]
    refine .of_set (c := s.ch p) (cs := []) (by rw [State.ch, PerPan.set_get, raiseAll_nil]) (fun h => ?_) ?_
    · exact absurd ((hup hst rfl).symm.trans h) (by decide)
    · exact (downState_down (hup hst rfl)).symm
  | lowered =>
    rw [requestLower_lowered hadm hst]
    refine .of_set (endTaken_eq p .sequencer .lower .done s) (fun h => ?_) ?_
    · exact absurd ((hup hst rfl).symm.trans h) (by decide)
    · exact (downState_down (hup hst rfl)).symm
  | lowering =>
    rw [requestLower_lowering hadm hst]
    refine .of_set (takeOver_eq p .sequencer .lower s) (fun h => ?_) ?_
    · exact absurd ((hup hst rfl).symm.trans h) (by decide)
    · exact (freedFor_state ..).trans (downState_down (hup hst rfl)).symm
  | raising | settling | raised =>
    have hraised : (s.ch p).state.isRaised = true := by rw [hst]; rfl
    rw [requestLower_raised hadm hraised]
    by_cases hfree : (s.ch p).role = some .scrape ∨ s.bsc.breaker = .opened
    · rw [if_pos hfree]
      have hstate := lowers_state s p .sequencer ((s.ch p).freedFor .sequencer)
      refine .of_set (lowerTaken_eq p .sequencer s) (fun _ => .inr ?_) (hstate.trans (downState_up hraised).symm)
      rw [hstate]
      split <;> rfl
    · rw [if_neg hfree]
      have hmark := markTaken_eq p .sequencer .lower (fun c => { c with lowerReq := true }) s
      obtain ⟨t, ht⟩ : ∃ t, t = (takeOver p .sequencer .lower s).modPan p fun c => { c with lowerReq := true } := ⟨_, rfl⟩
      rw [← ht] at hmark
      change SeqLowers _ s (openRequest ((takeOver p .sequencer .lower s).modPan p fun c => { c with lowerReq := true }))
      rw [← ht]
      obtain ⟨start, hopen⟩ := openRequest_form t
      have hstands : (openRequest t).pch = t.pch := by rw [hopen]
      obtain ⟨hp, hq⟩ := ch_of_set (hstands.trans (congrArg State.pch hmark))
      have hbsc : t.bsc = s.bsc := by rw [hmark]
      rw [hbsc] at hopen
      refine ⟨⟨_, s.freg, s.bsc.breaker.requested, start, s.ice.arcs, _, _, s.iceEval, _,
        hopen.trans (by rw [hmark, raiseAll_raiseAll])⟩, fun q h => hq q (of_decide_eq_false h), fun q h _ => .inl ?_,
        .inr (by rw [hopen]), fun hs => absurd hs fun hs => hfree ?_⟩
      · obtain rfl := of_decide_eq_true h
        rw [hp]
      · exact hs.elim .inr fun hs => .inl (hs p (decide_eq_true rfl) hraised)

/-- Lower requests of SEQ for the pantographs of a set, one after another, where each is judged by its own channel. -/
theorem forPans_lowers {step : Pan → State → State} (hstep : ∀ p v, v.ch p = s.ch p →
    if f p then step p v = (requestLower p .sequencer v).1 else step p v = v) : SeqLowers f s (forPans step s) := by
  have hone : ∀ p v, v.ch p = s.ch p → SeqLowers (fun q => decide (q = p) && f p) v (step p v) := by
    intro p v hv
    have h := hstep p v hv
    cases hf : f p with
    | true =>
      rw [hf, if_pos rfl] at h
      rw [h]
      simpa using requestLower_lowers p v
    | false =>
      rw [hf, if_neg (by decide)] at h
      rw [h]
      exact .none fun q => by simp
  have h1 := hone .p1 s rfl
  have h2 := h1.trans (hone .p2 _ (h1.others .p2 rfl)) fun p hp => by cases p <;> simp_all
  have h3 := h2.trans (hone .p3 _ (h2.others .p3 rfl)) fun p hp => by cases p <;> simp_all
  have h4 := h3.trans (hone .p4 _ (h3.others .p4 rfl)) fun p hp => by cases p <;> simp_all
  have hall : (fun p => decide (p = Pan.p1) && f .p1 || decide (p = Pan.p2) && f .p2 || decide (p = Pan.p3) && f .p3
      || decide (p = Pan.p4) && f .p4) = f := funext fun p => by cases p <;> simp
  rw [hall] at h4
  exact h4

end SeqLowers

section StageFailure

variable {s t u m : State} {c : SeqCtx} {r : Reason} {pan : Option Pan}

/-- A state whose sequencer and links differ from those of another, some causes raised. -/
def State.Steps (s m : State) (q : Sequencer) : Prop := ∃ cs, m = { s with seq := q, lnk := raiseAll cs s.lnk }

theorem State.Steps.refl (s : State) : s.Steps s s.seq := ⟨[], by rw [raiseAll_nil]⟩

theorem modCtx_eq (hc : s.seq.ctx = some c) (f : SeqCtx → SeqCtx) :
    modCtx f s = { s with seq := { s.seq with ctx := some (f c) } } := by
  unfold modCtx State.modSeq
  dsimp only
  rw [hc]
  rfl

/-- The context of a stage that has failed (R132). -/
def SeqCtx.failed (c : SeqCtx) (r : Reason) (pan : Option Pan) (now : Nat) : SeqCtx :=
  { c with failure := some ⟨r, c.stage, pan⟩, stage := .recovering, stageStart := now, step := .start }

/-- SYSTEM_MISMATCH of a failure with that reason (R132). -/
theorem reportMismatch_eq (r : Reason) (entry : Nat) (s : State) : ∃ cs reports, reportMismatch r entry s = { s with
    fault := if r = .fault .systemMismatch then s.captured .systemMismatch none (some entry) else s.fault
    lnk := raiseAll cs s.lnk, reports := reports } ∧ (r = .fault .systemMismatch → .mismatch ∈ cs) := by
  unfold reportMismatch
  by_cases hr : r = .fault .systemMismatch
  · refine ⟨[.fault] ++ [.mismatch], s.reports ++ [.fault .systemMismatch none], ?_, fun _ => by simp⟩
    rw [if_pos hr, if_pos hr, notice_eq, reportFault_eq, ← raiseAll_raiseAll]
  · refine ⟨[], s.reports, ?_, fun h => absurd h hr⟩
    rw [if_neg hr, if_neg hr, raiseAll_nil]

/-- A stage failure before its lower requests (R132): the context is in RECOVERING, the faults are reported and the breaker is
opened. -/
theorem failStage_form (hc : s.seq.ctx = some c) (r : Reason) (pan : Option Pan) : ∃ v start fault cs reports,
    failStage r pan s = forPans (lowerSeqRaised c.raised) v
    ∧ v = { s with
      seq := { s.seq with ctx := some (c.failed r pan s.clk.total) }
      bsc := { s.bsc with breaker := s.bsc.breaker.requested, limitStart := start }
      fault := fault, lnk := raiseAll cs s.lnk, reports := reports }
    ∧ .entry ∈ cs ∧ (r = .fault .systemMismatch → .mismatch ∈ cs)
    ∧ (s.fault = none → r ≠ .fault .systemMismatch →
        ∃ f, fault = some f ∧ f.kind = .seqFailed ∧ f.pan = pan ∧ f.entry = some c.entry.id) := by
  obtain ⟨t, ht⟩ : ∃ t, t = { s with seq := { s.seq with ctx := some (c.failed r pan s.clk.total) } } := ⟨_, rfl⟩
  obtain ⟨cs, reports, hmismatch, hmem⟩ := reportMismatch_eq r c.entry.id t
  obtain ⟨v, hv⟩ : ∃ v, v = notice .entry (reportFault .seqFailed pan (some c.entry.id) (reportMismatch r c.entry.id t)) :=
    ⟨_, rfl⟩
  have hfail : failStage r pan s = forPans (lowerSeqRaised c.raised) (openRequest v) := by
    have hmod : modCtx (fun c => { c with
        failure := some ⟨r, c.stage, pan⟩, stage := .recovering, stageStart := s.clk.total, step := .start }) s = t :=
      (modCtx_eq hc _).trans ht.symm
    unfold failStage
    rw [hc]
    dsimp only
    rw [hmod, hv]
  obtain ⟨start, hopen⟩ := openRequest_form v
  have hform : v = { s with
      seq := { s.seq with ctx := some (c.failed r pan s.clk.total) }
      fault := (reportMismatch r c.entry.id t).captured .seqFailed pan (some c.entry.id)
      lnk := raiseAll (cs ++ [.fault] ++ [.entry]) s.lnk, reports := reports ++ [.fault .seqFailed pan] } := by
    rw [hv, notice_eq, reportFault_eq]
    generalize (reportMismatch r c.entry.id t).captured .seqFailed pan (some c.entry.id) = fault
    rw [hmismatch, ht, raiseAll_raiseAll, raiseAll_raiseAll]
  refine ⟨openRequest v, start, (reportMismatch r c.entry.id t).captured .seqFailed pan (some c.entry.id),
    cs ++ [.fault] ++ [.entry] ++ (if s.bsc.breaker.requested = s.bsc.breaker then [] else [.breaker]),
    reports ++ [.fault .seqFailed pan], hfail, ?_, by simp, fun h => by simp [hmem h], fun hnone hr => ?_⟩
  · rw [hopen, hform, raiseAll_raiseAll]
  · have hfault : (reportMismatch r c.entry.id t).fault = none := by
      rw [hmismatch]
      change (if r = .fault .systemMismatch then _ else t.fault) = none
      rw [if_neg hr, ht]
      exact hnone
    exact ⟨_, captured_of_none hfault, rfl, rfl, rfl⟩

/-- A stage of the sequence fails (R132). -/
theorem failStage_fails {q : Sequencer} (hm : s.Steps m q) (hc : q.ctx = some c) :
    s.StageFails (failStage r pan m) c r pan ∧ (r = .fault .systemMismatch → (failStage r pan m).Noticed .mismatch) := by
  obtain ⟨ds, hm⟩ := hm
  have hcm : m.seq.ctx = some c := by rw [hm]; exact hc
  obtain ⟨v, start, fault, cs, reports, hfail, hv, hentry, hmismatch, hfault⟩ := failStage_form hcm r pan
  have hlower : SeqLowers (fun p => (c.raised.get p && (v.ch p).state.isRaised) || v.seqRaiseWaits p) v (failStage r pan m) := by
    rw [hfail]
    refine forPans_lowers fun p w hw => ?_
    have hwaits : w.seqRaiseWaits p = v.seqRaiseWaits p := by
      unfold State.seqRaiseWaits
      rw [hw]
    split
    · next h => exact if_pos (by rw [hw, hwaits]; exact h)
    · next h => exact if_neg (by rw [hw, hwaits]; exact h)
  obtain ⟨pch, freg, breaker, start', arcs, longOps, reports', eval, cs', hu⟩ := hlower.form
  have hstays : Stays v (failStage r pan m) := by
    rw [hfail]
    exact (Stays.refl v).forPans fun p u => (Stays.refl u).lowerSeqRaised _ p
  have hch : ∀ p, v.ch p = s.ch p := fun p => by rw [hv, hm]; rfl
  have hbreaker : v.bsc.breaker = s.bsc.breaker.requested := by rw [hv, hm]
  refine ⟨⟨?_, ?_, ?_, fun hclosed => ?_, fun hnone hr => ?_, fun p hraised hup => ?_, fun p hraised hwaits => ?_⟩, fun hr => ?_⟩
  · rw [hu, hv, hm]
    rfl
  · exact hstays.notices _ (noticed_of_raised (v := m.lnk) (by rw [hv]) hentry)
  · rw [hu, hv, hm]
  · have hreq : s.bsc.breaker.requested = .opening := if_pos hclosed
    rcases hlower.breaker with h | h <;> rw [h, hbreaker, hreq]
    rfl
  · rw [hu, hv]
    exact hfault (by rw [hm]; exact hnone) hr
  · refine hlower.lowers p ?_ (by rw [hch]; exact hup)
    rw [hch, hraised, hup]
    rfl
  · rw [hlower.others p ?_, hch]
    have hwaits' : v.seqRaiseWaits p = false := by
      unfold State.seqRaiseWaits at hwaits ⊢
      rw [hch]
      exact hwaits
    rw [hraised, hwaits']
    rfl
  · exact hstays.notices _ (noticed_of_raised (v := m.lnk) (by rw [hv]) (hmismatch hr))

theorem toLast_fields (c : SeqCtx) (x : SeqResult) (now : Time) : (c.toLast x now).id = c.entry.id
    ∧ (c.toLast x now).result = x ∧ (c.toLast x now).time = now ∧ (c.toLast x now).retryUsed = c.retryUsed
    ∧ ∀ f, c.failure = some f → (c.toLast x now).reason = some f.reason ∧ (c.toLast x now).stage = some f.stage
      ∧ (c.toLast x now).pan = f.pan := by
  unfold SeqCtx.toLast
  cases hf : c.failure with
  | some f =>
    refine ⟨rfl, rfl, rfl, rfl, fun g hg => ?_⟩
    cases hg
    exact ⟨rfl, rfl, rfl⟩
  | none => cases x <;> exact ⟨rfl, rfl, rfl, rfl, fun f hf => nomatch hf⟩

/-- The sequence ends with a result (R103, R130, R133). -/
theorem endSequence_ends (hc : s.seq.ctx = some c) (why : RemovalReason) (x : SeqResult) :
    s.SequenceEnds (endSequence why x s) c why x := by
  obtain ⟨action, heq⟩ := endSequence_eq hc why x
  obtain ⟨hid, hresult, htime, hretry, -⟩ := toLast_fields c x s.clk.time
  rw [heq]
  exact ⟨rfl, rfl, rfl, ⟨_, rfl, hid, hresult, htime, hretry⟩, noticed_of_raised rfl (List.mem_singleton_self _), rfl, rfl, rfl⟩

end StageFailure

end Sys2Proof.Machine

/-! ### The candidate, the limits of a sequence, activation and the reports that SEQ sees (R110, R111, R121, R126, R128 to R132) -/

namespace Sys2Proof.Machine

section Candidate

variable {s t u : State} {c : SeqCtx} {r : Reason} {p q : Pan} {y : LineSys}

theorem retryFits_iff (s : State) (y : LineSys) (failed q : Pan) :
    (decide (q ≠ failed) && s.canRetry y q) = true ↔ s.RetryFits y failed q := by
  simp [State.canRetry, State.RetryFits, State.scrapeRaised, or_assoc]

/-- The retry pantograph (R128): a preferred or an alternate one that has failed does not fit. -/
theorem retryPan_eq (s : State) (y : LineSys) (failed : Pan) : s.retryPan (some y) failed = firstSome
    [(s.cfg.items.panPreferred.get y).filter (fun q => decide (q ≠ failed) && s.canRetry y q),
     (s.cfg.items.panAlternate.get y).filter (fun q => decide (q ≠ failed) && s.canRetry y q)] := by
  have hself : (some failed).filter (fun q => decide (q ≠ failed) && s.canRetry y q) = none := by simp [Option.filter]
  unfold State.retryPan
  dsimp only
  rw [firstSome_two]
  split
  · next h =>
    rw [h, hself]
    rfl
  · split
    · next h =>
      rw [h, hself]
      cases (s.cfg.items.panPreferred.get y).filter fun q => decide (q ≠ failed) && s.canRetry y q <;> rfl
    · rfl

theorem retryPan_of_retries (h : s.RetriesWith y p q) : s.retryPan (some y) p = some q := by
  obtain ⟨hfits, hpair⟩ := h
  have hok := (retryFits_iff s y p q).2 hfits
  rw [retryPan_eq, firstSome_two]
  rcases hpair with hpref | ⟨halt, hother⟩
  · rw [hpref]
    simp only [Option.filter, hok, if_true]
    rfl
  · have hnone : (s.cfg.items.panPreferred.get y).filter (fun q => decide (q ≠ p) && s.canRetry y q) = none := by
      rw [Option.filter_eq_none_iff]
      exact fun d hd hgo => hother d hd ((retryFits_iff s y p d).1 hgo)
    rw [hnone, halt]
    simp only [Option.filter, hok, if_true]
    rfl

theorem retryPan_none {expected : Option LineSys} (h : ∀ y, expected = some y → ∀ q, ¬ s.RetriesWith y p q) :
    s.retryPan expected p = none := by
  cases expected with
  | none => rfl
  | some y =>
    have hpref : ∀ d, s.cfg.items.panPreferred.get y = some d → ¬ s.RetryFits y p d := fun d hd hgo =>
      h y rfl d ⟨hgo, .inl hd⟩
    rw [retryPan_eq, firstSome_two, Option.filter_eq_none_iff.2 fun d hd hgo => hpref d hd ((retryFits_iff s y p d).1 hgo),
      Option.filter_eq_none_iff.2 fun d hd hgo => h y rfl d ⟨(retryFits_iff s y p d).1 hgo, .inr ⟨hd, hpref⟩⟩]
    rfl

/-- A stage is entered (R122). -/
theorem markStage_eq (hc : s.seq.ctx = some c) (st : Stage) : markStage st s = { s with
    seq := { s.seq with ctx := some { c with stage := st, stageStart := s.clk.total, step := .start } }
    lnk := raiseAll [.entry] s.lnk } := by
  rw [markStage, modCtx_eq hc, notice_eq]

/-- CLEARING starts (R126). -/
theorem enterClearing_eq (hc : s.seq.ctx = some c) : enterClearing s = { s with
    seq := { s.seq with ctx := some { c with
      stage := .clearing, stageStart := s.clk.total, step := .start, clearing := s.clearingOffset c } }
    lnk := raiseAll [.entry] s.lnk } := by
  rw [enterClearing, markStage_eq hc, modCtx_eq rfl]
  rfl

/-- A failure of the candidate where the retry is available and SEQ owns no operation of it (R128). -/
theorem candidateFails_retries (hc : s.seq.ctx = some c) (hunused : c.retryUsed = false) (hy : c.expected = some y)
    (hretry : s.RetriesWith y p q) (hjob : ∀ op, (s.ch p).job ≠ some ⟨.sequencer, op⟩) (r : Reason) :
    candidateFails r p s = { s with
      seq := { s.seq with ctx := some { c with
        retryUsed := true, candidate := some q, joined := false, stage := .clearing, stageStart := s.clk.total, step := .start
        clearing := s.clearingOffset { c with candidate := some q } } }
      lnk := raiseAll [.entry] s.lnk } := by
  have hstands : (match (s.ch p).job with
      | some ⟨.sequencer, _⟩ => endJob p .aborted s
      | some _ | none => s) = s := by
    split
    · next h => exact absurd h (hjob _)
    · rfl
    · rfl
  have hpan : s.retryPan c.expected p = some q := by rw [hy, retryPan_of_retries hretry]
  have hfails : candidateFails r p s = enterClearing (modCtx (fun c => { c with
      retryUsed := true, candidate := some q, joined := false }) s) := by
    unfold candidateFails
    rw [hc]
    dsimp only
    rw [hunused, hpan]
    exact congrArg (fun x => enterClearing (modCtx (fun c => { c with
      retryUsed := true, candidate := some q, joined := false }) x)) hstands
  rw [hfails, modCtx_eq hc, enterClearing_eq rfl]
  rfl

/-- A failure of the candidate without a retry (R128, R132). -/
theorem candidateFails_fails (hc : s.seq.ctx = some c)
    (hno : c.retryUsed = true ∨ ∀ y, c.expected = some y → ∀ q, ¬ s.RetriesWith y p q) (r : Reason) :
    candidateFails r p s = failStage r (some p) s := by
  unfold candidateFails
  rw [hc]
  dsimp only
  rcases hno with hused | hno
  · rw [hused]
  · rw [retryPan_none hno]
    cases c.retryUsed <;> rfl

end Candidate

section Reports

variable {s : State} {c : SeqCtx} {r : Reason} {p : Pan}

theorem form_cases (x : Form) : x.reraises = true ↔ x = .lowering ∨ x = .lowerZone := by cases x <;> decide

theorem form_cases' (x : Form) : x.reraises = false ↔ x = .neutral ∨ x = .rideThrough := by cases x <;> decide

/-- The collecting pantograph of a sequence (R131). -/
theorem collecting_iff (c : SeqCtx) (p : Pan) : c.collecting = some p ↔ (c.form = .neutral ∨ c.form = .rideThrough) ∧ c.collector = some p
    ∨ (c.form = .lowering ∨ c.form = .lowerZone) ∧ c.candidate = some p ∧ (c.raised.get p = true ∨ c.joined = true) := by
  rw [← form_cases, ← form_cases']
  unfold SeqCtx.collecting
  cases c.form.reraises with
  | false => simp
  | true => simp [Option.filter_eq_some_iff]

/-- A failed operation of the candidate in RAISING (R127, R128). -/
theorem seqReport_opFailed (hc : s.seq.ctx = some c) (hstage : c.stage = .raising) (hcand : c.candidate = some p)
    (hr : r ≠ .fault .lowerTimeout) : (∀ d, seqReport (.opEnded p .sequencer (.raise d) (.failed r)) s = candidateFails r p s)
      ∧ ∀ q, seqReport (.opEnded p .sequencer (.discMove q) (.failed r)) s = candidateFails r p s := by
  have hif : ∀ x : State, (if c.stage = .raising ∧ c.candidate = some p ∧ r ≠ .fault .lowerTimeout then x else s) = x :=
    fun x => if_pos ⟨hstage, hcand, hr⟩
  unfold seqReport seqOpEnded
  rw [hc]
  exact ⟨fun _ => hif _, fun _ => hif _⟩

theorem seqReport_opOther {op : Op} {out : OpOutcome} (hout : ∀ r, out ≠ .failed r) :
    seqReport (.opEnded p .sequencer op out) s = s := by
  cases out with
  | failed r => exact absurd rfl (hout r)
  | _ =>
    unfold seqReport seqOpEnded
    cases s.seq.ctx <;> cases op <;> rfl

/-- A trip or a contact loss as a running stage sees it (R128, R131). -/
theorem seqReport_panFault {k : FaultKind} (hc : s.seq.ctx = some c) (hrun : c.stage ≠ .recovering)
    (hk : k = .contactLost ∨ k = .addTrip) : seqReport (.fault k (some p)) s = if c.collecting = some p then
      if c.form.reraises ∧ (c.stage = .raising ∨ c.stage = .confirming) then candidateFails (.fault k) p s
      else failStage (.fault k) (some p) s
    else s := by
  have hfault : seqReport (.fault k (some p)) s = seqPanFault k p s := by rcases hk with rfl | rfl <;> rfl
  rw [hfault, seqPanFault, hc]
  exact if_neg hrun

/-- A LOWER_TIMEOUT as a running stage sees it (R124, R131). -/
theorem seqReport_lowerTimeout {role : Option Duty} {bySeq : Bool} (hc : s.seq.ctx = some c) (hrun : c.stage ≠ .recovering)
    (hrole : role ≠ some .collecting ∨ s.bsc.breaker = .opened) : seqReport (.lowerTimeout p role bySeq) s =
      if bySeq = true ∨ (c.stage = .lowering ∧ c.form.reraises = true) then failStage (.fault .lowerTimeout) (some p) s else s := by
  have hno : ¬ (role = some .collecting ∧ s.bsc.breaker ≠ .opened) := fun h => hrole.elim (· h.1) h.2
  change seqLowerTimeout p role bySeq s = _
  unfold seqLowerTimeout
  rw [if_neg hno, hc]
  exact if_neg hrun

theorem seqReport_selectorFailed (hc : s.seq.ctx = some c) (hrun : c.stage ≠ .recovering) :
    seqReport .selectorFailed s = failStage (.fault .selectorFail) none s := by
  change seqSelectorFailed s = _
  unfold seqSelectorFailed
  rw [hc]
  exact if_neg hrun

end Reports

section Offsets

variable {s : State} {c : SeqCtx}

/-- The largest offset from a least value on. -/
theorem foldl_max_spec (offsets : PerPan Nat) (ps : List Pan) (m : Nat) :
    m ≤ ps.foldl (fun m p => max m (offsets.get p)) m
      ∧ (∀ p ∈ ps, offsets.get p ≤ ps.foldl (fun m p => max m (offsets.get p)) m)
      ∧ (ps.foldl (fun m p => max m (offsets.get p)) m = m
        ∨ ∃ p ∈ ps, offsets.get p = ps.foldl (fun m p => max m (offsets.get p)) m) := by
  induction ps generalizing m with
  | nil => exact ⟨le_rfl, (fun p hp => nomatch hp), .inl rfl⟩
  | cons q ps ih =>
    obtain ⟨hle, hall, hsome⟩ := ih (max m (offsets.get q))
    refine ⟨(le_max_left ..).trans hle, fun p hp => ?_, ?_⟩
    · rcases List.mem_cons.1 hp with rfl | hp
      · exact (le_max_right ..).trans hle
      · exact hall p hp
    · rcases hsome with h | ⟨p, hp, h⟩
      · rcases le_total m (offsets.get q) with hq | hq
        · exact .inr ⟨q, List.mem_cons_self, by rw [List.foldl_cons, h, max_eq_right hq]⟩
        · exact .inl (by rw [List.foldl_cons, h, max_eq_left hq])
      · exact .inr ⟨p, List.mem_cons_of_mem _ hp, h⟩

/-- The largest offset of a list that is not empty is that of one of its pantographs, and no smaller than any (R13). -/
theorem largestOffset_spec {offsets : PerPan Nat} {ps : List Pan} (hne : ps ≠ []) :
    (∀ p ∈ ps, offsets.get p ≤ largestOffset offsets ps) ∧ ∃ p ∈ ps, offsets.get p = largestOffset offsets ps := by
  obtain ⟨-, hall, hsome⟩ := foldl_max_spec offsets ps 0
  refine ⟨hall, hsome.elim (fun h => ?_) id⟩
  obtain ⟨p, hp⟩ := List.exists_mem_of_ne_nil ps hne
  exact ⟨p, hp, (Nat.le_zero.1 ((hall p hp).trans h.le)).trans h.symm⟩

theorem usablePans_ne_nil (s : State) : s.usablePans ≠ [] := by
  unfold State.usablePans
  split
  · decide
  · next h => exact h

theorem mem_usablePans (s : State) (p : Pan) :
    p ∈ s.usablePans ↔ (s.ch p).state ≠ .isolated ∨ ∀ q, (s.ch q).state = .isolated := by
  unfold State.usablePans
  split
  · next h =>
    have hall : ∀ q, (s.ch q).state = .isolated := fun q => by
      by_contra hq
      have hmem : q ∈ pansWhere fun p => (s.ch p).state ≠ .isolated := mem_pansWhere.2 (decide_eq_true hq)
      rw [h] at hmem
      exact nomatch hmem
    exact iff_of_true (mem_pan_all p) (.inr hall)
  · next hne =>
    rw [mem_pansWhere, decide_eq_true_iff]
    refine ⟨.inl, fun h => h.elim id fun hall => absurd ?_ hne⟩
    exact List.eq_nil_iff_forall_not_mem.2 fun q hq => of_decide_eq_true (mem_pansWhere.1 hq) (hall q)

/-- The clearing offset (R126). -/
theorem clearingOffset_spec (s : State) (c : SeqCtx) :
    (∀ p, c.candidate = some p → c.roofLive = true → s.clearingOffset c = s.trv.offsets.get p)
    ∧ (c.candidate = none ∨ c.roofLive = false →
        ((∃ p, (c.raisedAt.get p).isSome = true) →
          (∀ p, (c.raisedAt.get p).isSome = true → s.trv.offsets.get p ≤ s.clearingOffset c)
          ∧ ∃ p, (c.raisedAt.get p).isSome = true ∧ s.trv.offsets.get p = s.clearingOffset c)
        ∧ ((∀ p, c.raisedAt.get p = none) →
          (∀ p, (s.ch p).state ≠ .isolated ∨ (∀ q, (s.ch q).state = .isolated) → s.trv.offsets.get p ≤ s.clearingOffset c)
          ∧ ∃ p, ((s.ch p).state ≠ .isolated ∨ ∀ q, (s.ch q).state = .isolated) ∧ s.trv.offsets.get p = s.clearingOffset c)) := by
  obtain ⟨up, hup⟩ : ∃ up, up = pansWhere fun p => (c.raisedAt.get p).isSome := ⟨_, rfl⟩
  have hmem : ∀ p, p ∈ up ↔ (c.raisedAt.get p).isSome = true := fun p => by rw [hup]; exact mem_pansWhere
  refine ⟨fun p hp hlive => ?_, fun hcase => ⟨fun ⟨q, hq⟩ => ?_, fun hnone => ?_⟩⟩
  · unfold State.clearingOffset
    rw [hp, hlive]
  · have hoff : s.clearingOffset c = largestOffset s.trv.offsets up := by
      have hcons : up ≠ [] := List.ne_nil_of_mem ((hmem q).2 hq)
      unfold State.clearingOffset
      rw [← hup]
      cases up with
      | nil => exact absurd rfl hcons
      | cons x xs =>
        rcases hcase with h | h
        · rw [h]
        · rw [h]
          cases c.candidate <;> rfl
    obtain ⟨hall, p, hp, hsome⟩ := largestOffset_spec (offsets := s.trv.offsets) (List.ne_nil_of_mem ((hmem q).2 hq))
    rw [hoff]
    exact ⟨fun p hp => hall p ((hmem p).2 hp), p, (hmem p).1 hp, hsome⟩
  · have hoff : s.clearingOffset c = largestOffset s.trv.offsets s.usablePans := by
      have hnil : up = [] := List.eq_nil_iff_forall_not_mem.2 fun p hp => by
        have h := (hmem p).1 hp
        rw [hnone p] at h
        exact nomatch h
      unfold State.clearingOffset
      rw [← hup, hnil]
      rcases hcase with h | h
      · rw [h]
      · rw [h]
        cases c.candidate <;> rfl
    obtain ⟨hall, p, hp, hsome⟩ := largestOffset_spec (offsets := s.trv.offsets) (usablePans_ne_nil s)
    rw [hoff]
    exact ⟨fun p hp => hall p ((mem_usablePans s p).2 hp), p, (mem_usablePans s p).1 hp, hsome⟩

end Offsets

section Limits

variable {s : State} {c : SeqCtx}

theorem confirmDue_stage (hc : s.seq.ctx = some c) (hdue : s.confirmDue = true) : c.stage = .confirming := by
  unfold State.confirmDue at hdue
  rw [hc] at hdue
  exact of_decide_eq_true (Bool.and_eq_true_iff.1 hdue).1

/-- A confirmation without a line ends the sequence (R129). -/
theorem confirmLimit_absent (hc : s.seq.ctx = some c) (hdue : s.confirmDue = true)
    (hdead : s.ldet.detected = .raw .dead ∨ s.ldet.detected = .unknown) :
    ∃ u, exec .confirmLimitExpiry s = .next (settle u) ∧ u.seq.ctx = none
      ∧ (∃ r, u.seq.last = some r ∧ r.result = .lineAbsent ∧ r.id = c.entry.id ∧ r.time = s.clk.time)
      ∧ u.bsc.reclose = (s.bsc.reclose || s.bsc.traction)
      ∧ u.map.lastRemoval = some ⟨c.entry.id, c.entry.sect, .done, s.clk.time, s.trv.front / 1000⟩
      ∧ u.pch = s.pch ∧ u.seq.mode = s.seq.mode := by
  have hexec : exec .confirmLimitExpiry s = .next (settle (confirmExpires s)) := atLimit_due hdue confirmExpires s
  have hlost : confirmExpires s = lineAbsent s := by
    unfold confirmExpires
    rcases hdead with h | h <;> rw [h]
  obtain ⟨t, ht⟩ : ∃ t, t = if s.bsc.traction then s.modBsc (fun q => { q with reclose := true }) else s := ⟨_, rfl⟩
  have hform : t = { s with bsc := { s.bsc with reclose := s.bsc.reclose || s.bsc.traction } } := by
    rw [ht]
    cases s.bsc.traction with
    | true => simp [State.modBsc]
    | false => simp
  have hends := endSequence_ends (s := t) (c := c) (by rw [hform]; exact hc) .done .lineAbsent
  obtain ⟨action, heq⟩ := endSequence_eq (s := t) (c := c) (by rw [hform]; exact hc) .done .lineAbsent
  obtain ⟨hnone, -, hlast, ⟨r, hr, hid, hresult, htime, -⟩, -⟩ := hends
  have hcall : confirmExpires s = endSequence .done .lineAbsent t := by rw [hlost, ht]; rfl
  rw [hcall] at hexec
  have hclk : t.clk = s.clk := by rw [hform]
  have htrv : t.trv = s.trv := by rw [hform]
  rw [hclk, htrv] at hlast
  rw [hclk] at htime
  refine ⟨_, hexec, hnone, ⟨r, hr, hresult, hid, htime⟩, ?_, hlast, ?_, ?_⟩ <;> rw [heq, hform]

/-- A confirmation on a system other than the expected one fails the stage (R129, R132). -/
theorem confirmLimit_mismatch (hc : s.seq.ctx = some c) (hdue : s.confirmDue = true)
    (hlive : s.ldet.detected ≠ .raw .dead) (hknown : s.ldet.detected ≠ .unknown) :
    ∃ u d, exec .confirmLimitExpiry s = .next (settle u) ∧ u.seq.ctx = some d ∧ d.stage = .recovering
      ∧ d.failure = some ⟨.fault .systemMismatch, .confirming, none⟩ ∧ u.Noticed .mismatch ∧ u.Noticed .entry
      ∧ (s.bsc.breaker = .closed → u.bsc.breaker = .opening) := by
  have hexec : exec .confirmLimitExpiry s = .next (settle (confirmExpires s)) := atLimit_due hdue confirmExpires s
  have hfail : confirmExpires s = failStage (.fault .systemMismatch) none s := by
    unfold confirmExpires
    cases hd : s.ldet.detected with
    | unknown => exact absurd hd hknown
    | raw x => cases x with
      | dead => exact absurd hd hlive
      | _ => rfl
  rw [hfail] at hexec
  obtain ⟨⟨hctx, hentry, -, hopen, -⟩, hmismatch⟩ :=
    failStage_fails (r := .fault .systemMismatch) (pan := none) (State.Steps.refl s) hc
  refine ⟨_, _, hexec, hctx, rfl, ?_, hmismatch rfl, hentry, fun h => hopen (.inl h)⟩
  rw [confirmDue_stage hc hdue]

end Limits

section Activation

variable {s : State} {e : Entry} {rest : List Entry} {a : ActionPoint}

theorem refreshAction_eq (s : State) : ∃ action, refreshAction s = { s with map := { s.map with action := action } } := by
  unfold refreshAction
  split
  · exact ⟨s.map.action, rfl⟩
  · exact ⟨_, rfl⟩

/-- The entry as it becomes ACTIVE (R111). -/
def State.activated (s : State) (e : Entry) : Entry := { e with state := .active, late := s.isLate e }

/-- What an activation does (R110, R111, R121, R123). -/
theorem activate_eq (e : Entry) (s : State) : ∃ action start, activate e s = { s with
    map := { s.map with entries := s.map.entries.map fun d => if d.id = e.id then s.activated e else d, action := action }
    seq := { s.seq with ctx := some { s.newCtx (s.activated e) with stage := .opening, stageStart := s.clk.total, step := .start } }
    bsc := { s.bsc with breaker := s.bsc.breaker.requested, limitStart := start }
    lnk := raiseAll ([.entry] ++ (if s.bsc.breaker.requested = s.bsc.breaker then [] else [.breaker])) s.lnk
    iceEval := true } := by
  obtain ⟨t, ht⟩ : ∃ t, t = refreshAction (notice .entry (s.modMap fun m =>
    { m with entries := m.entries.map fun d => if d.id = e.id then s.activated e else d })) := ⟨_, rfl⟩
  obtain ⟨u, hu⟩ : ∃ u, u = (t.modSeq fun q => { q with ctx := some (t.newCtx (s.activated e)) }).setIceEval true := ⟨_, rfl⟩
  have hactivate : activate e s = enterFrom (t.formOf e.sect).stages u := by rw [hu, ht]; rfl
  obtain ⟨action, hrefresh⟩ := refreshAction_eq (notice .entry (s.modMap fun m =>
    { m with entries := m.entries.map fun d => if d.id = e.id then s.activated e else d }))
  rw [← ht, notice_eq] at hrefresh
  have hctx : u.seq.ctx = some (s.newCtx (s.activated e)) := by
    rw [hu, hrefresh]
    rfl
  have hfirst : ∀ x : Form, enterFrom x.stages u = openRequest (markStage .opening u) := by
    intro x
    have hcons : ∃ l, x.stages = .opening :: l := by cases x <;> exact ⟨_, rfl⟩
    obtain ⟨l, hl⟩ := hcons
    rw [hl]
    unfold enterFrom
    rw [hctx]
    rfl
  obtain ⟨start, hopen⟩ := openRequest_form (markStage .opening u)
  refine ⟨action, start, ?_⟩
  rw [hactivate, hfirst, hopen, markStage_eq hctx, hu, hrefresh]
  simp only [State.modSeq, State.setIceEval, State.modMap, raiseAll_raiseAll]
  have hbits : raiseAll ([.entry] ++ ([.entry] ++ if s.bsc.breaker.requested = s.bsc.breaker then [] else [.breaker])) s.lnk
      = raiseAll ([.entry] ++ if s.bsc.breaker.requested = s.bsc.breaker then [] else [.breaker]) s.lnk :=
    raiseAll_congr (causeBits_cons_cons ..) _
  rw [← hbits, List.append_assoc]
  rfl

/-- The form of a sequence (R121). -/
theorem formOf_eq (s : State) (x : Section) : s.formOf x = (match x with
    | .neutral _ => .neutral
    | .lowerZone => .lowerZone
    | .systemChange y swap _ => if swap = false ∧ s.selectorOfClass y = true then .rideThrough else .lowering) := by
  unfold State.formOf
  cases x with
  | systemChange y swap n => exact if_congr (by simp) rfl rfl
  | neutral n => rfl
  | lowerZone => rfl

theorem watchActivation_idle (hentries : s.map.entries = e :: rest) (haction : s.map.action = some a)
    (hno : ¬ (e.state = .armed ∧ s.entryActive = false ∧ a.id = e.id ∧ a.point ≤ (s.trv.front : Int))) :
    watchActivation s = none := by
  unfold watchActivation
  rw [hentries, haction]
  exact if_neg fun h => hno (by simpa [and_assoc] using h)

/-- The first entry becomes ACTIVE, and its sequence starts with OPENING (R110, R111, R121, R123). -/
theorem watchActivation_activates (hentries : s.map.entries = e :: rest) (haction : s.map.action = some a)
    (hids : ∀ d ∈ rest, d.id ≠ e.id) (harmed : e.state = .armed) (hfree : s.entryActive = false) (hid : a.id = e.id)
    (hreached : a.point ≤ (s.trv.front : Int)) :
    ∃ u c, watchActivation s = some u ∧ u.seq.ctx = some c ∧ c.stage = .opening ∧ c.stageStart = s.clk.total
      ∧ c.entry = { e with state := .active, late := s.isLate e } ∧ u.map.entries = c.entry :: rest
      ∧ c.form = (match e.sect with
          | .neutral _ => .neutral
          | .lowerZone => .lowerZone
          | .systemChange y swap _ => if swap = false ∧ s.selectorOfClass y = true then .rideThrough else .lowering)
      ∧ c.expected = (match e.sect with
          | .systemChange y _ _ => some y
          | .neutral _ | .lowerZone => s.systemPosition)
      ∧ c.roofLive = s.collectorRaised.isSome ∧ c.traction = s.bsc.traction ∧ c.collector = s.collectorRaised
      ∧ c.candidate = (match c.form with
          | .lowering => e.target
          | .lowerZone => s.collectorRaised
          | .neutral | .rideThrough => none)
      ∧ (∀ p, c.raisedAt.get p = if (s.ch p).state.isRaised then (s.ch p).role else none)
      ∧ c.retryUsed = false ∧ c.raised = .all false ∧ c.failure = none ∧ u.Noticed .entry
      ∧ u.bsc.breaker = (if s.bsc.breaker = .closed ∨ s.bsc.breaker = .closing then .opening else s.bsc.breaker)
      ∧ u.bsc.traction = s.bsc.traction ∧ u.pch = s.pch := by
  have hwatch : watchActivation s = some (activate e s) := by
    unfold watchActivation
    rw [hentries, haction]
    exact if_pos (by simp [harmed, hfree, hid, hreached])
  obtain ⟨action, start, heq⟩ := activate_eq e s
  have hmap : (s.map.entries.map fun d => if d.id = e.id then s.activated e else d) = s.activated e :: rest := by
    rw [hentries, List.map_cons, if_pos rfl, List.map_congr_left fun d hd => if_neg (hids d hd), List.map_id']
  rw [hmap] at heq
  refine ⟨activate e s, _, hwatch, congrArg (·.seq.ctx) heq, rfl, rfl, rfl, congrArg (·.map.entries) heq, formOf_eq s e.sect, ?_, rfl,
    rfl, rfl, rfl, fun p => ?_, rfl, rfl, rfl, noticed_of_raised (congrArg State.lnk heq) (by simp), congrArg (·.bsc.breaker) heq,
    congrArg (·.bsc.traction) heq, by rw [heq]⟩
  · change (match e.sect with
      | .systemChange y _ _ => some y
      | .neutral _ | .lowerZone => s.systemPosition) = _
    cases e.sect <;> rfl
  · cases p <;> rfl

end Activation

end Sys2Proof.Machine

/-! ### The stages of a sequence (R122 to R130, R133) -/

namespace Sys2Proof.Machine

section SeqRequests

variable {m : State} {c : SeqCtx} {p : Pan} {y : LineSys} {st : Status}

theorem setStep_eq (hc : m.seq.ctx = some c) (x : StageStep) :
    setStep x m = { m with seq := { m.seq with ctx := some { c with step := x } } } := modCtx_eq hc _

/-! RAISING asks for the raise (R127). -/

/-- The raise of a LOWERED candidate that meets Table 3-4. -/
theorem seqLift_grants (hc : m.seq.ctx = some c) (hlow : (m.ch p).state = .lowered)
    (href : m.raiseRefusal p .collecting = none) : ∃ d freg longOps reports cs, seqLift p m = { m with
      pch := m.pch.set p d, freg := freg
      seq := { m.seq with ctx := some { c with step := .lift, raised := c.raised.set p true } }
      longOps := longOps, lnk := raiseAll cs m.lnk, iceEval := true, reports := reports }
    ∧ d.role = some .collecting ∧ d.state = (if m.lines.contact.get p then .settling else .raising)
    ∧ d.job = some ⟨.sequencer, .raise .collecting⟩ := by
  have hmet := raiseTable_met (firstUnmet_none_iff.1 (href ▸ raiseRefusal_first p .collecting m))
  have hstill : (m.ch p).disc ≠ .moving (discNeed .collecting) := by
    rw [hmet.2.2.2]
    exact fun h => nomatch h
  have hreq := requestRaise_lowered (d := .collecting) (admits_sequencer m p) hlow hstill
  rw [href] at hreq
  have hgrant := grantTaken_eq p .collecting .sequencer m
  obtain ⟨t, ht⟩ : ∃ t, t = grantRaise p .collecting (takeOver p .sequencer (.raise .collecting) m) := ⟨_, rfl⟩
  rw [← ht] at hgrant
  have hlift : seqLift p m = setStep .lift t := by
    unfold seqLift
    rw [hreq, ht]
  have hctx : t.seq.ctx = some { c with raised := c.raised.set p true } := by
    rw [hgrant, hc]
    rfl
  rw [hlift, setStep_eq hctx, hgrant]
  exact ⟨_, _, _, _, _, rfl, rfl, rfl, rfl⟩

theorem seqLift_refused (hlow : (m.ch p).state = .lowered) (hstill : (m.ch p).disc ≠ .moving .connected)
    (href : m.raiseRefusal p .collecting = some st) : seqLift p m = candidateFails (.status st) p m := by
  have hreq := requestRaise_lowered (d := .collecting) (admits_sequencer m p) hlow hstill
  rw [href] at hreq
  unfold seqLift
  rw [hreq]

theorem seqLift_unavailable (hout : (m.ch p).state = .dropped ∨ (m.ch p).state = .isolated) :
    seqLift p m = candidateFails (.status .panUnavailable) p m := by
  have hreq := requestRaise_unavailable (d := .collecting) (admits_sequencer m p) (hout.imp_right .inl)
  unfold seqLift
  rw [hreq]

theorem seqConnect_connected (hdisc : (m.ch p).disc = .resting .connected) : seqConnect p m = seqLift p m := by
  unfold seqConnect
  rw [hdisc]

/-- The disconnector of a LOWERED candidate is moved to CONNECTED. -/
theorem seqConnect_moves (hc : m.seq.ctx = some c) (hlow : (m.ch p).state = .lowered)
    (hdisc : (m.ch p).disc = .resting .disconnected ∨ (m.ch p).disc = .failed) :
    ∃ d longOps reports cs, seqConnect p m = { m with
      pch := m.pch.set p d, seq := { m.seq with ctx := some { c with step := .connect } }
      longOps := longOps, lnk := raiseAll cs m.lnk, reports := reports }
    ∧ d.disc = .moving .connected ∧ d.state = .lowered ∧ d.job = some ⟨.sequencer, .discMove .connected⟩ := by
  have hreq := requestDisc_starts (q := .connected) (admits_sequencer m p)
    (.inl ⟨hlow, hdisc.symm.imp_right fun h => ⟨.disconnected, (fun h => nomatch h), h⟩⟩)
  have htaken := discTaken_eq p .connected .sequencer m
  obtain ⟨t, ht⟩ : ∃ t, t = startDisc p .connected (takeOver p .sequencer (.discMove .connected) m) := ⟨_, rfl⟩
  rw [← ht] at htaken
  have hconnect : seqConnect p m = setStep .connect t := by
    unfold seqConnect
    rcases hdisc with h | h <;> rw [h] <;> dsimp only <;> rw [hreq, ht]
  have hctx : t.seq.ctx = some c := by rw [htaken]; exact hc
  rw [hconnect, setStep_eq hctx, htaken]
  exact ⟨_, _, _, _, rfl, rfl, (freedFor_state ..).trans hlow, rfl⟩

theorem seqConnect_unavailable (hout : (m.ch p).state = .dropped ∨ (m.ch p).state = .isolated) :
    seqConnect p m = candidateFails (.status .panUnavailable) p m := by
  have hreq := requestDisc_unavailable (q := .connected) (admits_sequencer m p) (hout.imp_right .inl)
  unfold seqConnect
  cases (m.ch p).disc with
  | resting q =>
    cases q with
    | connected => exact seqLift_unavailable hout
    | disconnected => dsimp only; rw [hreq]
  | moving q => exact seqLift_unavailable hout
  | failed => dsimp only; rw [hreq]

theorem seqRaise_none (hc : m.seq.ctx = some c) (hcand : c.candidate = none) : seqRaise m = failStage .noTarget none m := by
  unfold seqRaise
  rw [hc]
  dsimp only
  rw [hcand]

theorem seqRaise_connects (hc : m.seq.ctx = some c) (hcand : c.candidate = some p) (hfree : m.scrapeRaised p = false) :
    seqRaise m = seqConnect p m := by
  unfold seqRaise
  rw [hc]
  dsimp only
  rw [hcand]
  dsimp only
  rw [hfree]
  rfl

theorem scrapeRaised_iff (s : State) (p : Pan) :
    s.scrapeRaised p = true ↔ (s.ch p).state.isRaised = true ∧ (s.ch p).role = some .scrape := by
  simp [State.scrapeRaised]

theorem scrapeRaised_down (h : (m.ch p).state.isRaised = false) : m.scrapeRaised p = false := by
  simp [State.scrapeRaised, h]

/-- A scraping candidate is lowered first. -/
theorem seqRaise_lowers (hc : m.seq.ctx = some c) (hcand : c.candidate = some p) (hup : (m.ch p).state.isRaised = true)
    (hrole : (m.ch p).role = some .scrape) : ∃ d freg arcs longOps reports cs, seqRaise m = { m with
      pch := m.pch.set p d, freg := freg, ice := { m.ice with arcs := arcs }
      seq := { m.seq with ctx := some { c with step := .lowerFirst } }
      longOps := longOps, lnk := raiseAll cs m.lnk, iceEval := true, reports := reports }
    ∧ d.state = (if m.lines.lowered.get p then .lowered else .lowering)
    ∧ (m.lines.lowered.get p = false → d.job = some ⟨.sequencer, .lower⟩) := by
  have hreq := requestLower_raised (src := .sequencer) (admits_sequencer m p) hup
  rw [if_pos (.inl hrole)] at hreq
  have htaken := lowerTaken_eq p .sequencer m
  obtain ⟨t, ht⟩ : ∃ t, t = enterLowering p (takeOver p .sequencer .lower m) := ⟨_, rfl⟩
  rw [← ht] at htaken
  have hraise : seqRaise m = setStep .lowerFirst t := by
    unfold seqRaise
    rw [hc]
    dsimp only
    rw [hcand]
    dsimp only
    rw [(scrapeRaised_iff m p).2 ⟨hup, hrole⟩, hreq, ht]
    rfl
  have hctx : t.seq.ctx = some c := by rw [htaken]; exact hc
  rw [hraise, setStep_eq hctx, htaken]
  refine ⟨_, _, _, _, _, _, rfl, lowers_state .., fun hlow => ?_⟩
  unfold State.lowers
  rw [hlow]
  rfl

/-! SELECTING asks for its move (R125). -/

theorem seqSelect_waits (hc : m.seq.ctx = some c) (hmoving : ∃ o q, m.bsc.selector = .moving o q) :
    seqSelect m = setStep .awaitMove m := by
  obtain ⟨o, q, hsel⟩ := hmoving
  unfold seqSelect
  rw [hc]
  dsimp only
  rw [hsel]

/-- The answer to the move that SELECTING asks for. -/
theorem seqSelect_still (hc : m.seq.ctx = some c) (hy : c.expected = some y) (hstill : ∀ o q, m.bsc.selector ≠ .moving o q) :
    seqSelect m = match requestMove (.sys y) .sequencer m with
      | (t, .refused) => failStage (.status .interlock) none t
      | (t, .started) => setStep .ownMove t
      | (t, .atPosition) => t := by
  unfold seqSelect
  rw [hc]
  dsimp only
  rw [hy]
  cases hsel : m.bsc.selector with
  | moving o q => exact absurd hsel (hstill o q)
  | rest q => rfl
  | failed q => rfl

theorem systemPosition_ne {s : State} (h : s.systemPosition ≠ some y) : s.bsc.selector ≠ .rest (.sys y) :=
  fun hsel => h (systemPosition_eq_some.2 hsel)

theorem seqSelect_refused (hc : m.seq.ctx = some c) (hy : c.expected = some y) (hstill : ∀ o q, m.bsc.selector ≠ .moving o q)
    (helse : m.systemPosition ≠ some y)
    (hno : m.bsc.breaker ≠ .opened ∨ betweenClasses m.bsc.selector.leaves (.sys y) = true ∧ m.connectedLowered = false) :
    seqSelect m = failStage (.status .interlock) none m := by
  rw [seqSelect_still hc hy hstill, requestMove_refused (.inr ⟨systemPosition_ne helse, hno⟩)]

theorem seqSelect_starts (hc : m.seq.ctx = some c) (hy : c.expected = some y) (hstill : ∀ o q, m.bsc.selector ≠ .moving o q)
    (helse : m.systemPosition ≠ some y) (hopen : m.bsc.breaker = .opened)
    (hsafe : betweenClasses m.bsc.selector.leaves (.sys y) = false ∨ m.connectedLowered = true) :
    seqSelect m = { m with
      bsc := { m.bsc with
        selector := .moving m.bsc.selector.leaves (.sys y), moveStart := m.clk.time, moveSource := some .sequencer }
      seq := { m.seq with ctx := some { c with step := .ownMove } }, lnk := raiseAll [.selector] m.lnk } := by
  rw [seqSelect_still hc hy hstill, requestMove_starts hstill (systemPosition_ne helse) hopen hsafe]
  exact setStep_eq (m := { m with
    bsc := { m.bsc with
      selector := .moving m.bsc.selector.leaves (.sys y), moveStart := m.clk.time, moveSource := some .sequencer }
    lnk := raiseAll [.selector] m.lnk }) hc .ownMove

end SeqRequests

section Transitions

variable {s : State} {c : SeqCtx} {x : Stage} {rest : List Stage} {p : Pan}

/-! What ends each stage (R123 to R130, R133). -/

theorem watchStage_opening (hc : s.seq.ctx = some c) (hst : c.stage = .opening) :
    watchStage s = if s.bsc.breaker = .opened then some (nextStage c s) else none := by
  unfold watchStage
  rw [hc]
  dsimp only
  rw [hst]

/-- LOWERING goes on while one of its pantographs is up: each of them, or each that scraped, by the form (R124). -/
theorem watchStage_lowering (hc : s.seq.ctx = some c) (hst : c.stage = .lowering) :
    ((∃ p, (c.form.reraises = true ∨ c.form.reraises = false ∧ c.scrapers.get p = true) ∧ s.up p = true) → watchStage s = none)
    ∧ ((∀ p, (c.form.reraises = true ∨ c.form.reraises = false ∧ c.scrapers.get p = true) → s.up p = false) →
      watchStage s = some (nextStage c s)) := by
  have hall : Pan.all.any s.up = true ↔ ∃ p, s.up p = true := by simp [mem_pan_all]
  have hscrapers : (Pan.all.any fun p => c.scrapers.get p && s.up p) = true ↔ ∃ p, c.scrapers.get p = true ∧ s.up p = true := by
    simp [mem_pan_all]
  unfold watchStage
  rw [hc]
  dsimp only
  rw [hst]
  dsimp only
  cases c.form.reraises with
  | true =>
    rw [if_pos rfl]
    refine ⟨fun ⟨p, _, hp⟩ => if_pos (hall.2 ⟨p, hp⟩), fun h => if_neg fun hany => ?_⟩
    obtain ⟨p, hp⟩ := hall.1 hany
    exact absurd ((h p (.inl rfl)).symm.trans hp) (by decide)
  | false =>
    rw [if_neg (by decide)]
    refine ⟨fun ⟨p, hset, hp⟩ => if_pos (hscrapers.2 ⟨p, (hset.resolve_left (by decide)).2, hp⟩), fun h => if_neg fun hany => ?_⟩
    obtain ⟨p, hset, hp⟩ := hscrapers.1 hany
    exact absurd ((h p (.inr ⟨rfl, hset⟩)).symm.trans hp) (by decide)

theorem watchStage_selected (hc : s.seq.ctx = some c) (hst : c.stage = .selecting) (hknown : c.expected.isSome = true)
    (hsel : s.systemPosition = c.expected) : watchStage s = some (nextStage c s) := by
  unfold watchStage
  rw [hc]
  dsimp only
  rw [hst]
  exact if_pos ⟨hknown, hsel⟩

/-- SELECTING waits for the move of another source, and asks for its own then (R125). -/
theorem watchStage_awaitMove (hc : s.seq.ctx = some c) (hst : c.stage = .selecting) (hstep : c.step = .awaitMove)
    (hsel : s.systemPosition ≠ c.expected) : ((∃ o q, s.bsc.selector = .moving o q) → watchStage s = none)
      ∧ ((∀ o q, s.bsc.selector ≠ .moving o q) → watchStage s = some (seqSelect s)) := by
  unfold watchStage
  rw [hc]
  dsimp only
  rw [hst]
  dsimp only
  rw [if_neg fun h => hsel h.2, hstep]
  cases hs : s.bsc.selector with
  | moving o q => exact ⟨fun _ => rfl, fun h => absurd rfl (h o q)⟩
  | rest q => exact ⟨(fun ⟨_, _, h⟩ => nomatch h), fun _ => rfl⟩
  | failed q => exact ⟨(fun ⟨_, _, h⟩ => nomatch h), fun _ => rfl⟩

theorem watchStage_clearing (hc : s.seq.ctx = some c) (hst : c.stage = .clearing) : watchStage s =
    if (c.entry.start + c.entry.length) * 1000 + c.clearing + s.cfg.items.clearMargin * 1000 ≤ s.trv.front
    then some (nextStage c s) else none := by
  unfold watchStage
  rw [hc]
  dsimp only
  rw [hst]
  rfl

theorem watchStage_lowerFirst (hc : s.seq.ctx = some c) (hst : c.stage = .raising) (hcand : c.candidate = some p)
    (hstep : c.step = .lowerFirst) :
    watchStage s = if (s.ch p).state = .lowered then some (seqConnect p (setStep .start s)) else none := by
  unfold watchStage
  rw [hc]
  dsimp only
  rw [hst]
  dsimp only
  rw [hcand, hstep]

theorem watchStage_connect (hc : s.seq.ctx = some c) (hst : c.stage = .raising) (hcand : c.candidate = some p)
    (hstep : c.step = .connect) :
    watchStage s = if (s.ch p).disc = .resting .connected then some (seqLift p (setStep .start s)) else none := by
  unfold watchStage
  rw [hc]
  dsimp only
  rw [hst]
  dsimp only
  rw [hcand, hstep]

theorem watchStage_lift (hc : s.seq.ctx = some c) (hst : c.stage = .raising) (hcand : c.candidate = some p)
    (hstep : c.step = .lift) : watchStage s = if (s.ch p).state = .raised then some (nextStage c s) else none := by
  unfold watchStage
  rw [hc]
  dsimp only
  rw [hst]
  dsimp only
  rw [hcand, hstep]

theorem watchStage_confirming (hc : s.seq.ctx = some c) (hst : c.stage = .confirming) : watchStage s =
    if c.expected.isSome = true ∧ s.ldet.detected.lineSys = c.expected then some (nextStage c s) else none := by
  unfold watchStage
  rw [hc]
  dsimp only
  rw [hst]

theorem watchStage_closing (hc : s.seq.ctx = some c) (hst : c.stage = .closing) :
    (s.bsc.breaker = .closed → watchStage s = some (nextStage c s))
      ∧ (s.bsc.breaker = .opened → watchStage s
        = some (failStage (if c.closeFailed then .fault .breakerFailClose else .status .interlock) none s)) := by
  unfold watchStage
  rw [hc]
  dsimp only
  rw [hst]
  constructor <;> intro h <;> rw [h]

theorem watchStage_recovering (hc : s.seq.ctx = some c) (hst : c.stage = .recovering) :
    (s.bsc.breaker = .opened ∧ (∀ p, c.raised.get p = true →
        (s.ch p).state = .lowered ∨ (s.ch p).state = .dropped ∨ (s.ch p).state = .isolated) →
      watchStage s = some (endSequence .failed .failed s))
    ∧ (¬ (s.bsc.breaker = .opened ∧ ∀ p, c.raised.get p = true →
        (s.ch p).state = .lowered ∨ (s.ch p).state = .dropped ∨ (s.ch p).state = .isolated) → watchStage s = none) := by
  have hrec : s.recovered c = true ↔ s.bsc.breaker = .opened ∧ ∀ p, c.raised.get p = true →
      (s.ch p).state = .lowered ∨ (s.ch p).state = .dropped ∨ (s.ch p).state = .isolated := by
    simp only [State.recovered, Bool.and_eq_true, decide_eq_true_eq, List.all_eq_true, Bool.or_eq_true, mem_pan_all, true_imp_iff,
      Bool.not_eq_true', or_assoc]
    exact and_congr_right fun _ => forall_congr' fun p => by cases c.raised.get p <;> simp
  unfold watchStage
  rw [hc]
  dsimp only
  rw [hst]
  dsimp only
  exact ⟨fun h => if_pos (hrec.2 h), fun h => if_neg fun hr => h (hrec.1 hr)⟩

/-! What follows each stage (R122). -/

theorem enterFrom_performed (hc : s.seq.ctx = some c) (h : s.performed c x = true) :
    enterFrom (x :: rest) s = enterStage x s := by
  unfold enterFrom
  rw [hc]
  exact if_pos h

theorem enterFrom_skipped (hc : s.seq.ctx = some c) (h : s.performed c x = false) :
    enterFrom (x :: rest) s = enterFrom rest s := by
  conv_lhs => unfold enterFrom
  rw [hc]
  exact if_neg (by rw [h]; decide)

/-- The stages from LOWERING on. -/
theorem stages_opening (x : Form) : stagesAfter .opening x.stages = .lowering :: stagesAfter .lowering x.stages := by
  cases x <;> rfl

theorem stages_lowering (x : Form) : ∃ l, (x = .neutral ∨ x = .lowerZone) ∧ stagesAfter .lowering x.stages = .clearing :: l
    ∨ (x = .rideThrough ∨ x = .lowering) ∧ stagesAfter .lowering x.stages = .selecting :: .clearing :: l := by
  cases x
  · exact ⟨_, .inl ⟨.inl rfl, rfl⟩⟩
  · exact ⟨_, .inr ⟨.inr rfl, rfl⟩⟩
  · exact ⟨_, .inr ⟨.inl rfl, rfl⟩⟩
  · exact ⟨_, .inl ⟨.inr rfl, rfl⟩⟩

theorem stages_selecting {x : Form} (h : x = .rideThrough ∨ x = .lowering) :
    ∃ l, stagesAfter .selecting x.stages = .clearing :: l := by
  rcases h with rfl | rfl <;> exact ⟨_, rfl⟩

theorem stages_clearing (x : Form) : (x.reraises = true → stagesAfter .clearing x.stages = [.raising, .confirming, .closing])
    ∧ (x.reraises = false → stagesAfter .clearing x.stages = [.confirming, .closing]) := by
  cases x <;> decide

theorem stages_raising {x : Form} (h : x.reraises = true) : stagesAfter .raising x.stages = [.confirming, .closing] := by
  cases x <;> first | rfl | cases h

theorem stages_confirming (x : Form) : stagesAfter .confirming x.stages = [.closing] := by cases x <;> rfl

theorem stages_closing (x : Form) : stagesAfter .closing x.stages = [] := by cases x <;> rfl

end Transitions

end Sys2Proof.Machine

/-! ### What the stages of a sequence bring about (R122 to R130, R133) -/

namespace Sys2Proof.Machine

section Entered

variable {s m : State} {c d : SeqCtx} {x : Stage} {p : Pan} {y : LineSys} {st : Status}

/-- A context as a stage is entered (R122). -/
def SeqCtx.enters (c : SeqCtx) (x : Stage) (now : Nat) : SeqCtx := { c with stage := x, stageStart := now, step := .start }

/-- From `s` to `m` the context has become another, and some causes have been raised. -/
def State.Marks (s m : State) (d : SeqCtx) : Prop := s.Steps m { s.seq with ctx := some d }

theorem State.Marks.refl (hc : s.seq.ctx = some c) : s.Marks s c := by
  have hseq : ({ s.seq with ctx := some c } : Sequencer) = s.seq := by rw [← hc]
  unfold State.Marks
  rw [hseq]
  exact .refl s

theorem State.Marks.ctx (h : s.Marks m d) : m.seq.ctx = some d := by
  obtain ⟨cs, rfl⟩ := h
  rfl

theorem markStage_marks (hc : s.seq.ctx = some c) (x : Stage) : s.Marks (markStage x s) (c.enters x s.clk.total) :=
  ⟨[.entry], markStage_eq hc x⟩

theorem markStage_noticed (hc : s.seq.ctx = some c) (x : Stage) : (markStage x s).Noticed .entry :=
  noticed_of_raised (congrArg State.lnk (markStage_eq hc x)) (List.mem_singleton_self _)

theorem setStep_marks (hc : s.seq.ctx = some c) (x : StageStep) : s.Marks (setStep x s) { c with step := x } :=
  ⟨[], by rw [setStep_eq hc, raiseAll_nil]⟩

theorem State.Marks.fails (h : s.Marks m d) (r : Reason) (pan : Option Pan) : s.StageFails (failStage r pan m) d r pan :=
  (failStage_fails h rfl).1

/-! CLEARING (R126). -/

theorem enterFrom_clearing (hc : s.seq.ctx = some c) (h : c.form = .neutral ∨ c.form = .lowerZone ∨ s.systemPosition = c.expected) :
    enterFrom (stagesAfter .lowering c.form.stages) s = enterClearing s := by
  obtain ⟨l, ⟨-, hl⟩ | ⟨hform, hl⟩⟩ := stages_lowering c.form
  · rw [hl, enterFrom_performed hc rfl]
    rfl
  · have hat : s.systemPosition = c.expected := by
      rcases h with h | h | h
      · rcases hform with h' | h' <;> cases h.symm.trans h'
      · rcases hform with h' | h' <;> cases h.symm.trans h'
      · exact h
    rw [hl, enterFrom_skipped hc (by simp [State.performed, hat]), enterFrom_performed hc rfl]
    rfl

/-- CLEARING has been entered (R122, R126). -/
theorem clearing_entered (hc : s.seq.ctx = some c) (hw : watchStage s = some (enterClearing s)) :
    ∃ u, watchStage s = some u ∧ u.Noticed .entry ∧ u.pch = s.pch ∧ u.bsc = s.bsc
      ∧ u.seq.ctx = some { c with
          stage := .clearing, stageStart := s.clk.total, step := .start, clearing := s.clearingOffset c } := by
  have heq := enterClearing_eq hc
  exact ⟨_, hw, noticed_of_raised (congrArg State.lnk heq) (List.mem_singleton_self _), by rw [heq], by rw [heq], by rw [heq]⟩

/-! SELECTING (R125). -/

theorem enterFrom_selecting (hc : s.seq.ctx = some c) (hform : c.form = .rideThrough ∨ c.form = .lowering)
    (helse : s.systemPosition ≠ c.expected) :
    enterFrom (stagesAfter .lowering c.form.stages) s = seqSelect (markStage .selecting s) := by
  obtain ⟨l, ⟨h, -⟩ | ⟨-, hl⟩⟩ := stages_lowering c.form
  · rcases h with h | h <;> rcases hform with h' | h' <;> cases h.symm.trans h'
  · rw [hl, enterFrom_performed hc (by simp [State.performed, helse])]
    rfl

theorem selecting_waits (hm : s.Marks m d) (hmoving : ∃ o q, s.bsc.selector = .moving o q) :
    (seqSelect m).pch = s.pch ∧ (seqSelect m).bsc = s.bsc ∧ (seqSelect m).seq.ctx = some { d with step := .awaitMove } := by
  have hctx := hm.ctx
  obtain ⟨cs, hm⟩ := hm
  rw [seqSelect_waits hctx (by rw [hm]; exact hmoving), setStep_eq hctx, hm]
  exact ⟨rfl, rfl, rfl⟩

theorem selecting_fails (hm : s.Marks m d) (hy : d.expected = some y) (hstill : ∀ o q, s.bsc.selector ≠ .moving o q)
    (helse : s.systemPosition ≠ some y)
    (hno : s.bsc.breaker ≠ .opened ∨ betweenClasses s.bsc.selector.leaves (.sys y) = true ∧ s.connectedLowered = false) :
    s.StageFails (seqSelect m) d (.status .interlock) none := by
  have hfails := hm.fails (.status .interlock) none
  have hctx := hm.ctx
  obtain ⟨cs, hform⟩ := hm
  rw [seqSelect_refused hctx hy (by rw [hform]; exact hstill) (by rw [hform]; exact helse) (by rw [hform]; exact hno)]
  exact hfails

theorem selecting_starts (hm : s.Marks m d) (hy : d.expected = some y) (hstill : ∀ o q, s.bsc.selector ≠ .moving o q)
    (helse : s.systemPosition ≠ some y) (hopen : s.bsc.breaker = .opened)
    (hsafe : betweenClasses s.bsc.selector.leaves (.sys y) = false ∨ s.connectedLowered = true) :
    (seqSelect m).bsc.selector = .moving s.bsc.selector.leaves (.sys y)
      ∧ (seqSelect m).bsc.moveSource = some .sequencer ∧ (seqSelect m).pch = s.pch
      ∧ (seqSelect m).seq.ctx = some { d with step := .ownMove } := by
  have hctx := hm.ctx
  obtain ⟨cs, hform⟩ := hm
  rw [seqSelect_starts hctx hy (by rw [hform]; exact hstill) (by rw [hform]; exact helse) (by rw [hform]; exact hopen)
    (by rw [hform]; exact hsafe), hform]
  exact ⟨rfl, rfl, rfl, rfl⟩

/-! RAISING (R127). -/

theorem nextStage_raising (hc : s.seq.ctx = some c) (hst : c.stage = .clearing) (hlive : c.roofLive = true)
    (hform : c.form = .lowering ∨ c.form = .lowerZone) : nextStage c s = seqRaise (markStage .raising s) := by
  unfold nextStage
  rw [hst, (stages_clearing c.form).1 ((form_cases _).2 hform), enterFrom_performed hc (by simp [State.performed, hlive])]
  rfl

/-- SEQ raises the candidate (R39, R127). -/
theorem lift_granted (hm : s.Marks m d) (hlow : (s.ch p).state = .lowered) (href : s.raiseRefusal p .collecting = none) :
    ((seqLift p m).ch p).role = some .collecting
      ∧ ((seqLift p m).ch p).state = (if s.lines.contact.get p then .settling else .raising)
      ∧ ((seqLift p m).ch p).job = some ⟨.sequencer, .raise .collecting⟩ ∧ (∀ q, q ≠ p → (seqLift p m).ch q = s.ch q)
      ∧ (seqLift p m).seq.ctx = some { d with step := .lift, raised := d.raised.set p true } := by
  have hctx := hm.ctx
  obtain ⟨cs, hform⟩ := hm
  obtain ⟨e, freg, longOps, reports, cs', heq, hrole, hstate, hjob⟩ :=
    seqLift_grants (m := m) hctx (by rw [hform]; exact hlow) (by rw [hform]; exact href)
  have hpch : (seqLift p m).pch = s.pch.set p e := by rw [heq, hform]
  obtain ⟨hp, hq⟩ := ch_of_set hpch
  rw [hform] at hstate
  exact ⟨by rw [hp, hrole], by rw [hp, hstate], by rw [hp, hjob], hq, by rw [heq]⟩

theorem connect_granted (hm : s.Marks m d) (href : s.raiseRefusal p .collecting = none) :
    seqConnect p m = seqLift p m := by
  have hmet := raiseTable_met (firstUnmet_none_iff.1 (href ▸ raiseRefusal_first p .collecting s))
  obtain ⟨cs, hform⟩ := hm
  refine seqConnect_connected ?_
  rw [hform]
  exact hmet.2.2.2

/-- SEQ connects the candidate (R52, R127). -/
theorem connect_moves (hm : s.Marks m d) (hlow : (s.ch p).state = .lowered)
    (hdisc : (s.ch p).disc = .resting .disconnected ∨ (s.ch p).disc = .failed) :
    ((seqConnect p m).ch p).disc = .moving .connected ∧ ((seqConnect p m).ch p).state = .lowered
      ∧ ((seqConnect p m).ch p).job = some ⟨.sequencer, .discMove .connected⟩
      ∧ (∀ q, q ≠ p → (seqConnect p m).ch q = s.ch q) ∧ (seqConnect p m).seq.ctx = some { d with step := .connect } := by
  have hctx := hm.ctx
  obtain ⟨cs, hform⟩ := hm
  obtain ⟨e, longOps, reports, cs', heq, hmove, hstate, hjob⟩ :=
    seqConnect_moves (m := m) hctx (by rw [hform]; exact hlow) (by rw [hform]; exact hdisc)
  have hpch : (seqConnect p m).pch = s.pch.set p e := by rw [heq, hform]
  obtain ⟨hp, hq⟩ := ch_of_set hpch
  exact ⟨by rw [hp, hmove], by rw [hp, hstate], by rw [hp, hjob], hq, by rw [heq]⟩

/-- SEQ lowers a scraping candidate first (R127). -/
theorem raise_lowersFirst (hm : s.Marks m d) (hcand : d.candidate = some p) (hup : (s.ch p).state.isRaised = true)
    (hrole : (s.ch p).role = some .scrape) :
    ((seqRaise m).ch p).state = (if s.lines.lowered.get p then .lowered else .lowering)
      ∧ (s.lines.lowered.get p = false → ((seqRaise m).ch p).job = some ⟨.sequencer, .lower⟩)
      ∧ (∀ q, q ≠ p → (seqRaise m).ch q = s.ch q) ∧ (seqRaise m).seq.ctx = some { d with step := .lowerFirst } := by
  have hctx := hm.ctx
  obtain ⟨cs, hform⟩ := hm
  obtain ⟨e, freg, arcs, longOps, reports, cs', heq, hstate, hjob⟩ :=
    seqRaise_lowers (m := m) hctx hcand (by rw [hform]; exact hup) (by rw [hform]; exact hrole)
  have hpch : (seqRaise m).pch = s.pch.set p e := by rw [heq, hform]
  obtain ⟨hp, hq⟩ := ch_of_set hpch
  rw [hform] at hstate hjob
  exact ⟨by rw [hp, hstate], fun h => by rw [hp, hjob h], hq, by rw [heq]⟩

/-- The raise of the candidate is refused (R54, R127). -/
theorem raise_refused (hm : s.Marks m d) (hcand : d.candidate = some p)
    (hno : (s.ch p).state = .lowered ∧ (s.ch p).disc = .resting .connected ∧ s.raiseRefusal p .collecting = some st
      ∨ ((s.ch p).state = .dropped ∨ (s.ch p).state = .isolated) ∧ st = .panUnavailable) :
    seqRaise m = candidateFails (.status st) p m := by
  have hctx := hm.ctx
  obtain ⟨cs, hform⟩ := hm
  have hch : m.ch p = s.ch p := by rw [hform]; rfl
  rcases hno with ⟨hlow, hdisc, href⟩ | ⟨hout, rfl⟩
  · have hfree : m.scrapeRaised p = false := scrapeRaised_down (by rw [hch, hlow]; rfl)
    rw [seqRaise_connects hctx hcand hfree, seqConnect_connected (by rw [hch]; exact hdisc)]
    refine seqLift_refused (by rw [hch]; exact hlow) (by rw [hch, hdisc]; exact fun h => nomatch h) ?_
    rw [hform]
    exact href
  · have hfree : m.scrapeRaised p = false := scrapeRaised_down (by rw [hch]; rcases hout with h | h <;> rw [h] <;> rfl)
    rw [seqRaise_connects hctx hcand hfree]
    exact seqConnect_unavailable (by rw [hch]; exact hout)

theorem raise_connects (hm : s.Marks m d) (hcand : d.candidate = some p) (hlow : (s.ch p).state = .lowered) :
    seqRaise m = seqConnect p m := by
  have hctx := hm.ctx
  obtain ⟨cs, hform⟩ := hm
  refine seqRaise_connects hctx hcand (scrapeRaised_down ?_)
  rw [hform]
  change (s.ch p).state.isRaised = false
  rw [hlow]
  rfl

/-! CONFIRMING and CLOSING (R129, R130). -/

theorem enterFrom_confirming (hc : s.seq.ctx = some c) (hlive : c.roofLive = true) :
    enterFrom [.confirming, .closing] s = enterStage .confirming s :=
  enterFrom_performed hc (by simp [State.performed, hlive])

/-- CONFIRMING has been entered (R129). -/
theorem confirming_entered (hc : s.seq.ctx = some c) (hw : watchStage s = some (enterStage .confirming s)) :
    ∃ u, watchStage s = some u ∧ u.Noticed .entry ∧ u.pch = s.pch ∧ u.bsc = s.bsc
      ∧ u.seq.ctx = some { c with stage := .confirming, stageStart := s.clk.total, step := .start
                                  confirmLen := s.cfg.items.confirmLimit } := by
  obtain ⟨cs, hm⟩ := markStage_marks hc .confirming
  have hctx := (markStage_marks hc .confirming).ctx
  have heq : enterStage .confirming s = { markStage .confirming s with seq := { (markStage .confirming s).seq with
      ctx := some { c.enters .confirming s.clk.total with confirmLen := s.cfg.items.confirmLimit } } } := modCtx_eq hctx _
  refine ⟨_, hw, ?_, ?_, ?_, ?_⟩
  · rw [heq]
    exact markStage_noticed hc .confirming
  · rw [heq, hm]
  · rw [heq, hm]
  · rw [heq]
    rfl

/-- The context of CLOSING (R130). -/
def SeqCtx.closes (c : SeqCtx) (now : Nat) : SeqCtx := { c.enters .closing now with closeFailed := false }

theorem enterStage_closing (hc : s.seq.ctx = some c) : ∃ m, s.Marks m (c.closes s.clk.total) ∧ enterStage .closing s = seqClose m := by
  obtain ⟨cs, hm⟩ := markStage_marks hc .closing
  have hctx := (markStage_marks hc .closing).ctx
  refine ⟨_, ⟨cs, ?_⟩, rfl⟩
  rw [modCtx_eq hctx, hm]
  rfl

theorem closing_closes (hm : s.Marks m d) (hlock : s.interlock = true) (hopen : s.bsc.breaker = .opened) :
    (seqClose m).bsc.breaker = .closing ∧ (seqClose m).bsc.limitStart = s.clk.time ∧ (seqClose m).pch = s.pch
      ∧ (seqClose m).seq.ctx = some d := by
  obtain ⟨cs, hform⟩ := hm
  unfold seqClose
  rw [closeRequest_closes (s := m) (by rw [hform]; exact hlock) (by rw [hform]; exact hopen), hform]
  exact ⟨rfl, rfl, rfl, rfl⟩

theorem closing_stands (hm : s.Marks m d) (hlock : s.interlock = true)
    (hshut : s.bsc.breaker = .closing ∨ s.bsc.breaker = .closed) :
    (seqClose m).bsc = s.bsc ∧ (seqClose m).pch = s.pch ∧ (seqClose m).seq.ctx = some d := by
  obtain ⟨cs, hform⟩ := hm
  unfold seqClose
  rw [closeRequest_stands (s := m) (by rw [hform]; exact hlock) (by rw [hform]; exact hshut), hform]
  exact ⟨rfl, rfl, rfl⟩

theorem closing_fails (hm : s.Marks m d) (h : s.interlock = false ∨ s.bsc.breaker = .opening ∨ s.bsc.breaker = .failed) :
    s.StageFails (seqClose m) d (.status .interlock) none := by
  have hfails := hm.fails (.status .interlock) none
  obtain ⟨cs, hform⟩ := hm
  unfold seqClose
  rw [closeRequest_refused (s := m) (by rw [hform]; exact h)]
  exact hfails

/-! LOWERING (R124). -/

theorem nextStage_lowering (hc : s.seq.ctx = some c) (hst : c.stage = .opening) (h : s.performed c .lowering = true) :
    nextStage c s = seqLowering (markStage .lowering s) := by
  unfold nextStage
  rw [hst, stages_opening, enterFrom_performed hc h]
  rfl

theorem nextStage_notLowering (hc : s.seq.ctx = some c) (hst : c.stage = .opening) (h : s.performed c .lowering = false) :
    nextStage c s = enterFrom (stagesAfter .lowering c.form.stages) s := by
  unfold nextStage
  rw [hst, stages_opening, enterFrom_skipped hc h]

theorem performed_lowering (s : State) (c : SeqCtx) : s.performed c .lowering = true ↔ c.form.reraises = true
    ∨ c.entry.sect.panLimit = some 1 ∧ ∃ p, (s.ch p).state.isRaised = true ∧ (s.ch p).role = some .scrape := by
  simp [State.performed, mem_pan_all, scrapeRaised_iff]

theorem seqLower_step (f : Pan → Bool) (p : Pan) (v : State) :
    if f p then seqLower f p v = (requestLower p .sequencer v).1 else seqLower f p v = v := by
  unfold seqLower
  cases f p <;> rfl

/-- LOWERING lowers every raised pantograph in the forms that raise one again (R124). -/
theorem lowering_all (hm : s.Marks m d) (hform : d.form.reraises = true) (hopen : s.bsc.breaker = .opened) :
    (seqLowering m).seq.ctx = some d ∧ ∀ p, ((seqLowering m).ch p).state = s.downState p := by
  have hctx := hm.ctx
  obtain ⟨cs, heq⟩ := hm
  have hlowers : SeqLowers m.up m (seqLowering m) := by
    have hcall : seqLowering m = forPans (seqLower m.up) m := by
      unfold seqLowering
      rw [hctx]
      exact if_pos hform
    rw [hcall]
    exact forPans_lowers fun p v _ => seqLower_step m.up p v
  obtain ⟨_, _, _, _, _, _, _, _, _, hu⟩ := hlowers.form
  have hdown : ∀ p, m.downState p = s.downState p := fun p => by rw [heq]; rfl
  refine ⟨by rw [hu]; exact hctx, fun p => ?_⟩
  cases hup : m.up p with
  | true => exact ((hlowers.down (.inl (by rw [heq]; exact hopen))).2 p hup).trans (hdown p)
  | false =>
    have hstill : (m.ch p).state.isRaised = false := (Bool.or_eq_false_iff.1 hup).1
    rw [hlowers.others p hup, ← hdown, downState_down hstill]

/-- LOWERING lowers each scraping pantograph in the forms that ride through (R124). -/
theorem lowering_scrapers (hm : s.Marks m c) (hform : c.form.reraises = false) : ∃ d : PerPan Bool,
    (seqLowering m).bsc = s.bsc ∧ (seqLowering m).seq.ctx = some { c with scrapers := d }
      ∧ ∀ p, (d.get p = true ↔ (s.ch p).state.isRaised = true ∧ (s.ch p).role = some .scrape)
        ∧ (d.get p = true → ((seqLowering m).ch p).state = if s.lines.lowered.get p then .lowered else .lowering)
        ∧ (d.get p = false → (seqLowering m).ch p = s.ch p) := by
  have hctx := hm.ctx
  obtain ⟨cs, heq⟩ := hm
  obtain ⟨d, hd⟩ : ∃ d : PerPan Bool, d = ⟨m.scrapeRaised .p1, m.scrapeRaised .p2, m.scrapeRaised .p3, m.scrapeRaised .p4⟩ :=
    ⟨_, rfl⟩
  obtain ⟨t, ht⟩ : ∃ t, t = modCtx (fun c => { c with scrapers := d }) m := ⟨_, rfl⟩
  have hset : ∀ p, d.get p = true ↔ (s.ch p).state.isRaised = true ∧ (s.ch p).role = some .scrape := fun p => by
    have hget : d.get p = m.scrapeRaised p := by rw [hd]; cases p <;> rfl
    rw [hget, scrapeRaised_iff, heq]
    rfl
  have hlowers : SeqLowers d.get t (seqLowering m) := by
    have hcall : seqLowering m = forPans (seqLower d.get) t := by
      unfold seqLowering
      rw [hctx, ht, hd]
      exact if_neg (by rw [hform]; decide)
    rw [hcall]
    exact forPans_lowers fun p v _ => seqLower_step d.get p v
  rw [modCtx_eq hctx] at ht
  have hch : ∀ p, t.ch p = s.ch p := fun p => by rw [ht, heq]; rfl
  have hdown := hlowers.down (.inr fun p hp _ => by rw [hch]; exact ((hset p).1 hp).2)
  obtain ⟨_, _, _, _, _, _, _, _, _, hu⟩ := hlowers.form
  refine ⟨d, hdown.1.trans (by rw [ht, heq]), by rw [hu, ht], fun p => ⟨hset p, fun hp => ?_, fun hp => ?_⟩⟩
  · have hup : (t.ch p).state.isRaised = true := by rw [hch]; exact ((hset p).1 hp).1
    rw [hdown.2 p hp, downState_up hup, ht, heq]
  · exact (hlowers.others p hp).trans (hch p)

end Entered

end Sys2Proof.Machine

/-! ### The limits of the line and of a sequence (R86 to R88, R110, R111, R121 to R133) -/

namespace Sys2Proof.Machine

section Stages

variable {s : State} {c : SeqCtx} {p : Pan} {y : LineSys}

/-- LOWERING with all its pantographs down ends (R124). -/
theorem lowering_ends (hc : s.seq.ctx = some c) (hst : c.stage = .lowering)
    (hdown : ∀ p, (c.form.reraises = true ∨ c.form.reraises = false ∧ c.scrapers.get p = true) → s.up p = false) :
    watchStage s = some (enterFrom (stagesAfter .lowering c.form.stages) s) := by
  rw [(watchStage_lowering hc hst).2 hdown, nextStage, hst]

/-- LOWERING of the form that moves the selector ends in SELECTING (R124, R125). -/
theorem lowering_selects (hc : s.seq.ctx = some c) (hst : c.stage = .lowering) (hform : c.form = .lowering)
    (hdown : ∀ p, s.up p = false) (helse : s.systemPosition ≠ c.expected) :
    watchStage s = some (seqSelect (markStage .selecting s)) := by
  rw [lowering_ends hc hst fun p _ => hdown p, enterFrom_selecting hc (.inr hform) helse]

/-- SELECTING ends with the selector at the expected position (R125). -/
theorem selecting_ends (hc : s.seq.ctx = some c) (hst : c.stage = .selecting) (hform : c.form = .lowering ∨ c.form = .rideThrough)
    (hknown : c.expected.isSome = true) (hsel : s.systemPosition = c.expected) : watchStage s = some (enterClearing s) := by
  obtain ⟨l, hl⟩ := stages_selecting hform.symm
  rw [watchStage_selected hc hst hknown hsel, nextStage, hst, hl, enterFrom_performed hc rfl]
  rfl

/-- CLEARING ends at its threshold (R126). -/
theorem clearing_ends (hc : s.seq.ctx = some c) (hst : c.stage = .clearing)
    (hfront : (c.entry.start + c.entry.length) * 1000 + c.clearing + s.cfg.items.clearMargin * 1000 ≤ s.trv.front) :
    watchStage s = some (nextStage c s) := (watchStage_clearing hc hst).trans (if_pos hfront)

/-- CLEARING ends in RAISING (R126, R127). -/
theorem clearing_raises (hc : s.seq.ctx = some c) (hst : c.stage = .clearing) (hlive : c.roofLive = true)
    (hform : c.form = .lowering ∨ c.form = .lowerZone)
    (hfront : (c.entry.start + c.entry.length) * 1000 + c.clearing + s.cfg.items.clearMargin * 1000 ≤ s.trv.front) :
    watchStage s = some (seqRaise (markStage .raising s)) := by
  rw [clearing_ends hc hst hfront, nextStage_raising hc hst hlive hform]

/-- Forms that raise no pantograph again skip RAISING (R122, R129). -/
theorem clearing_confirms (hc : s.seq.ctx = some c) (hst : c.stage = .clearing) (hlive : c.roofLive = true)
    (hform : c.form = .neutral ∨ c.form = .rideThrough)
    (hfront : (c.entry.start + c.entry.length) * 1000 + c.clearing + s.cfg.items.clearMargin * 1000 ≤ s.trv.front) :
    watchStage s = some (enterStage .confirming s) := by
  rw [clearing_ends hc hst hfront, nextStage, hst, (stages_clearing c.form).2 ((form_cases' _).2 hform),
    enterFrom_confirming hc hlive]

/-- RAISING ends with its candidate RAISED (R127, R129). -/
theorem raising_confirms (hc : s.seq.ctx = some c) (hst : c.stage = .raising) (hstep : c.step = .lift) (hlive : c.roofLive = true)
    (hform : c.form = .lowering ∨ c.form = .lowerZone) (hcand : c.candidate = some p) (hup : (s.ch p).state = .raised) :
    watchStage s = some (enterStage .confirming s) := by
  rw [watchStage_lift hc hst hcand hstep, if_pos hup, nextStage, hst, stages_raising ((form_cases _).2 hform),
    enterFrom_confirming hc hlive]

/-- CONFIRMING ends at the expected system (R129). -/
theorem confirming_ends (hc : s.seq.ctx = some c) (hst : c.stage = .confirming) (hknown : c.expected.isSome = true)
    (hsys : s.ldet.detected.lineSys = c.expected) : watchStage s = some (enterFrom [.closing] s) := by
  rw [watchStage_confirming hc hst, if_pos ⟨hknown, hsys⟩, nextStage, hst, stages_confirming]

/-- CONFIRMING ends the sequence where no traction is wanted back (R129, R130). -/
theorem confirming_done (hc : s.seq.ctx = some c) (hst : c.stage = .confirming) (hknown : c.expected.isSome = true)
    (hsys : s.ldet.detected.lineSys = c.expected) (hcoast : c.traction = false) :
    watchStage s = some (endSequence .done .done s) := by
  rw [confirming_ends hc hst hknown hsys, enterFrom_skipped hc (by simp [State.performed, hcoast])]
  rfl

/-- CONFIRMING ends in CLOSING (R129, R130). -/
theorem confirming_closes (hc : s.seq.ctx = some c) (hst : c.stage = .confirming) (hknown : c.expected.isSome = true)
    (hsys : s.ldet.detected.lineSys = c.expected) (htraction : c.traction = true) (hlive : c.roofLive = true) :
    ∃ m, s.Marks m (c.closes s.clk.total) ∧ watchStage s = some (seqClose m) := by
  obtain ⟨m, hm, hclose⟩ := enterStage_closing hc
  refine ⟨m, hm, ?_⟩
  rw [confirming_ends hc hst hknown hsys, enterFrom_performed hc (by simp [State.performed, htraction, hlive]), hclose]

/-- OPENING with nothing to lower, or LOWERING with its scrapers down, in the forms that ride through (R122, R124). -/
theorem riding_goesOn (hc : s.seq.ctx = some c) (hform : c.form = .neutral ∨ c.form = .rideThrough)
    (h : c.stage = .opening ∧ s.bsc.breaker = .opened
        ∧ (c.entry.sect.panLimit ≠ some 1 ∨ ∀ p, (s.ch p).state.isRaised = false ∨ (s.ch p).role ≠ some .scrape)
      ∨ c.stage = .lowering ∧ ∀ p, c.scrapers.get p = true → s.up p = false) :
    watchStage s = some (enterFrom (stagesAfter .lowering c.form.stages) s) := by
  have hplain := (form_cases' c.form).2 hform
  rcases h with ⟨hst, hopen, hnone⟩ | ⟨hst, hdown⟩
  · have hskip : s.performed c .lowering = false := by
      rw [← Bool.not_eq_true, performed_lowering]
      rintro (h | ⟨hlimit, q, hup, hrole⟩)
      · exact absurd (hplain.symm.trans h) (by decide)
      · rcases hnone with h | h
        · exact h hlimit
        · exact (h q).elim (fun h => absurd (h.symm.trans hup) (by decide)) fun h => h hrole
    rw [watchStage_opening hc hst, if_pos hopen, nextStage_notLowering hc hst hskip]
  · refine lowering_ends hc hst fun p hp => hdown p ?_
    rcases hp with h | h
    · exact absurd (hplain.symm.trans h) (by decide)
    · exact h.2

end Stages

section Settles

/-- Settles O51. -/
theorem lineAndSequenceLimits : Obligations.LineAndSequenceLimits := by
  intro s
  refine ⟨lineLostWatchExpiry_acts, watchLineLost_runs, watchLineLost_ceased, watchReclose_runs, watchReclose_ceased,
    autoReclose_acts, fun c hc hdue => ⟨confirmLimit_absent hc hdue, fun hlive hknown _ => confirmLimit_mismatch hc hdue hlive hknown⟩,
    fun e rest a hentries haction hids => ⟨fun ⟨harmed, hfree, hid, hreached⟩ =>
      watchActivation_activates hentries haction hids harmed hfree hid hreached, watchActivation_idle hentries haction⟩,
    fun c hc => ⟨fun hst hno => ?opens, fun hst hopen hform => ?lowers, fun hst hform ⟨p, hup⟩ => ?lowering,
      fun y hst hform hdown hy helse hstill hopen hsafe => ?selects, fun y hy helse => ⟨fun hst hform hdown => ⟨fun hmoving => ?waits,
        fun hstill hno => ?forbidden⟩, fun hst hstep => ⟨fun hmoving => ?waiting, fun hstill => ⟨fun hno => ?refused,
        fun hopen hsafe => ?asks⟩⟩⟩, fun h => ?clears, fun hst hshort => ?clearing, fun hform => ⟨fun hst hopen hlimit hsome => ?scrapers,
        fun hst ⟨p, hset, hup⟩ => ?scraping, fun h => ⟨fun hat => ?rides, fun y z hride hy hsel hne hcls hopen => ?swaps⟩⟩,
      fun o ho => ho ▸ clearingOffset_spec s c, fun hst hfront => ⟨fun hdead => ?ends, fun hlive hform hnone => ?noTarget,
        fun p hlive hform hcand hlow hjob href => ?grants⟩, fun p hcand => ⟨fun hst hlive hform hfront => ⟨fun hup hrole => ?first,
        fun st hno => ?candidate⟩, fun d hd hlow hjob hdisc => ?connects, fun hst => ⟨fun hstep hno => ?notLowered,
        fun hstep hno => ?notConnected, fun hstep hno => ?notRaised, fun hstep hlow hjob hdisc href => ?lifts,
        fun r hr => seqReport_opFailed hc hst hcand hr⟩⟩, fun p op out hout => seqReport_opOther hout, collecting_iff c,
      fun hrun => ⟨fun k p hk => ⟨fun hcoll hretry => ?retries, fun hcoll hno => ?panFails, fun hother => ?panOther⟩,
        fun p role bySeq hrole => ⟨fun hseq => ?lowerFails, fun hby hno => ?lowerOther⟩, ?selectorFails⟩,
      fun h hlive => ?confirms, fun hst hknown hsys => ⟨fun hcoast => ?done, fun htraction hlive hlock hopen => ?closes,
        fun htraction hlive hlock hshut => ?shut, fun htraction hlive hno => ?closeFails⟩, fun hst => ⟨fun hclosed => ?closed,
        fun hopen => ?reopened⟩, fun r p q y hunused hy hretry hjob => ?again, fun r p hno => ?final,
      fun hst => ⟨fun hopen hdown => ?recovered, fun hno => ?recovering⟩⟩⟩
  case opens => exact (watchStage_opening hc hst).trans (if_neg hno)
  case lowers =>
    have hre := (form_cases c.form).2 hform
    have hw : watchStage s = some (seqLowering (markStage .lowering s)) := by
      rw [watchStage_opening hc hst, if_pos hopen, nextStage_lowering hc hst ((performed_lowering s c).2 (.inl hre))]
    obtain ⟨hctx, hstates⟩ := lowering_all (markStage_marks hc .lowering) hre hopen
    exact ⟨_, hw, (Stays.refl _).seqLowering.notices _ (markStage_noticed hc _), hctx, hstates⟩
  case lowering => exact (watchStage_lowering hc hst).1 ⟨p, .inl ((form_cases _).2 hform), hup⟩
  case selects =>
    exact ⟨_, lowering_selects hc hst hform hdown (hy ▸ helse),
      selecting_starts (markStage_marks hc .selecting) hy hstill helse hopen hsafe⟩
  case waits =>
    obtain ⟨hpch, hbsc, hctx⟩ := selecting_waits (markStage_marks hc .selecting) hmoving
    exact ⟨_, lowering_selects hc hst hform hdown (hy ▸ helse), (Stays.refl _).seqSelect.notices _ (markStage_noticed hc _), hpch,
      hbsc, hctx⟩
  case forbidden =>
    exact ⟨_, lowering_selects hc hst hform hdown (hy ▸ helse),
      selecting_fails (markStage_marks hc .selecting) hy hstill helse hno⟩
  case waiting => exact (watchStage_awaitMove hc hst hstep (hy ▸ helse)).1 hmoving
  case refused =>
    exact ⟨_, (watchStage_awaitMove hc hst hstep (hy ▸ helse)).2 hstill, selecting_fails (.refl hc) hy hstill helse hno⟩
  case asks =>
    exact ⟨_, (watchStage_awaitMove hc hst hstep (hy ▸ helse)).2 hstill,
      selecting_starts (.refl hc) hy hstill helse hopen hsafe⟩
  case clears =>
    refine clearing_entered hc ?_
    rcases h with ⟨hst, hdown, hat⟩ | ⟨hst, hform, hknown, hat⟩
    · rw [lowering_ends hc hst fun p _ => hdown p, enterFrom_clearing hc (.inr (hat.imp_right And.right))]
    · exact selecting_ends hc hst hform hknown hat
  case clearing => exact (watchStage_clearing hc hst).trans (if_neg (Nat.not_le.2 hshort))
  case scrapers =>
    have hw : watchStage s = some (seqLowering (markStage .lowering s)) := by
      rw [watchStage_opening hc hst, if_pos hopen, nextStage_lowering hc hst ((performed_lowering s c).2 (.inr ⟨hlimit, hsome⟩))]
    obtain ⟨d, hbsc, hctx, hset⟩ := lowering_scrapers (markStage_marks hc .lowering) ((form_cases' c.form).2 hform)
    exact ⟨_, d, hw, (Stays.refl _).seqLowering.notices _ (markStage_noticed hc _), hbsc, hctx, hset⟩
  case scraping => exact (watchStage_lowering hc hst).1 ⟨p, .inr ⟨(form_cases' _).2 hform, hset⟩, hup⟩
  case rides =>
    refine clearing_entered hc ?_
    rw [riding_goesOn hc hform h, enterFrom_clearing hc (hat.imp_right .inr)]
  case swaps =>
    have helse : s.systemPosition ≠ some y := fun hpos => hne (by
      have hrest := systemPosition_eq_some.1 hpos
      rw [hsel] at hrest
      cases hrest
      rfl)
    have hstill : ∀ o q, s.bsc.selector ≠ .moving o q := fun o q hmove => by
      rw [hsel] at hmove
      exact nomatch hmove
    have hleaves : s.bsc.selector.leaves = some (.sys z) := by rw [hsel]; rfl
    have hsafe : betweenClasses s.bsc.selector.leaves (.sys y) = false := by
      rw [hleaves]
      simp [betweenClasses, hcls]
    obtain ⟨hmove, hsource, hpch, hctx⟩ :=
      selecting_starts (markStage_marks hc .selecting) hy hstill helse hopen (.inl hsafe)
    refine ⟨_, ?_, (Stays.refl _).seqSelect.notices _ (markStage_noticed hc .selecting), hpch, hmove.trans (by rw [hleaves]), hsource,
      hctx⟩
    rw [riding_goesOn hc hform h, enterFrom_selecting hc (.inl hride) (hy ▸ helse)]
  case ends =>
    refine ⟨_, ?_, endSequence_ends hc .done .done⟩
    rw [clearing_ends hc hst hfront, nextStage_clearing hc hst hdead]
  case noTarget =>
    refine ⟨_, clearing_raises hc hst hlive hform hfront, ?_⟩
    have hmarks := markStage_marks hc .raising
    rw [seqRaise_none hmarks.ctx hnone]
    exact hmarks.fails .noTarget none
  case grants =>
    have hmarks := markStage_marks hc .raising
    refine ⟨_, clearing_raises hc hst hlive hform hfront, ?_⟩
    rw [raise_connects hmarks hcand hlow, connect_granted hmarks href]
    exact lift_granted hmarks hlow href
  case first =>
    exact ⟨_, clearing_raises hc hst hlive hform hfront, raise_lowersFirst (markStage_marks hc .raising) hcand hup hrole⟩
  case candidate =>
    have hmarks := markStage_marks hc .raising
    refine ⟨markStage .raising s, ?_, ?_, hmarks.ctx⟩
    · rw [clearing_raises hc hst hlive hform hfront, raise_refused hmarks hcand hno]
    · rw [markStage_eq hc]
  case connects =>
    rcases hd with ⟨hst, hlive, hform, hfront, rfl⟩ | ⟨hst, hstep, rfl⟩
    · have hmarks := markStage_marks hc .raising
      refine ⟨_, clearing_raises hc hst hlive hform hfront, ?_⟩
      rw [raise_connects hmarks hcand hlow]
      exact connect_moves hmarks hlow hdisc
    · have hmoves := connect_moves (setStep_marks hc .start) hlow hdisc
      exact ⟨_, (watchStage_lowerFirst hc hst hcand hstep).trans (if_pos hlow), hmoves⟩
  case notLowered => exact (watchStage_lowerFirst hc hst hcand hstep).trans (if_neg hno)
  case notConnected => exact (watchStage_connect hc hst hcand hstep).trans (if_neg hno)
  case notRaised => exact (watchStage_lift hc hst hcand hstep).trans (if_neg hno)
  case lifts =>
    have hmarks := setStep_marks hc .start
    have hgranted := lift_granted hmarks hlow href
    refine ⟨seqLift p (setStep .start s), ?_, hgranted⟩
    rcases hstep with hstep | hstep
    · rw [watchStage_lowerFirst hc hst hcand hstep, if_pos hlow, connect_granted hmarks href]
    · rw [watchStage_connect hc hst hcand hstep, if_pos hdisc]
  case retries =>
    obtain ⟨hform, hst⟩ := hretry
    exact (seqReport_panFault hc hrun hk).trans ((if_pos hcoll).trans (if_pos ⟨(form_cases _).2 hform, hst⟩))
  case panFails =>
    have hnot : ¬ (c.form.reraises = true ∧ (c.stage = .raising ∨ c.stage = .confirming)) := by
      rintro ⟨hre, hst⟩
      rcases hno with h | h | ⟨hraise, hconfirm⟩
      · exact absurd (hre.symm.trans ((form_cases' _).2 (.inl h))) (by decide)
      · exact absurd (hre.symm.trans ((form_cases' _).2 (.inr h))) (by decide)
      · exact hst.elim hraise hconfirm
    rw [(seqReport_panFault hc hrun hk).trans ((if_pos hcoll).trans (if_neg hnot))]
    exact (State.Marks.refl hc).fails ..
  case panOther => exact (seqReport_panFault hc hrun hk).trans (if_neg hother)
  case lowerFails =>
    rw [(seqReport_lowerTimeout hc hrun hrole).trans (if_pos (hseq.imp_right fun h => ⟨h.1, (form_cases _).2 h.2⟩))]
    exact (State.Marks.refl hc).fails ..
  case lowerOther =>
    refine (seqReport_lowerTimeout hc hrun hrole).trans (if_neg ?_)
    rintro (h | ⟨hst, hre⟩)
    · exact absurd (hby.symm.trans h) (by decide)
    · rcases hno with h | h
      · exact h hst
      · exact absurd (hre.symm.trans ((form_cases' _).2 h)) (by decide)
  case selectorFails =>
    rw [seqReport_selectorFailed hc hrun]
    exact (State.Marks.refl hc).fails ..
  case confirms =>
    refine confirming_entered hc ?_
    rcases h with ⟨hst, hform, hfront⟩ | ⟨hst, hstep, hform, p, hcand, hup⟩
    · exact clearing_confirms hc hst hlive hform hfront
    · exact raising_confirms hc hst hstep hlive hform hcand hup
  case done => exact ⟨_, confirming_done hc hst hknown hsys hcoast, endSequence_ends hc .done .done⟩
  case closes =>
    obtain ⟨m, hm, hw⟩ := confirming_closes hc hst hknown hsys htraction hlive
    exact ⟨_, hw, closing_closes hm hlock hopen⟩
  case shut =>
    obtain ⟨m, hm, hw⟩ := confirming_closes hc hst hknown hsys htraction hlive
    exact ⟨_, hw, closing_stands hm hlock hshut⟩
  case closeFails =>
    obtain ⟨m, hm, hw⟩ := confirming_closes hc hst hknown hsys htraction hlive
    exact ⟨_, hw, closing_fails hm hno⟩
  case closed =>
    refine ⟨_, ((watchStage_closing hc hst).1 hclosed).trans ?_, endSequence_ends hc .done .done⟩
    rw [nextStage, hst, stages_closing]
    rfl
  case reopened => exact ⟨_, (watchStage_closing hc hst).2 hopen, (State.Marks.refl hc).fails ..⟩
  case again =>
    rw [candidateFails_retries hc hunused hy hretry hjob r]
    exact ⟨rfl, rfl, rfl⟩
  case final =>
    rw [candidateFails_fails hc hno r]
    exact (State.Marks.refl hc).fails ..
  case recovered =>
    refine ⟨_, (watchStage_recovering hc hst).1 ⟨hopen, hdown⟩, endSequence_ends hc .failed .failed, fun f hf r hr => ?_⟩
    obtain ⟨action, heq⟩ := endSequence_eq hc .failed .failed
    rw [heq] at hr
    cases hr
    exact (toLast_fields c .failed s.clk.time).2.2.2.2 f hf
  case recovering =>
    refine (watchStage_recovering hc hst).2 fun ⟨hopen, hdown⟩ => ?_
    rcases hno with hno | ⟨p, hraised, hup⟩
    · exact hno hopen
    · have hstate := hdown p hraised
      unfold State.up at hup
      rcases hstate with h | h | h <;> rw [h] at hup <;> exact nomatch hup

end Settles

end Sys2Proof.Machine
